-- ==== Sys2Proof/Word.lean ====
section
/-!
DEFINITION. The word types of the machine (spec/00_scope.md R6, R8; spec/20_memory.md R90): a byte is 8
bits, a halfword 16, a word 32, a doubleword 64. The manual numbers bits from the most significant end; the
bit-field helpers that do so are in Sys2Proof/Machine/Bits.lean.
-/

namespace Sys2Proof

/-- Eight bits (R90). -/
abbrev Byte := BitVec 8
/-- Sixteen bits (R90). -/
abbrev Half := BitVec 16
/-- Thirty-two bits, the unit of transfer between CPU and memory (R90). -/
abbrev Word := BitVec 32
/-- Sixty-four bits: a register pair, a doubleword operand, a PSD, a WCS location (R8, R90). -/
abbrev Dword := BitVec 64
/-- A 24-bit byte address, manual bits 8-31 (R6, R100). -/
abbrev Addr := BitVec 24
/-- An 18-bit halfword address, PSD1 bits 13-30 (R34). -/
abbrev HAddr := BitVec 18
/-- A general register number (R30). -/
abbrev Reg := BitVec 3
/-- A priority level number 0x00..0x7F, a device number or a logical channel number (R50, R671, R680). -/
abbrev Level := BitVec 7

end Sys2Proof
end

