-- ==== Sys2Proof/Machine/Bits.lean ====
section
/-!
DEFINITION. Bit fields with the manual's numbering (spec/00_scope.md R8, R9: bit 0 is the most significant),
single-bit updates, and the one canonical form of a sparse store (memory and WCS are kept in it).
-/

namespace Sys2Proof

/-- `v[a : a+len-1]` in the manual's numbering (R9): `len` bits of `v` from manual bit `a` on. -/
def bits {n : Nat} (v : BitVec n) (a len : Nat) : BitVec len := v.extractLsb' (n - a - len) len

/-- `v[a]` in the manual's numbering (R9). -/
def bitAt {n : Nat} (v : BitVec n) (a : Nat) : Bool := v.getLsbD (n - 1 - a)

/-- `v` with the bit of weight `2^i` made `b`. -/
def putBit {n : Nat} (v : BitVec n) (i : Nat) (b : Bool) : BitVec n :=
  if b then v ||| BitVec.twoPow n i else v &&& ~~~(BitVec.twoPow n i)

/-- `v` with manual bit `a` made `b` (R8). -/
def putBitAt {n : Nat} (v : BitVec n) (a : Nat) (b : Bool) : BitVec n := putBit v (n - 1 - a) b

/-- A sparse store: addresses strictly rising, no entry equal to what an unlisted address reads as. -/
abbrev Sparse (α : Type) := List (Nat × α)

namespace Sparse

/-- What address `a` reads as: its entry, or `d` where no entry lists it. -/
def get {α : Type} (d : α) : Sparse α → Nat → α
  | [], _ => d
  | (k, v) :: t, a => if a = k then v else get d t a

/-- An entry in front of `t`, left out when it holds the default. -/
def cons {α : Type} [DecidableEq α] (d : α) (a : Nat) (v : α) (t : Sparse α) : Sparse α :=
  if v = d then t else (a, v) :: t

/-- `v` stored at `a`, the canonical form kept. -/
def set {α : Type} [DecidableEq α] (d : α) : Sparse α → Nat → α → Sparse α
  | [], a, v => cons d a v []
  | (k, w) :: t, a, v =>
    if a < k then cons d a v ((k, w) :: t)
    else if a = k then cons d a v t
    else (k, w) :: set d t a v

/-- The canonical form, for entries at `lo` and above. -/
def wfFrom {α : Type} [DecidableEq α] (d : α) (lo : Nat) : Sparse α → Bool
  | [] => true
  | (k, v) :: t => decide (lo ≤ k) && decide (v ≠ d) && wfFrom d (k + 1) t

/-- The canonical form. -/
def wf {α : Type} [DecidableEq α] (d : α) (l : Sparse α) : Bool := wfFrom d 0 l

end Sparse

end Sys2Proof
end

