-- ==== Sys2Proof/Syntax.lean ====
section
/-!
DEFINITION. The instructions: one constructor for each row of spec/opcode_table.json, in the table's order,
with the operands that spec/30_encoding.md R164 to R176 and R185 give it. Bits a format leaves unassigned are
no operands (R170, decision D39).
-/

namespace Sys2Proof

/-- The memory reference operand, bits 9-31 of a memory reference instruction or of an indirect word (R94,
R164): `x` the index field (bits 9-10), `i` the indirect bit (bit 11), `a` bits 12-31, that is F, the word
address and C. -/
structure MemRef where
  x : BitVec 2
  i : Bool
  a : BitVec 20
  deriving DecidableEq, Repr

/-- The SEL 32/70 instructions. `r`, `rd`, `rs`, `rz` are register fields, `m` the memory reference, `v` an
immediate, `n` a shift count, `b` a bit number in a byte, `y` a byte number in a register, `d` a condition or
device number, `l` a level, `p` a protect register, `k` a Class F constant, `c` a function code. -/
inductive Instr where
  /-- LB (R225). -/
  | lb (r : Reg) (m : MemRef)
  /-- LH (R226). -/
  | lh (r : Reg) (m : MemRef)
  /-- LW (R227). -/
  | lw (r : Reg) (m : MemRef)
  /-- LD (R228). -/
  | ld (r : Reg) (m : MemRef)
  /-- LMB (R229). -/
  | lmb (r : Reg) (m : MemRef)
  /-- LMH (R230). -/
  | lmh (r : Reg) (m : MemRef)
  /-- LMW (R231). -/
  | lmw (r : Reg) (m : MemRef)
  /-- LMD (R232). -/
  | lmd (r : Reg) (m : MemRef)
  /-- LNB (R233). -/
  | lnb (r : Reg) (m : MemRef)
  /-- LNH (R234). -/
  | lnh (r : Reg) (m : MemRef)
  /-- LNW (R235). -/
  | lnw (r : Reg) (m : MemRef)
  /-- LND (R236). -/
  | lnd (r : Reg) (m : MemRef)
  /-- LI (R237). -/
  | li (r : Reg) (v : Half)
  /-- LEA (R238). -/
  | lea (r : Reg) (m : MemRef)
  /-- LEAR (R239). -/
  | lear (r : Reg) (m : MemRef)
  /-- LA (R240). -/
  | la (r : Reg) (m : MemRef)
  /-- LEM (R241). -/
  | lem (rd : Reg) (rs : Reg) (rz : Reg)
  /-- CEMA (R242). -/
  | cema (rd : Reg) (rs : Reg) (rz : Reg)
  /-- LF (R243). -/
  | lf (r : Reg) (m : MemRef)
  /-- STB (R250). -/
  | stb (r : Reg) (m : MemRef)
  /-- STH (R251). -/
  | sth (r : Reg) (m : MemRef)
  /-- STW (R252). -/
  | stw (r : Reg) (m : MemRef)
  /-- STD (R253). -/
  | std (r : Reg) (m : MemRef)
  /-- STMB (R254). -/
  | stmb (r : Reg) (m : MemRef)
  /-- STMH (R255). -/
  | stmh (r : Reg) (m : MemRef)
  /-- STMW (R256). -/
  | stmw (r : Reg) (m : MemRef)
  /-- STMD (R257). -/
  | stmd (r : Reg) (m : MemRef)
  /-- STF (R262). -/
  | stf (r : Reg) (m : MemRef)
  /-- SEM (R263). -/
  | sem (rd : Reg) (rs : Reg) (rz : Reg)
  /-- ZMB (R265). -/
  | zmb (m : MemRef)
  /-- ZMH (R266). -/
  | zmh (m : MemRef)
  /-- ZMW (R267). -/
  | zmw (m : MemRef)
  /-- ZMD (R268). -/
  | zmd (m : MemRef)
  /-- ZR (R269). -/
  | zr (r : Reg)
  /-- TSCR (R281). -/
  | tscr (rd : Reg) (rs : Reg)
  /-- TRSC (R282). -/
  | trsc (rd : Reg) (rs : Reg)
  /-- TRR (R283). -/
  | trr (rd : Reg) (rs : Reg)
  /-- TRRM (R284). -/
  | trrm (rd : Reg) (rs : Reg)
  /-- TRN (R287). -/
  | trn (rd : Reg) (rs : Reg)
  /-- TRNM (R288). -/
  | trnm (rd : Reg) (rs : Reg)
  /-- TRC (R289). -/
  | trc (rd : Reg) (rs : Reg)
  /-- TRCM (R290). -/
  | trcm (rd : Reg) (rs : Reg)
  /-- XCR (R291). -/
  | xcr (rd : Reg) (rs : Reg)
  /-- XCRM (R292). -/
  | xcrm (rd : Reg) (rs : Reg)
  /-- TRP (R285). -/
  | trp (p : BitVec 4) (r : Reg)
  /-- TPR (R286). -/
  | tpr (p : BitVec 4) (r : Reg)
  /-- TRSW (R293). -/
  | trsw (r : Reg)
  /-- SEA (R310). -/
  | sea
  /-- CEA (R311). -/
  | cea
  /-- LMAP (R312). -/
  | lmap (r : Reg)
  /-- TMAPR (R313). -/
  | tmapr (rd : Reg) (rs : Reg)
  /-- WWCS (R326). -/
  | wwcs (rd : Reg) (rs : Reg)
  /-- RWCS (R327). -/
  | rwcs (rd : Reg) (rs : Reg)
  /-- JWCS (R330). -/
  | jwcs (m : MemRef)
  /-- BU (R342). -/
  | bu (m : MemRef)
  /-- BCT (R343). -/
  | bct (d : BitVec 3) (m : MemRef)
  /-- BCF (R344). -/
  | bcf (d : BitVec 3) (m : MemRef)
  /-- BFT (R345). -/
  | bft (m : MemRef)
  /-- BL (R346). -/
  | bl (m : MemRef)
  /-- BIB (R347). -/
  | bib (r : Reg) (i : Bool) (a : BitVec 20)
  /-- BIH (R348). -/
  | bih (r : Reg) (i : Bool) (a : BitVec 20)
  /-- BIW (R349). -/
  | biw (r : Reg) (i : Bool) (a : BitVec 20)
  /-- BID (R350). -/
  | bid (r : Reg) (i : Bool) (a : BitVec 20)
  /-- CAMB (R372). -/
  | camb (r : Reg) (m : MemRef)
  /-- CAMH (R373). -/
  | camh (r : Reg) (m : MemRef)
  /-- CAMW (R374). -/
  | camw (r : Reg) (m : MemRef)
  /-- CAMD (R375). -/
  | camd (r : Reg) (m : MemRef)
  /-- CAR (R376). -/
  | car (rd : Reg) (rs : Reg)
  /-- CI (R377). -/
  | ci (r : Reg) (v : Half)
  /-- CMMB (R379). -/
  | cmmb (r : Reg) (m : MemRef)
  /-- CMMH (R380). -/
  | cmmh (r : Reg) (m : MemRef)
  /-- CMMW (R381). -/
  | cmmw (r : Reg) (m : MemRef)
  /-- CMMD (R382). -/
  | cmmd (r : Reg) (m : MemRef)
  /-- CMR (R383). -/
  | cmr (rd : Reg) (rs : Reg)
  /-- ANMB (R402). -/
  | anmb (r : Reg) (m : MemRef)
  /-- ANMH (R403). -/
  | anmh (r : Reg) (m : MemRef)
  /-- ANMW (R404). -/
  | anmw (r : Reg) (m : MemRef)
  /-- ANMD (R405). -/
  | anmd (r : Reg) (m : MemRef)
  /-- ANR (R406). -/
  | anr (rd : Reg) (rs : Reg)
  /-- ORMB (R407). -/
  | ormb (r : Reg) (m : MemRef)
  /-- ORMH (R408). -/
  | ormh (r : Reg) (m : MemRef)
  /-- ORMW (R409). -/
  | ormw (r : Reg) (m : MemRef)
  /-- ORMD (R410). -/
  | ormd (r : Reg) (m : MemRef)
  /-- ORR (R411). -/
  | orr (rd : Reg) (rs : Reg)
  /-- ORRM (R412). -/
  | orrm (rd : Reg) (rs : Reg)
  /-- EOMB (R413). -/
  | eomb (r : Reg) (m : MemRef)
  /-- EOMH (R414). -/
  | eomh (r : Reg) (m : MemRef)
  /-- EOMW (R415). -/
  | eomw (r : Reg) (m : MemRef)
  /-- EOMD (R416). -/
  | eomd (r : Reg) (m : MemRef)
  /-- EOR (R417). -/
  | eor (rd : Reg) (rs : Reg)
  /-- EORM (R418). -/
  | eorm (rd : Reg) (rs : Reg)
  /-- NOR (R442). -/
  | nor (r : Reg) (rc : Reg)
  /-- NORD (R443). -/
  | nord (r : Reg) (rc : Reg)
  /-- SCZ (R444). -/
  | scz (r : Reg) (rc : Reg)
  /-- SLA (R445). -/
  | sla (r : Reg) (n : BitVec 5)
  /-- SLL (R446). -/
  | sll (r : Reg) (n : BitVec 5)
  /-- SLC (R447). -/
  | slc (r : Reg) (n : BitVec 5)
  /-- SLAD (R448). -/
  | slad (r : Reg) (n : BitVec 5)
  /-- SLLD (R449). -/
  | slld (r : Reg) (n : BitVec 5)
  /-- SRA (R450). -/
  | sra (r : Reg) (n : BitVec 5)
  /-- SRL (R451). -/
  | srl (r : Reg) (n : BitVec 5)
  /-- SRC (R452). -/
  | src (r : Reg) (n : BitVec 5)
  /-- SRAD (R453). -/
  | srad (r : Reg) (n : BitVec 5)
  /-- SRLD (R454). -/
  | srld (r : Reg) (n : BitVec 5)
  /-- SBM (R473). -/
  | sbm (b : BitVec 3) (m : MemRef)
  /-- ZBM (R475). -/
  | zbm (b : BitVec 3) (m : MemRef)
  /-- ABM (R477). -/
  | abm (b : BitVec 3) (m : MemRef)
  /-- TBM (R479). -/
  | tbm (b : BitVec 3) (m : MemRef)
  /-- SBR (R474). -/
  | sbr (b : BitVec 3) (r : Reg) (y : BitVec 2)
  /-- ZBR (R476). -/
  | zbr (b : BitVec 3) (r : Reg) (y : BitVec 2)
  /-- ABR (R478). -/
  | abr (b : BitVec 3) (r : Reg) (y : BitVec 2)
  /-- TBR (R480). -/
  | tbr (b : BitVec 3) (r : Reg) (y : BitVec 2)
  /-- ADMB (R492). -/
  | admb (r : Reg) (m : MemRef)
  /-- ADMH (R493). -/
  | admh (r : Reg) (m : MemRef)
  /-- ADMW (R494). -/
  | admw (r : Reg) (m : MemRef)
  /-- ADMD (R495). -/
  | admd (r : Reg) (m : MemRef)
  /-- ADR (R496). -/
  | adr (rd : Reg) (rs : Reg)
  /-- ADRM (R497). -/
  | adrm (rd : Reg) (rs : Reg)
  /-- ADI (R498). -/
  | adi (r : Reg) (v : Half)
  /-- ARMB (R500). -/
  | armb (r : Reg) (m : MemRef)
  /-- ARMH (R501). -/
  | armh (r : Reg) (m : MemRef)
  /-- ARMW (R502). -/
  | armw (r : Reg) (m : MemRef)
  /-- ARMD (R503). -/
  | armd (r : Reg) (m : MemRef)
  /-- SUMB (R504). -/
  | sumb (r : Reg) (m : MemRef)
  /-- SUMH (R505). -/
  | sumh (r : Reg) (m : MemRef)
  /-- SUMW (R506). -/
  | sumw (r : Reg) (m : MemRef)
  /-- SUMD (R507). -/
  | sumd (r : Reg) (m : MemRef)
  /-- SUR (R508). -/
  | sur (rd : Reg) (rs : Reg)
  /-- SURM (R509). -/
  | surm (rd : Reg) (rs : Reg)
  /-- SUI (R510). -/
  | sui (r : Reg) (v : Half)
  /-- ES (R511). -/
  | es (r : Reg)
  /-- RND (R512). -/
  | rnd (r : Reg)
  /-- MPMB (R531). -/
  | mpmb (r : Reg) (m : MemRef)
  /-- MPMH (R532). -/
  | mpmh (r : Reg) (m : MemRef)
  /-- MPMW (R533). -/
  | mpmw (r : Reg) (m : MemRef)
  /-- MPR (R534). -/
  | mpr (rd : Reg) (rs : Reg)
  /-- MPI (R535). -/
  | mpi (r : Reg) (v : Half)
  /-- DVMB (R537). -/
  | dvmb (r : Reg) (m : MemRef)
  /-- DVMH (R538). -/
  | dvmh (r : Reg) (m : MemRef)
  /-- DVMW (R539). -/
  | dvmw (r : Reg) (m : MemRef)
  /-- DVR (R540). -/
  | dvr (rd : Reg) (rs : Reg)
  /-- DVI (R541). -/
  | dvi (r : Reg) (v : Half)
  /-- ADFW (R570). -/
  | adfw (r : Reg) (m : MemRef)
  /-- ADFD (R571). -/
  | adfd (r : Reg) (m : MemRef)
  /-- SUFW (R572). -/
  | sufw (r : Reg) (m : MemRef)
  /-- SUFD (R573). -/
  | sufd (r : Reg) (m : MemRef)
  /-- MPFW (R574). -/
  | mpfw (r : Reg) (m : MemRef)
  /-- MPFD (R575). -/
  | mpfd (r : Reg) (m : MemRef)
  /-- DVFW (R576). -/
  | dvfw (r : Reg) (m : MemRef)
  /-- DVFD (R578). -/
  | dvfd (r : Reg) (m : MemRef)
  /-- BRI (R603). -/
  | bri (m : MemRef)
  /-- LPSD (R604). -/
  | lpsd (m : MemRef)
  /-- LPSDCM (R605). -/
  | lpsdcm (m : MemRef)
  /-- LCS (R606). -/
  | lcs (r : Reg)
  /-- EXR (R608). -/
  | exr (r : Reg)
  /-- EXRR (R609). -/
  | exrr (r : Reg)
  /-- EXM (R610). -/
  | exm (m : MemRef)
  /-- HALT (R612). -/
  | halt
  /-- WAIT (R613). -/
  | wait
  /-- NOP (R614). -/
  | nop
  /-- CALM (R615). -/
  | calm (flags : BitVec 10)
  /-- SVC (R616). -/
  | svc (ind : BitVec 4) (call : BitVec 12)
  /-- SETCPU (R617). -/
  | setcpu (r : Reg)
  /-- RDSTS (R618). -/
  | rdsts (r : Reg)
  /-- EAE (R619). -/
  | eae
  /-- DAE (R620). -/
  | dae
  /-- EI (R642). -/
  | ei (l : Level)
  /-- DI (R643). -/
  | di (l : Level)
  /-- RI (R644). -/
  | ri (l : Level)
  /-- AI (R645). -/
  | ai (l : Level)
  /-- DAI (R646). -/
  | dai (l : Level)
  /-- ECI (R651). -/
  | eci (r : Reg) (k : Half)
  /-- DCI (R652). -/
  | dci (r : Reg) (k : Half)
  /-- ACI (R653). -/
  | aci (r : Reg) (k : Half)
  /-- DACI (R654). -/
  | daci (r : Reg) (k : Half)
  /-- BEI (R656). -/
  | bei
  /-- UEI (R657). -/
  | uei
  /-- CD (R672). -/
  | cd (d : BitVec 7) (c : Half)
  /-- TD (R674). -/
  | td (d : BitVec 7) (c : Half)
  /-- SIO (R683). -/
  | sio (r : Reg) (k : Half)
  /-- TIO (R684). -/
  | tio (r : Reg) (k : Half)
  /-- STPIO (R685). -/
  | stpio (r : Reg) (k : Half)
  /-- RSCHNL (R686). -/
  | rschnl (r : Reg) (k : Half)
  /-- HIO (R687). -/
  | hio (r : Reg) (k : Half)
  /-- GRIO (R688). -/
  | grio (r : Reg) (k : Half)
  /-- RSCTL (R689). -/
  | rsctl (r : Reg) (k : Half)
  /-- ECWCS (R699). -/
  | ecwcs (r : Reg) (k : Half)
  /-- WCWCS (R700). -/
  | wcwcs (r : Reg) (k : Half)
  deriving DecidableEq, Repr

end Sys2Proof
end

