-- ==== Sys2Proof/WellFormed.lean ====
section
/-!
DEFINITION. Which instructions the table's encodings admit (spec/30_encoding.md R176, R192, R200;
spec/opcode_table.json): a width variant carries its F and C, a floating-point row its augmenting bit and its
C bit 30, BCT and BCF a nonzero condition number, EOR two different registers (equal ones make it ZR).
-/

namespace Sys2Proof

/-- F, bit 12 of the word (R164). -/
def MemRef.f (m : MemRef) : Bool := bitAt m.a 0
/-- C bit 30 of the word (R164). -/
def MemRef.c30 (m : MemRef) : Bool := bitAt m.a 18
/-- C bit 31 of the word (R164). -/
def MemRef.c31 (m : MemRef) : Bool := bitAt m.a 19

/-- F = 1: a byte row (R176). -/
def MemRef.isByte (m : MemRef) : Bool := m.f
/-- F = 0, C = x1: a halfword row (R176). -/
def MemRef.isHalf (m : MemRef) : Bool := !m.f && m.c31
/-- F = 0, C = 00: a word row (R176). -/
def MemRef.isWord (m : MemRef) : Bool := !m.f && !m.c30 && !m.c31
/-- F = 0, C = 10: a doubleword row (R176). -/
def MemRef.isDouble (m : MemRef) : Bool := !m.f && m.c30 && !m.c31
/-- F = 0, C = x0: MPMW and DVMW, which have no doubleword row (R176, decision D43). -/
def MemRef.isWordOrDouble (m : MemRef) : Bool := !m.f && !m.c31
/-- Bit 12 the augmenting bit, C bit 30 the width; bit 31 is ignored (R560, decision D46). -/
def MemRef.isFloat (aug dbl : Bool) (m : MemRef) : Bool := (m.f == aug) && (m.c30 == dbl)

/-- The instructions that the encoding tables admit. -/
def Instr.wf : Instr → Bool
  | .lb _ m => m.isByte
  | .lh _ m => m.isHalf
  | .lw _ m => m.isWord
  | .ld _ m => m.isDouble
  | .lmb _ m => m.isByte
  | .lmh _ m => m.isHalf
  | .lmw _ m => m.isWord
  | .lmd _ m => m.isDouble
  | .lnb _ m => m.isByte
  | .lnh _ m => m.isHalf
  | .lnw _ m => m.isWord
  | .lnd _ m => m.isDouble
  | .li _ _ => true
  | .lea _ _ => true
  | .lear _ _ => true
  | .la _ _ => true
  | .lem _ _ _ => true
  | .cema _ _ _ => true
  | .lf _ _ => true
  | .stb _ m => m.isByte
  | .sth _ m => m.isHalf
  | .stw _ m => m.isWord
  | .std _ m => m.isDouble
  | .stmb _ m => m.isByte
  | .stmh _ m => m.isHalf
  | .stmw _ m => m.isWord
  | .stmd _ m => m.isDouble
  | .stf _ _ => true
  | .sem _ _ _ => true
  | .zmb m => m.isByte
  | .zmh m => m.isHalf
  | .zmw m => m.isWord
  | .zmd m => m.isDouble
  | .zr _ => true
  | .tscr _ _ => true
  | .trsc _ _ => true
  | .trr _ _ => true
  | .trrm _ _ => true
  | .trn _ _ => true
  | .trnm _ _ => true
  | .trc _ _ => true
  | .trcm _ _ => true
  | .xcr _ _ => true
  | .xcrm _ _ => true
  | .trp _ _ => true
  | .tpr _ _ => true
  | .trsw _ => true
  | .sea => true
  | .cea => true
  | .lmap _ => true
  | .tmapr _ _ => true
  | .wwcs _ _ => true
  | .rwcs _ _ => true
  | .jwcs _ => true
  | .bu _ => true
  | .bct d _ => decide (d ≠ 0)
  | .bcf d _ => decide (d ≠ 0)
  | .bft _ => true
  | .bl _ => true
  | .bib _ _ _ => true
  | .bih _ _ _ => true
  | .biw _ _ _ => true
  | .bid _ _ _ => true
  | .camb _ m => m.isByte
  | .camh _ m => m.isHalf
  | .camw _ m => m.isWord
  | .camd _ m => m.isDouble
  | .car _ _ => true
  | .ci _ _ => true
  | .cmmb _ m => m.isByte
  | .cmmh _ m => m.isHalf
  | .cmmw _ m => m.isWord
  | .cmmd _ m => m.isDouble
  | .cmr _ _ => true
  | .anmb _ m => m.isByte
  | .anmh _ m => m.isHalf
  | .anmw _ m => m.isWord
  | .anmd _ m => m.isDouble
  | .anr _ _ => true
  | .ormb _ m => m.isByte
  | .ormh _ m => m.isHalf
  | .ormw _ m => m.isWord
  | .ormd _ m => m.isDouble
  | .orr _ _ => true
  | .orrm _ _ => true
  | .eomb _ m => m.isByte
  | .eomh _ m => m.isHalf
  | .eomw _ m => m.isWord
  | .eomd _ m => m.isDouble
  | .eor rd rs => decide (rd ≠ rs)
  | .eorm _ _ => true
  | .nor _ _ => true
  | .nord _ _ => true
  | .scz _ _ => true
  | .sla _ _ => true
  | .sll _ _ => true
  | .slc _ _ => true
  | .slad _ _ => true
  | .slld _ _ => true
  | .sra _ _ => true
  | .srl _ _ => true
  | .src _ _ => true
  | .srad _ _ => true
  | .srld _ _ => true
  | .sbm _ _ => true
  | .zbm _ _ => true
  | .abm _ _ => true
  | .tbm _ _ => true
  | .sbr _ _ _ => true
  | .zbr _ _ _ => true
  | .abr _ _ _ => true
  | .tbr _ _ _ => true
  | .admb _ m => m.isByte
  | .admh _ m => m.isHalf
  | .admw _ m => m.isWord
  | .admd _ m => m.isDouble
  | .adr _ _ => true
  | .adrm _ _ => true
  | .adi _ _ => true
  | .armb _ m => m.isByte
  | .armh _ m => m.isHalf
  | .armw _ m => m.isWord
  | .armd _ m => m.isDouble
  | .sumb _ m => m.isByte
  | .sumh _ m => m.isHalf
  | .sumw _ m => m.isWord
  | .sumd _ m => m.isDouble
  | .sur _ _ => true
  | .surm _ _ => true
  | .sui _ _ => true
  | .es _ => true
  | .rnd _ => true
  | .mpmb _ m => m.isByte
  | .mpmh _ m => m.isHalf
  | .mpmw _ m => m.isWordOrDouble
  | .mpr _ _ => true
  | .mpi _ _ => true
  | .dvmb _ m => m.isByte
  | .dvmh _ m => m.isHalf
  | .dvmw _ m => m.isWordOrDouble
  | .dvr _ _ => true
  | .dvi _ _ => true
  | .adfw _ m => m.isFloat true false
  | .adfd _ m => m.isFloat true true
  | .sufw _ m => m.isFloat false false
  | .sufd _ m => m.isFloat false true
  | .mpfw _ m => m.isFloat true false
  | .mpfd _ m => m.isFloat true true
  | .dvfw _ m => m.isFloat false false
  | .dvfd _ m => m.isFloat false true
  | .bri _ => true
  | .lpsd _ => true
  | .lpsdcm _ => true
  | .lcs _ => true
  | .exr _ => true
  | .exrr _ => true
  | .exm _ => true
  | .halt => true
  | .wait => true
  | .nop => true
  | .calm _ => true
  | .svc _ _ => true
  | .setcpu _ => true
  | .rdsts _ => true
  | .eae => true
  | .dae => true
  | .ei _ => true
  | .di _ => true
  | .ri _ => true
  | .ai _ => true
  | .dai _ => true
  | .eci _ _ => true
  | .dci _ _ => true
  | .aci _ _ => true
  | .daci _ _ => true
  | .bei => true
  | .uei => true
  | .cd _ _ => true
  | .td _ _ => true
  | .sio _ _ => true
  | .tio _ _ => true
  | .stpio _ _ => true
  | .rschnl _ _ => true
  | .hio _ _ => true
  | .grio _ _ => true
  | .rsctl _ _ => true
  | .ecwcs _ _ => true
  | .wcwcs _ _ => true

end Sys2Proof
end

