-- ==== Sys2Proof/Decode.lean ====
section
/-!
DEFINITION. The decoder and the encoder (spec/30_encoding.md). An instruction word is taken as a 32-bit image
whose first bit is bit 0 of the instruction; a halfword instruction stands in the left half of it (R10, R166).
The decoder is total and rejects by name; the encoder follows the same tables.
-/

namespace Sys2Proof

/-- Why an instruction is undefined (R170, R180). -/
inductive DecodeError where
  /-- Operation codes 0x12 to 0x17 (R170). -/
  | unassignedOperation
  /-- An augmenting code the tables do not assign (R170, R171, R173, R174). -/
  | unassignedAugment
  /-- Class F sub-operations 0, 1 and A (R175). -/
  | unassignedSubOperation
  /-- A word operation code at a right halfword (R162, decision D12). -/
  | wordInRightHalf
  deriving DecidableEq, Repr

/-- A 16-bit or a 32-bit instruction (R160). -/
inductive Len where
  | half
  | word
  deriving DecidableEq, Repr

/-! ### Fields (R164 to R167, R185) -/

/-- The operation code of an image, bits 0-5. -/
def opOf (w : Word) : Nat := (bits w 0 6).toNat
/-- R, R_D, D, the bit number or the sub-opcode, bits 6-8. -/
def f6 (w : Word) : BitVec 3 := bits w 6 3
/-- R_S, bits 9-11. -/
def f9 (w : Word) : BitVec 3 := bits w 9 3
/-- The augmenting code, bits 12-15. -/
def f12 (w : Word) : BitVec 4 := bits w 12 4
/-- The augmenting code of opcodes 0x32 and 0x3F, bits 13-15. -/
def f13 (w : Word) : BitVec 3 := bits w 13 3
/-- Bits 16-31: immediate operand, function code, Class F constant. -/
def f16 (w : Word) : Half := bits w 16 16
/-- The memory reference, bits 9-31 (R94); also the layout of an indirect word (R99). -/
def memRefOf (w : Word) : MemRef := ⟨bits w 9 2, bitAt w 11, bits w 12 20⟩

/-- R161: is the instruction that begins the image a halfword instruction. -/
def isHalfLen (w : Word) : Bool :=
  (decide (opOf w < 0x20) && decide (opOf w ≠ 0x0D)) ||
    (decide (opOf w = 0x3E) && (decide (f6 w = 6) || decide (f6 w = 7)))

/-- The length of the instruction that begins the image (R161). -/
def lenOf (w : Word) : Len := if isHalfLen w then .half else .word

/-! ### The decoder -/

/-- An instruction whose augmenting code must be zero (R170). -/
def aug0 (w : Word) (i : Instr) : Except DecodeError Instr :=
  if f12 w = 0 then .ok i else .error .unassignedAugment

/-- An instruction with a plain form (0000) and a masked form (1000) (R170). -/
def aug08 (w : Word) (i j : Instr) : Except DecodeError Instr :=
  if f12 w = 0 then .ok i else if f12 w = 8 then .ok j else .error .unassignedAugment

/-- The row of a width family, by the F and C of the word (R176). -/
def byWidth (m : MemRef) (b h w d : Instr) : Instr :=
  if m.f then b else if m.c31 then h else if m.c30 then d else w

/-- The row of a floating-point opcode: bit 12 augments, C bit 30 is the width (R560). -/
def byFloat (m : MemRef) (w0 d0 w1 d1 : Instr) : Instr :=
  if m.f then (if m.c30 then d1 else w1) else (if m.c30 then d0 else w0)

/-- Operation code 0x00 (R173). -/
def decode00 (w : Word) : Except DecodeError Instr :=
  match (f12 w).toNat with
  | 0x0 => .ok (.halt)
  | 0x1 => .ok (.wait)
  | 0x2 => .ok (.nop)
  | 0x3 => .ok (.lcs (f6 w))
  | 0x4 => .ok (.es (f6 w))
  | 0x5 => .ok (.rnd (f6 w))
  | 0x6 => .ok (.bei)
  | 0x7 => .ok (.uei)
  | 0x8 => .ok (.eae)
  | 0x9 => .ok (.rdsts (f6 w))
  | 0xB => .ok (.rwcs (f6 w) (f9 w))
  | 0xC => .ok (.wwcs (f6 w) (f9 w))
  | 0xD => .ok (.sea)
  | 0xE => .ok (.dae)
  | 0xF => .ok (.cea)
  | _ => .error .unassignedAugment

/-- Operation code 0x0B (R171). -/
def decode0B (w : Word) : Except DecodeError Instr :=
  match (f12 w).toNat with
  | 0x0 => .ok (.trr (f6 w) (f9 w))
  | 0x3 => .ok (.trc (f6 w) (f9 w))
  | 0x4 => .ok (.trn (f6 w) (f9 w))
  | 0x5 => .ok (.xcr (f6 w) (f9 w))
  | 0x7 => .ok (.lmap (f6 w))
  | 0x8 => .ok (.trrm (f6 w) (f9 w))
  | 0x9 => .ok (.setcpu (f9 w))
  | 0xA => .ok (.tmapr (f6 w) (f9 w))
  | 0xB => .ok (.trcm (f6 w) (f9 w))
  | 0xC => .ok (.trnm (f6 w) (f9 w))
  | 0xD => .ok (.xcrm (f6 w) (f9 w))
  | 0xE => .ok (.trsc (f6 w) (f9 w))
  | 0xF => .ok (.tscr (f6 w) (f9 w))
  | _ => .error .unassignedAugment

/-- Operation code 0x32, on bit 12 and bits 13-15 (R174); SVC takes bits 16-19 and 20-31 (R616), EXRR is EXR
with bit 30 set (R609). -/
def decode32 (w : Word) : Except DecodeError Instr :=
  match (f12 w).toNat with
  | 0 => .ok (.li (f6 w) (f16 w))
  | 1 => .ok (.adi (f6 w) (f16 w))
  | 2 => .ok (.sui (f6 w) (f16 w))
  | 3 => .ok (.mpi (f6 w) (f16 w))
  | 4 => .ok (.dvi (f6 w) (f16 w))
  | 5 => .ok (.ci (f6 w) (f16 w))
  | 6 => .ok (.svc (bits w 16 4) (bits w 20 12))
  | 7 => .ok (if bitAt w 30 then .exrr (f6 w) else .exr (f6 w))
  | 8 => .ok (.sem (f6 w) (f9 w) (bits w 29 3))
  | 9 => .ok (.lem (f6 w) (f9 w) (bits w 29 3))
  | 0xA => .ok (.cema (f6 w) (f9 w) (bits w 29 3))
  | _ => .error .unassignedAugment

/-- Operation code 0x3E, on bits 6-8 (R172). -/
def decode3E (w : Word) : Instr :=
  let m := memRefOf w
  match (f6 w).toNat with
  | 0 => byWidth m (.zmb m) (.zmh m) (.zmw m) (.zmd m)
  | 1 => .bl m
  | 2 => .bri m
  | 3 => .lpsd m
  | 4 => .jwcs m
  | 5 => .lpsdcm m
  | 6 => .trp (bits w 9 4) (bits w 13 3)
  | _ => .tpr (bits w 9 4) (bits w 13 3)

/-- The Class F sub-operations, bits 9-12 (R175, R680). -/
def decodeClassF (w : Word) : Except DecodeError Instr :=
  match (bits w 9 4).toNat with
  | 0x2 => .ok (.sio (f6 w) (f16 w))
  | 0x3 => .ok (.tio (f6 w) (f16 w))
  | 0x4 => .ok (.stpio (f6 w) (f16 w))
  | 0x5 => .ok (.rschnl (f6 w) (f16 w))
  | 0x6 => .ok (.hio (f6 w) (f16 w))
  | 0x7 => .ok (.grio (f6 w) (f16 w))
  | 0x8 => .ok (.rsctl (f6 w) (f16 w))
  | 0x9 => .ok (.ecwcs (f6 w) (f16 w))
  | 0xB => .ok (.wcwcs (f6 w) (f16 w))
  | 0xC => .ok (.eci (f6 w) (f16 w))
  | 0xD => .ok (.dci (f6 w) (f16 w))
  | 0xE => .ok (.aci (f6 w) (f16 w))
  | 0xF => .ok (.daci (f6 w) (f16 w))
  | _ => .error .unassignedSubOperation

/-- Operation code 0x3F, on bits 13-15 (R175). -/
def decode3F (w : Word) : Except DecodeError Instr :=
  let l := bits w 6 7
  match (f13 w).toNat with
  | 0 => .ok (.ei l)
  | 1 => .ok (.di l)
  | 2 => .ok (.ri l)
  | 3 => .ok (.ai l)
  | 4 => .ok (.dai l)
  | 5 => .ok (.td l (f16 w))
  | 6 => .ok (.cd l (f16 w))
  | _ => decodeClassF w

/-- The whole operation code map (R170). -/
def decodeOp (op : Nat) (w : Word) : Except DecodeError Instr :=
  let r := f6 w
  let rs := f9 w
  let m := memRefOf w
  match op with
  | 0x00 => decode00 w
  | 0x01 => aug0 w (.anr r rs)
  | 0x02 => aug08 w (.orr r rs) (.orrm r rs)
  | 0x03 => aug08 w (if r = rs then .zr r else .eor r rs) (.eorm r rs)
  | 0x04 => aug0 w (.car r rs)
  | 0x05 => aug0 w (.cmr r rs)
  | 0x06 => .ok (.sbr r rs (bits w 14 2))
  | 0x07 => .ok (.zbr r rs (bits w 14 2))
  | 0x08 => .ok (.abr r rs (bits w 14 2))
  | 0x09 => .ok (.tbr r rs (bits w 14 2))
  | 0x0A => .ok (.trsw r)
  | 0x0B => decode0B w
  | 0x0C => .ok (.calm (bits w 6 10))
  | 0x0D => .ok (.la r m)
  | 0x0E => aug08 w (.adr r rs) (.adrm r rs)
  | 0x0F => aug08 w (.sur r rs) (.surm r rs)
  | 0x10 => aug0 w (.mpr r rs)
  | 0x11 => aug0 w (.dvr r rs)
  | 0x18 => aug0 w (.nor r rs)
  | 0x19 => aug0 w (.nord r rs)
  | 0x1A => aug0 w (.scz r rs)
  | 0x1B => .ok (if bitAt w 9 then .sla r (bits w 11 5) else .sra r (bits w 11 5))
  | 0x1C => .ok (if bitAt w 9 then .sll r (bits w 11 5) else .srl r (bits w 11 5))
  | 0x1D => .ok (if bitAt w 9 then .slc r (bits w 11 5) else .src r (bits w 11 5))
  | 0x1E => .ok (if bitAt w 9 then .slad r (bits w 11 5) else .srad r (bits w 11 5))
  | 0x1F => .ok (if bitAt w 9 then .slld r (bits w 11 5) else .srld r (bits w 11 5))
  | 0x20 => .ok (.lear r m)
  | 0x21 => .ok (byWidth m (.anmb r m) (.anmh r m) (.anmw r m) (.anmd r m))
  | 0x22 => .ok (byWidth m (.ormb r m) (.ormh r m) (.ormw r m) (.ormd r m))
  | 0x23 => .ok (byWidth m (.eomb r m) (.eomh r m) (.eomw r m) (.eomd r m))
  | 0x24 => .ok (byWidth m (.camb r m) (.camh r m) (.camw r m) (.camd r m))
  | 0x25 => .ok (byWidth m (.cmmb r m) (.cmmh r m) (.cmmw r m) (.cmmd r m))
  | 0x26 => .ok (.sbm r m)
  | 0x27 => .ok (.zbm r m)
  | 0x28 => .ok (.abm r m)
  | 0x29 => .ok (.tbm r m)
  | 0x2A => .ok (.exm m)
  | 0x2B => .ok (byWidth m (.lb r m) (.lh r m) (.lw r m) (.ld r m))
  | 0x2C => .ok (byWidth m (.lmb r m) (.lmh r m) (.lmw r m) (.lmd r m))
  | 0x2D => .ok (byWidth m (.lnb r m) (.lnh r m) (.lnw r m) (.lnd r m))
  | 0x2E => .ok (byWidth m (.admb r m) (.admh r m) (.admw r m) (.admd r m))
  | 0x2F => .ok (byWidth m (.sumb r m) (.sumh r m) (.sumw r m) (.sumd r m))
  | 0x30 => .ok (byWidth m (.mpmb r m) (.mpmh r m) (.mpmw r m) (.mpmw r m))
  | 0x31 => .ok (byWidth m (.dvmb r m) (.dvmh r m) (.dvmw r m) (.dvmw r m))
  | 0x32 => decode32 w
  | 0x33 => .ok (.lf r m)
  | 0x34 => .ok (.lea r m)
  | 0x35 => .ok (byWidth m (.stb r m) (.sth r m) (.stw r m) (.std r m))
  | 0x36 => .ok (byWidth m (.stmb r m) (.stmh r m) (.stmw r m) (.stmd r m))
  | 0x37 => .ok (.stf r m)
  | 0x38 => .ok (byFloat m (.sufw r m) (.sufd r m) (.adfw r m) (.adfd r m))
  | 0x39 => .ok (byFloat m (.dvfw r m) (.dvfd r m) (.mpfw r m) (.mpfd r m))
  | 0x3A => .ok (byWidth m (.armb r m) (.armh r m) (.armw r m) (.armd r m))
  | 0x3B => .ok (if r = 0 then .bu m else .bct r m)
  | 0x3C => .ok (if r = 0 then .bft m else .bcf r m)
  | 0x3D => .ok (match m.x.toNat with
    | 0 => .bib r m.i m.a
    | 1 => .bih r m.i m.a
    | 2 => .biw r m.i m.a
    | _ => .bid r m.i m.a)
  | 0x3E => .ok (decode3E w)
  | 0x3F => decode3F w
  | _ => .error .unassignedOperation

/-- The instruction that begins the image `w`. -/
def decode (w : Word) : Except DecodeError Instr := decodeOp (opOf w) w

/-- R162: the image of the instruction that the halfword address picks out of the fetched word. -/
def fetchImage (w : Word) (nr : Bool) : Word := if nr then bits w 16 16 ++ (0 : Half) else w

/-- R162: decoding the fetched word; a word operation code in the right half is undefined. -/
def decodeFetched (w : Word) (nr : Bool) : Except DecodeError Instr :=
  if nr && !isHalfLen (fetchImage w nr) then .error .wordInRightHalf else decode (fetchImage w nr)

/-! ### The encoder -/

/-- Interregister (R166). -/
def halfWord (op : BitVec 6) (rd rs : Reg) (aug : BitVec 4) : Word := op ++ rd ++ rs ++ aug ++ (0 : Half)
/-- Shift (R440). -/
def shiftWord (op : BitVec 6) (r : Reg) (left : Bool) (n : BitVec 5) : Word :=
  op ++ r ++ BitVec.ofBool left ++ (0 : BitVec 1) ++ n ++ (0 : Half)
/-- Bit in register (R470). -/
def bitWord (op : BitVec 6) (b : BitVec 3) (r : Reg) (y : BitVec 2) : Word :=
  op ++ b ++ r ++ (0 : BitVec 2) ++ y ++ (0 : Half)
/-- CALM (R615). -/
def calmWord (flags : BitVec 10) : Word := (0x0C : BitVec 6) ++ flags ++ (0 : Half)
/-- TRP and TPR (R285, R286). -/
def protWord (sub : BitVec 3) (p : BitVec 4) (r : Reg) : Word := (0x3E : BitVec 6) ++ sub ++ p ++ r ++ (0 : Half)
/-- Memory reference (R164). -/
def memWord (op : BitVec 6) (r : BitVec 3) (m : MemRef) : Word := op ++ r ++ m.x ++ BitVec.ofBool m.i ++ m.a
/-- Immediate (R165). -/
def immWord (r : Reg) (aug : BitVec 3) (v : Half) : Word := (0x32 : BitVec 6) ++ r ++ (0 : BitVec 4) ++ aug ++ v
/-- SEM, LEM, CEMA (R167, R241). -/
def extWord (rd rs : Reg) (aug : BitVec 4) (rz : Reg) : Word :=
  (0x32 : BitVec 6) ++ rd ++ rs ++ aug ++ (0 : BitVec 13) ++ rz
/-- Interrupt control, CD and TD (R640, R671). -/
def levelWord (l : Level) (aug : BitVec 3) (c : Half) : Word := (0x3F : BitVec 6) ++ l ++ aug ++ c
/-- Class F (R680). -/
def classFWord (r : Reg) (sub : BitVec 4) (k : Half) : Word :=
  (0x3F : BitVec 6) ++ r ++ sub ++ (7 : BitVec 3) ++ k

/-- The image of a well-formed instruction; a halfword instruction stands in the left half. -/
def encode : Instr → Word
  | .lb r m => memWord 0x2B r m
  | .lh r m => memWord 0x2B r m
  | .lw r m => memWord 0x2B r m
  | .ld r m => memWord 0x2B r m
  | .lmb r m => memWord 0x2C r m
  | .lmh r m => memWord 0x2C r m
  | .lmw r m => memWord 0x2C r m
  | .lmd r m => memWord 0x2C r m
  | .lnb r m => memWord 0x2D r m
  | .lnh r m => memWord 0x2D r m
  | .lnw r m => memWord 0x2D r m
  | .lnd r m => memWord 0x2D r m
  | .li r v => immWord r 0 v
  | .lea r m => memWord 0x34 r m
  | .lear r m => memWord 0x20 r m
  | .la r m => memWord 0xD r m
  | .lem rd rs rz => extWord rd rs 0x9 rz
  | .cema rd rs rz => extWord rd rs 0xA rz
  | .lf r m => memWord 0x33 r m
  | .stb r m => memWord 0x35 r m
  | .sth r m => memWord 0x35 r m
  | .stw r m => memWord 0x35 r m
  | .std r m => memWord 0x35 r m
  | .stmb r m => memWord 0x36 r m
  | .stmh r m => memWord 0x36 r m
  | .stmw r m => memWord 0x36 r m
  | .stmd r m => memWord 0x36 r m
  | .stf r m => memWord 0x37 r m
  | .sem rd rs rz => extWord rd rs 0x8 rz
  | .zmb m => memWord 0x3E 0 m
  | .zmh m => memWord 0x3E 0 m
  | .zmw m => memWord 0x3E 0 m
  | .zmd m => memWord 0x3E 0 m
  | .zr r => halfWord 0x3 r r 0x0
  | .tscr rd rs => halfWord 0xB rd rs 0xF
  | .trsc rd rs => halfWord 0xB rd rs 0xE
  | .trr rd rs => halfWord 0xB rd rs 0x0
  | .trrm rd rs => halfWord 0xB rd rs 0x8
  | .trn rd rs => halfWord 0xB rd rs 0x4
  | .trnm rd rs => halfWord 0xB rd rs 0xC
  | .trc rd rs => halfWord 0xB rd rs 0x3
  | .trcm rd rs => halfWord 0xB rd rs 0xB
  | .xcr rd rs => halfWord 0xB rd rs 0x5
  | .xcrm rd rs => halfWord 0xB rd rs 0xD
  | .trp p r => protWord 6 p r
  | .tpr p r => protWord 7 p r
  | .trsw r => halfWord 0xA r 0 0x0
  | .sea => halfWord 0x0 0 0 0xD
  | .cea => halfWord 0x0 0 0 0xF
  | .lmap r => halfWord 0xB r 0 0x7
  | .tmapr rd rs => halfWord 0xB rd rs 0xA
  | .wwcs rd rs => halfWord 0x0 rd rs 0xC
  | .rwcs rd rs => halfWord 0x0 rd rs 0xB
  | .jwcs m => memWord 0x3E 4 m
  | .bu m => memWord 0x3B 0 m
  | .bct d m => memWord 0x3B d m
  | .bcf d m => memWord 0x3C d m
  | .bft m => memWord 0x3C 0 m
  | .bl m => memWord 0x3E 1 m
  | .bib r i a => memWord 0x3D r ⟨0, i, a⟩
  | .bih r i a => memWord 0x3D r ⟨1, i, a⟩
  | .biw r i a => memWord 0x3D r ⟨2, i, a⟩
  | .bid r i a => memWord 0x3D r ⟨3, i, a⟩
  | .camb r m => memWord 0x24 r m
  | .camh r m => memWord 0x24 r m
  | .camw r m => memWord 0x24 r m
  | .camd r m => memWord 0x24 r m
  | .car rd rs => halfWord 0x4 rd rs 0x0
  | .ci r v => immWord r 5 v
  | .cmmb r m => memWord 0x25 r m
  | .cmmh r m => memWord 0x25 r m
  | .cmmw r m => memWord 0x25 r m
  | .cmmd r m => memWord 0x25 r m
  | .cmr rd rs => halfWord 0x5 rd rs 0x0
  | .anmb r m => memWord 0x21 r m
  | .anmh r m => memWord 0x21 r m
  | .anmw r m => memWord 0x21 r m
  | .anmd r m => memWord 0x21 r m
  | .anr rd rs => halfWord 0x1 rd rs 0x0
  | .ormb r m => memWord 0x22 r m
  | .ormh r m => memWord 0x22 r m
  | .ormw r m => memWord 0x22 r m
  | .ormd r m => memWord 0x22 r m
  | .orr rd rs => halfWord 0x2 rd rs 0x0
  | .orrm rd rs => halfWord 0x2 rd rs 0x8
  | .eomb r m => memWord 0x23 r m
  | .eomh r m => memWord 0x23 r m
  | .eomw r m => memWord 0x23 r m
  | .eomd r m => memWord 0x23 r m
  | .eor rd rs => halfWord 0x3 rd rs 0x0
  | .eorm rd rs => halfWord 0x3 rd rs 0x8
  | .nor r rc => halfWord 0x18 r rc 0x0
  | .nord r rc => halfWord 0x19 r rc 0x0
  | .scz r rc => halfWord 0x1A r rc 0x0
  | .sla r n => shiftWord 0x1B r true n
  | .sll r n => shiftWord 0x1C r true n
  | .slc r n => shiftWord 0x1D r true n
  | .slad r n => shiftWord 0x1E r true n
  | .slld r n => shiftWord 0x1F r true n
  | .sra r n => shiftWord 0x1B r false n
  | .srl r n => shiftWord 0x1C r false n
  | .src r n => shiftWord 0x1D r false n
  | .srad r n => shiftWord 0x1E r false n
  | .srld r n => shiftWord 0x1F r false n
  | .sbm b m => memWord 0x26 b m
  | .zbm b m => memWord 0x27 b m
  | .abm b m => memWord 0x28 b m
  | .tbm b m => memWord 0x29 b m
  | .sbr b r y => bitWord 0x6 b r y
  | .zbr b r y => bitWord 0x7 b r y
  | .abr b r y => bitWord 0x8 b r y
  | .tbr b r y => bitWord 0x9 b r y
  | .admb r m => memWord 0x2E r m
  | .admh r m => memWord 0x2E r m
  | .admw r m => memWord 0x2E r m
  | .admd r m => memWord 0x2E r m
  | .adr rd rs => halfWord 0xE rd rs 0x0
  | .adrm rd rs => halfWord 0xE rd rs 0x8
  | .adi r v => immWord r 1 v
  | .armb r m => memWord 0x3A r m
  | .armh r m => memWord 0x3A r m
  | .armw r m => memWord 0x3A r m
  | .armd r m => memWord 0x3A r m
  | .sumb r m => memWord 0x2F r m
  | .sumh r m => memWord 0x2F r m
  | .sumw r m => memWord 0x2F r m
  | .sumd r m => memWord 0x2F r m
  | .sur rd rs => halfWord 0xF rd rs 0x0
  | .surm rd rs => halfWord 0xF rd rs 0x8
  | .sui r v => immWord r 2 v
  | .es r => halfWord 0x0 r 0 0x4
  | .rnd r => halfWord 0x0 r 0 0x5
  | .mpmb r m => memWord 0x30 r m
  | .mpmh r m => memWord 0x30 r m
  | .mpmw r m => memWord 0x30 r m
  | .mpr rd rs => halfWord 0x10 rd rs 0x0
  | .mpi r v => immWord r 3 v
  | .dvmb r m => memWord 0x31 r m
  | .dvmh r m => memWord 0x31 r m
  | .dvmw r m => memWord 0x31 r m
  | .dvr rd rs => halfWord 0x11 rd rs 0x0
  | .dvi r v => immWord r 4 v
  | .adfw r m => memWord 0x38 r m
  | .adfd r m => memWord 0x38 r m
  | .sufw r m => memWord 0x38 r m
  | .sufd r m => memWord 0x38 r m
  | .mpfw r m => memWord 0x39 r m
  | .mpfd r m => memWord 0x39 r m
  | .dvfw r m => memWord 0x39 r m
  | .dvfd r m => memWord 0x39 r m
  | .bri m => memWord 0x3E 2 m
  | .lpsd m => memWord 0x3E 3 m
  | .lpsdcm m => memWord 0x3E 5 m
  | .lcs r => halfWord 0x0 r 0 0x3
  | .exr r => immWord r 7 0x0000
  | .exrr r => immWord r 7 0x0002
  | .exm m => memWord 0x2A 0 m
  | .halt => halfWord 0x0 0 0 0x0
  | .wait => halfWord 0x0 0 0 0x1
  | .nop => halfWord 0x0 0 0 0x2
  | .calm flags => calmWord flags
  | .svc ind call => immWord 0 6 (ind ++ call)
  | .setcpu r => halfWord 0xB 0 r 0x9
  | .rdsts r => halfWord 0x0 r 0 0x9
  | .eae => halfWord 0x0 0 0 0x8
  | .dae => halfWord 0x0 0 0 0xE
  | .ei l => levelWord l 0 0
  | .di l => levelWord l 1 0
  | .ri l => levelWord l 2 0
  | .ai l => levelWord l 3 0
  | .dai l => levelWord l 4 0
  | .eci r k => classFWord r 0xC k
  | .dci r k => classFWord r 0xD k
  | .aci r k => classFWord r 0xE k
  | .daci r k => classFWord r 0xF k
  | .bei => halfWord 0x0 0 0 0x6
  | .uei => halfWord 0x0 0 0 0x7
  | .cd d c => levelWord d 6 c
  | .td d c => levelWord d 5 c
  | .sio r k => classFWord r 0x2 k
  | .tio r k => classFWord r 0x3 k
  | .stpio r k => classFWord r 0x4 k
  | .rschnl r k => classFWord r 0x5 k
  | .hio r k => classFWord r 0x6 k
  | .grio r k => classFWord r 0x7 k
  | .rsctl r k => classFWord r 0x8 k
  | .ecwcs r k => classFWord r 0x9 k
  | .wcwcs r k => classFWord r 0xB k

/-- The length of an instruction (R160, R161). -/
def Instr.len : Instr → Len
  | .lb _ _ => .word
  | .lh _ _ => .word
  | .lw _ _ => .word
  | .ld _ _ => .word
  | .lmb _ _ => .word
  | .lmh _ _ => .word
  | .lmw _ _ => .word
  | .lmd _ _ => .word
  | .lnb _ _ => .word
  | .lnh _ _ => .word
  | .lnw _ _ => .word
  | .lnd _ _ => .word
  | .li _ _ => .word
  | .lea _ _ => .word
  | .lear _ _ => .word
  | .la _ _ => .word
  | .lem _ _ _ => .word
  | .cema _ _ _ => .word
  | .lf _ _ => .word
  | .stb _ _ => .word
  | .sth _ _ => .word
  | .stw _ _ => .word
  | .std _ _ => .word
  | .stmb _ _ => .word
  | .stmh _ _ => .word
  | .stmw _ _ => .word
  | .stmd _ _ => .word
  | .stf _ _ => .word
  | .sem _ _ _ => .word
  | .zmb _ => .word
  | .zmh _ => .word
  | .zmw _ => .word
  | .zmd _ => .word
  | .zr _ => .half
  | .tscr _ _ => .half
  | .trsc _ _ => .half
  | .trr _ _ => .half
  | .trrm _ _ => .half
  | .trn _ _ => .half
  | .trnm _ _ => .half
  | .trc _ _ => .half
  | .trcm _ _ => .half
  | .xcr _ _ => .half
  | .xcrm _ _ => .half
  | .trp _ _ => .half
  | .tpr _ _ => .half
  | .trsw _ => .half
  | .sea => .half
  | .cea => .half
  | .lmap _ => .half
  | .tmapr _ _ => .half
  | .wwcs _ _ => .half
  | .rwcs _ _ => .half
  | .jwcs _ => .word
  | .bu _ => .word
  | .bct _ _ => .word
  | .bcf _ _ => .word
  | .bft _ => .word
  | .bl _ => .word
  | .bib _ _ _ => .word
  | .bih _ _ _ => .word
  | .biw _ _ _ => .word
  | .bid _ _ _ => .word
  | .camb _ _ => .word
  | .camh _ _ => .word
  | .camw _ _ => .word
  | .camd _ _ => .word
  | .car _ _ => .half
  | .ci _ _ => .word
  | .cmmb _ _ => .word
  | .cmmh _ _ => .word
  | .cmmw _ _ => .word
  | .cmmd _ _ => .word
  | .cmr _ _ => .half
  | .anmb _ _ => .word
  | .anmh _ _ => .word
  | .anmw _ _ => .word
  | .anmd _ _ => .word
  | .anr _ _ => .half
  | .ormb _ _ => .word
  | .ormh _ _ => .word
  | .ormw _ _ => .word
  | .ormd _ _ => .word
  | .orr _ _ => .half
  | .orrm _ _ => .half
  | .eomb _ _ => .word
  | .eomh _ _ => .word
  | .eomw _ _ => .word
  | .eomd _ _ => .word
  | .eor _ _ => .half
  | .eorm _ _ => .half
  | .nor _ _ => .half
  | .nord _ _ => .half
  | .scz _ _ => .half
  | .sla _ _ => .half
  | .sll _ _ => .half
  | .slc _ _ => .half
  | .slad _ _ => .half
  | .slld _ _ => .half
  | .sra _ _ => .half
  | .srl _ _ => .half
  | .src _ _ => .half
  | .srad _ _ => .half
  | .srld _ _ => .half
  | .sbm _ _ => .word
  | .zbm _ _ => .word
  | .abm _ _ => .word
  | .tbm _ _ => .word
  | .sbr _ _ _ => .half
  | .zbr _ _ _ => .half
  | .abr _ _ _ => .half
  | .tbr _ _ _ => .half
  | .admb _ _ => .word
  | .admh _ _ => .word
  | .admw _ _ => .word
  | .admd _ _ => .word
  | .adr _ _ => .half
  | .adrm _ _ => .half
  | .adi _ _ => .word
  | .armb _ _ => .word
  | .armh _ _ => .word
  | .armw _ _ => .word
  | .armd _ _ => .word
  | .sumb _ _ => .word
  | .sumh _ _ => .word
  | .sumw _ _ => .word
  | .sumd _ _ => .word
  | .sur _ _ => .half
  | .surm _ _ => .half
  | .sui _ _ => .word
  | .es _ => .half
  | .rnd _ => .half
  | .mpmb _ _ => .word
  | .mpmh _ _ => .word
  | .mpmw _ _ => .word
  | .mpr _ _ => .half
  | .mpi _ _ => .word
  | .dvmb _ _ => .word
  | .dvmh _ _ => .word
  | .dvmw _ _ => .word
  | .dvr _ _ => .half
  | .dvi _ _ => .word
  | .adfw _ _ => .word
  | .adfd _ _ => .word
  | .sufw _ _ => .word
  | .sufd _ _ => .word
  | .mpfw _ _ => .word
  | .mpfd _ _ => .word
  | .dvfw _ _ => .word
  | .dvfd _ _ => .word
  | .bri _ => .word
  | .lpsd _ => .word
  | .lpsdcm _ => .word
  | .lcs _ => .half
  | .exr _ => .word
  | .exrr _ => .word
  | .exm _ => .word
  | .halt => .half
  | .wait => .half
  | .nop => .half
  | .calm _ => .half
  | .svc _ _ => .word
  | .setcpu _ => .half
  | .rdsts _ => .half
  | .eae => .half
  | .dae => .half
  | .ei _ => .word
  | .di _ => .word
  | .ri _ => .word
  | .ai _ => .word
  | .dai _ => .word
  | .eci _ _ => .word
  | .dci _ _ => .word
  | .aci _ _ => .word
  | .daci _ _ => .word
  | .bei => .half
  | .uei => .half
  | .cd _ _ => .word
  | .td _ _ => .word
  | .sio _ _ => .word
  | .tio _ _ => .word
  | .stpio _ _ => .word
  | .rschnl _ _ => .word
  | .hio _ _ => .word
  | .grio _ _ => .word
  | .rsctl _ _ => .word
  | .ecwcs _ _ => .word
  | .wcwcs _ _ => .word

/-- The image of an instruction whose bits are numbered as spec/opcode_table.json numbers them: a 16-bit row
is a number of 16 bits, a 32-bit row a number of 32 bits, most significant bit first in memory (R160). -/
def tableImage (nbits w : Nat) : Word :=
  if nbits ≤ 16 then BitVec.ofNat 16 w ++ (0 : Half) else BitVec.ofNat 32 w

/-- What the decoder reads from a table word. -/
def decodeTableWord (nbits w : Nat) : Option Instr :=
  match decode (tableImage nbits w) with
  | .ok i => some i
  | .error _ => none

end Sys2Proof
end

