-- ==== Sys2Proof/Config.lean ====
section
/-!
DEFINITION. What an installation fixes (spec/00_scope.md R7; the OPEN parameters of
spec/92_eei_decisions.md) and the free values: constants with no body for what the manual leaves undefined.
The parameters are a field of State that no step changes, so a statement about every state is a statement
about every installation.
-/

namespace Sys2Proof

/-- The CPU mode, PSW or PSD (R2, R40); also the two settings of the mode jumper (R7). -/
inductive Mode where
  | psw
  | psd
  deriving DecidableEq, Repr

/-- LEVEL01_JUMPER: are levels 0 and 1 permanently enabled, or enabled by software (R642, R720). -/
inductive Level01 where
  | constant
  | software
  deriving DecidableEq, Repr

/-- A hole of the memory configuration (R741): addresses with no memory behind them. -/
structure Hole where
  base : Nat
  size : Nat
  deriving DecidableEq, Repr

/-- An entry of DEV[0..127] of the Configuration RAM (R720). -/
structure DevEntry where
  flags : BitVec 4
  cls : BitVec 4
  level : Level
  ctrl : Byte
  sub : Byte
  deriving DecidableEq, Repr

/-- The parameters of R7. CONFIG, the Configuration RAM, is state (R64): an IPL writes it. -/
structure Config where
  /-- MEM_BYTES: installed memory in bytes, a multiple of 32,768, at most 16,777,216. -/
  memBytes : Nat
  /-- The holes below MEM_BYTES (R741). -/
  holes : List Hole
  /-- WCS_WORDS: 0, 2048 or 4096. -/
  wcsWords : Nat
  /-- MODE_JUMPER: may the CPU run in PSD mode. -/
  modeJumper : Mode
  /-- MPL_CELL: the scratchpad cell of the Master Process List address. -/
  mplCell : BitVec 8
  /-- The MPL address that firmware loads into MPL_CELL at SYSTEM RESET (R80). -/
  mplAddr : Addr
  /-- CSW_ADDR: where the panel stores the control switches. -/
  cswAddr : Addr
  /-- LEVEL01_JUMPER. -/
  level01 : Level01
  /-- IPL_DEFAULT_DEVICE: the device used when the operator enters zeros. -/
  iplDefault : BitVec 15
  deriving DecidableEq, Repr

/-- The values R7 allows. -/
def Config.wf (c : Config) : Bool :=
  decide (c.memBytes % 32768 = 0) && decide (c.memBytes ≤ 16777216) &&
    (decide (c.wcsWords = 0) || decide (c.wcsWords = 2048) || decide (c.wcsWords = 4096))

/-- The installation of State.reset. DESIGN CHOICE, log 3: R7 leaves every one of these open. -/
def Config.initial : Config :=
  { memBytes := 16777216, holes := [], wcsWords := 4096, modeJumper := .psd, mplCell := 0xF3, mplAddr := 0,
    cswAddr := 0x780, level01 := .software, iplDefault := 0x7800 }

/-- CC1, CC2, CC3 after ARMB and ARMH, "Undefined" (R500, R501; log 6). FREE VALUE: no body. -/
opaque Config.freeBits : Nat → BitVec 3

/-- HIST after a trap halt, "may or may not be on" (R790; log 7). FREE VALUE: no body. -/
opaque Config.freeFlag : Nat → Bool

/-- The status address of a Class F channel when the environment supplies none (R766; log 8). FREE VALUE. -/
opaque Config.freeAddr : Nat → Addr

/-- The word at 53C after a trap halt that involves this device: its device table entry, in a layout that is not
given (R720, R790; log 45). FREE VALUE: no body. -/
opaque Config.deviceWord : DevEntry → Word

/-- The word at 540 after a trap halt that involves this device: its interrupt table entry, in a layout that is
not given (R720, R790; log 45). FREE VALUE: no body. -/
opaque Config.interruptWord : DevEntry → Word

end Sys2Proof
end

