-- ==== Sys2Proof/Machine/State.lean ====
section
/-!
DEFINITION. The machine's state: every piece of state that spec/10_state.md gives it, the panel's state
(spec/70_reset_and_hazards.md), the environment's coming moves as plain data, the ways a run can stop, and the
state after SYSTEM RESET (R80, R821). INVENTORY.md lists each field with its rule and its reset value.
-/

namespace Sys2Proof.Machine

/-- CC1 to CC4, PSD1 bits 1 to 4 (R37). -/
structure CC where
  cc1 : Bool
  cc2 : Bool
  cc3 : Bool
  cc4 : Bool
  deriving DecidableEq, Repr

/-- RUN (R54). -/
inductive Run where
  | run
  | halt
  | wait
  deriving DecidableEq, Repr

/-- An entry of INT[L] of the Configuration RAM (R720). -/
structure IntEntry where
  board : BitVec 4
  sub : BitVec 4
  deriving DecidableEq, Repr

/-- The assigned condition code patterns of a Class F answer, the only ones that occur (R681). -/
inductive ChanAnswer where
  /-- 0000, request activated, will echo status. -/
  | activated
  /-- 0001, channel busy. -/
  | busy
  /-- 0010, channel inoperable or undefined. -/
  | inoperable
  /-- 0011, subchannel busy. -/
  | subBusy
  /-- 0100, status stored. -/
  | statusStored
  /-- 0101, unsupported transaction. -/
  | unsupported
  /-- 1000, request accepted and queued, no echo status. -/
  | queued
  deriving DecidableEq, Repr

/-- What a channel answers to a Class F instruction: the pattern, and the real address of the stored status,
used with status stored only (R681, R690). -/
structure ChanReply where
  answer : ChanAnswer
  status : Addr
  deriving DecidableEq, Repr

/-- What a WCS routine leaves: the registers, the condition codes and the bytes of memory it has stored
(R330). -/
structure WcsReply where
  regs : Vector Word 8
  cc : CC
  stores : List (Addr × Byte)
  deriving DecidableEq, Repr

/-- The Class F operations (R680). -/
inductive ChanOp where
  | sio | tio | stpio | rschnl | hio | grio | rsctl | ecwcs | wcwcs | eci | dci | aci | daci
  deriving DecidableEq, Repr

/-- What the CPU sends on the SelBUS to the environment (R670). -/
inductive BusMessage where
  /-- CD: a function code to a device (R672). -/
  | command (dev : BitVec 7) (code : Half)
  /-- TD: a test code to a device (R674). -/
  | test (dev : BitVec 7) (code : Half)
  /-- A Class F operation; `data` is the IOCLA, sent with SIO and WCWCS only (R682, R683, R700). -/
  | channel (op : ChanOp) (chan : BitVec 7) (sub : Byte) (data : Option Addr)
  /-- A Class F level acknowledged (R766). -/
  | acknowledge (l : Level)
  /-- A Class F level deactivated by BRI (R603) or by an entry that does not activate it (R766). -/
  | deactivate (l : Level)
  /-- Data moved to a device by a TCW transfer step (R676). -/
  | transfer (chan : BitVec 4) (data : Word)
  /-- The entry point handed to the WCS microcode by JWCS (R330). -/
  | wcs (entry : BitVec 6)
  /-- The IPL device selected (R830). -/
  | ipl (dev : BitVec 15)
  deriving DecidableEq, Repr

/-- The System Control Panel's keys (R821, R830, R840 to R846). Reads and writes use the A- and B-display. -/
inductive PanelKey where
  /-- RUN/HALT (R840). -/
  | runHalt
  /-- INSTR STEP (R841). -/
  | instrStep
  /-- SYSTEM RESET (R821). -/
  | systemReset
  /-- ATTENTION (R846). -/
  | attention
  /-- CLK OVRD (R802, R846). -/
  | clockOverride
  /-- PANEL LOCK turned to locked or unlocked (R831). -/
  | lock (on : Bool)
  /-- Hexadecimal entry into the B-display. -/
  | enter (v : Word)
  /-- INITIAL PROGRAM LOAD: what the IPL stores in memory, the ICL records it reads (characters), and the
  PSW it leaves, all supplied by the environment (R830 to R832). -/
  | ipl (image : List (Addr × Byte)) (icl : List (List Char)) (psw : Word)
  /-- INSTR STOP, OPRND R STOP, OPRND W STOP: enable at the B-display address, or disable (R842). -/
  | instrStop (on : Bool)
  | readStop (on : Bool)
  | writeStop (on : Bool)
  /-- WRITE and READ with keys 0-7 REG (R843). -/
  | writeReg (n : BitVec 3)
  | readReg (n : BitVec 3)
  /-- WRITE with key 8 MA (R843). -/
  | writeMa
  /-- WRITE and READ with key 9 PSW (R843). -/
  | writePsw
  | readPsw
  /-- WRITE and READ with key A PC (R843). -/
  | writePc
  | readPc
  /-- WRITE and READ with key B CSWS (R843). -/
  | writeCsw
  | readCsw
  /-- WRITE and READ with key C MD (R843). -/
  | writeMd
  | readMd
  /-- WRITE & INC 'A' and INC 'A' & READ (R843). -/
  | writeInc
  | incRead
  /-- READ with key D EA (R843). -/
  | readEa
  /-- WRITE and READ with key E PSD2 (R843). -/
  | writePsd2
  | readPsd2
  /-- READ with key F CONV (R843). -/
  | conv
  deriving DecidableEq, Repr

/-- The environment's moves at an instruction boundary (R11, R760). -/
inductive EnvEvent where
  /-- A request on a level (R760). -/
  | request (l : Level)
  /-- A Class F channel withdraws its request (R760, R684). -/
  | withdraw (l : Level)
  /-- A tick of the real-time clock of level 0x28 (R800). -/
  | clockTick
  /-- An interval timer reaches zero and requests its level (R801). -/
  | timerZero (l : Level)
  /-- Primary power is failing (R738). -/
  | powerFail
  /-- The next instruction fetch meets an uncorrectable memory error (R740). -/
  | parityFetch
  /-- The next operand read meets an uncorrectable memory error (R740). -/
  | parityOperand
  /-- A SelBUS failure: a Machine Check with the CPUSTAT bits given, and the device that it involves, if any
  (R745, R771, R790). -/
  | busFailure (stat : Word) (dev : Option (BitVec 7))
  /-- A channel or another CPU stores a byte at a real address (R136, R853). -/
  | store (a : Addr) (b : Byte)
  /-- A TCW transfer step of I/O channel `chan`, device to memory (R676). -/
  | tcwIn (chan : BitVec 4) (data : Word)
  /-- A TCW transfer step of I/O channel `chan`, memory to device (R676). -/
  | tcwOut (chan : BitVec 4)
  /-- A key of the panel (R840). -/
  | key (k : PanelKey)
  deriving DecidableEq, Repr

/-- The Address Compare register and its three enables (R55, R842). -/
structure Stops where
  addr : Addr
  instr : Bool
  read : Bool
  write : Bool
  deriving DecidableEq, Repr

/-- What has asked for a halt that waits for the end of an instruction: nothing, the panel's RUN/HALT or INSTR STEP
key (R841, R845), an address stop (R842). -/
inductive HaltReq where
  | none
  | key
  | stop
  deriving DecidableEq, Repr

/-- The panel (R842 to R844): lock, clock override, the three indicators that are state, and the displays. -/
structure Panel where
  locked : Bool
  clockOverride : Bool
  parityLight : Bool
  /-- The INTERRUPT ACTIVE indicator forced on by a trap halt (R790); see `State.interruptLight`. -/
  intLight : Bool
  /-- The STOP indicator: an address stop has halted the CPU (R842; log 47 says when it goes out). -/
  stopLight : Bool
  aDisplay : Word
  bDisplay : Word
  deriving DecidableEq, Repr

/-- The whole machine. -/
structure State where
  /-- R0..R7 (R30). -/
  regs : Vector Word 8
  /-- PSD1 bit 0 (R33, R38). -/
  priv : Bool
  /-- PSD1 bits 1-4 (R37). -/
  cc : CC
  /-- PSD1 bit 5 (R33). -/
  ext : Bool
  /-- PSD1 bit 6, the last instruction executed was a right halfword (R36, R751). -/
  hist : Bool
  /-- PSD1 bit 7, Arithmetic Exception trap mask (R33). -/
  aexp : Bool
  /-- PSD1 bits 13-30, PC and NR (R34). -/
  pc : HAddr
  /-- PSD2, manual bits 32-63 (R33); bits 47-49 are commands of a load and are kept zero (R602). -/
  psd2 : Word
  /-- MODE (R40). -/
  mode : Mode
  /-- BMT_EN (R41). -/
  bmtEn : Bool
  /-- PSDTRAP_EN (R41). -/
  psdTrapEn : Bool
  /-- The scratchpad (R44); cell 0x91 is CPUSTAT (R42). -/
  scratch : Vector Word 256
  /-- MAP[0..31] (R46). -/
  mapRegs : Vector Half 32
  /-- MAP_ACTIVE (R46). -/
  mapActive : Bool
  /-- BLOCKED (R47). -/
  blocked : Bool
  /-- BLOCK_COUNT (R47, R756). -/
  blockCount : Nat
  /-- PROT[0..15] (R48). -/
  prot : Vector Half 16
  /-- ENABLED[L], bit `2^L` for level L (R50). -/
  enabled : BitVec 128
  /-- REQUEST[L] (R50). -/
  request : BitVec 128
  /-- ACTIVE[L] (R50). -/
  active : BitVec 128
  /-- NOINT_NEXT (R52). -/
  noIntNext : Bool
  /-- CSW, the control switches (R53). -/
  csw : Half
  /-- RUN (R54). -/
  run : Run
  /-- WCS (R57), a sparse store; an unlisted location holds zero. -/
  wcs : List (Nat × Dword)
  /-- ECWCS_ARMED (R57, R700). -/
  ecwcsArmed : Option (BitVec 7)
  /-- DEV of the Configuration RAM (R64, R720). -/
  dev : Vector (Option DevEntry) 128
  /-- INT of the Configuration RAM (R64, R720). -/
  int : Vector (Option IntEntry) 128
  /-- Main memory (R60), a sparse store. -/
  mem : List Host.Cell
  /-- The address stops (R55, R842). -/
  stops : Stops
  /-- The panel (R843, R844). -/
  panel : Panel
  /-- The model's own: a halt of the panel, an address stop or a step waits for the instruction's end. -/
  haltReq : HaltReq
  /-- The model's own: the last instruction executed was BIB, BIH, BIW or BID (R845). -/
  lastBix : Bool
  /-- The model's own: the next instruction fetch meets a memory error (R740). -/
  fetchParity : Bool
  /-- The model's own: the next operand read meets a memory error (R740). -/
  operandParity : Bool
  /-- The environment's events, one list for each coming instruction boundary. -/
  inputs : List (List EnvEvent)
  /-- What channels and other CPUs store between this CPU's coming accesses to memory, one list for each access
  (R133, R136, R853). -/
  between : List (List (Addr × Byte))
  /-- The environment's answers to TD; none where nothing answers (R674). -/
  devReplies : List (Option CC)
  /-- The environment's answers to Class F instructions; none where nothing answers (R682). -/
  chanReplies : List (Option ChanReply)
  /-- The status addresses reported at Class F acknowledges (R766). -/
  ackReplies : List Addr
  /-- What WCS routines leave (R330). -/
  wcsReplies : List WcsReply
  /-- What the CPU has sent, newest first (R670). -/
  sent : List BusMessage
  /-- The model's own: the free values are Config constants applied to it. -/
  freeCount : Nat
  /-- The installation's parameters (R7); no step changes them. -/
  cfg : Config
  deriving DecidableEq, Repr

/-- The stuck states of the model. -/
inductive Fault where
  /-- An indirect chain that never ends: the instruction never completes and no interrupt is recognised
  inside it (R99, U1). Raised by effective address generation only. Safe: the machine makes no further
  progress. -/
  | endlessIndirect
  deriving DecidableEq, Repr

/-- The instructions without a meaning. -/
inductive Refusal where
  /-- Raised by a dispatch arm that has no meaning yet; no arm is left so. Safe. -/
  | notModelled (mnemonic : String)
  deriving DecidableEq, Repr

/-- The scratchpad location of the CPU status word (R42). -/
def cpuStatCell : BitVec 8 := 0x91

/-- After SYSTEM RESET (R80, R821). Where R80 gives no value, or only the spec's own choice, see logs 1 to 5
and 17. -/
def State.reset : State where
  regs := Vector.replicate 8 0
  priv := true
  cc := ⟨false, false, false, false⟩
  ext := false
  hist := false
  aexp := false
  pc := 0
  psd2 := 0
  mode := .psd
  bmtEn := false
  psdTrapEn := false
  scratch := ((Vector.replicate 256 0).set 0x91 0x00000041).set 0xF3 0
  mapRegs := Vector.replicate 32 0
  mapActive := false
  blocked := false
  blockCount := 0
  prot := Vector.replicate 16 0
  enabled := 0
  request := 0
  active := 0
  noIntNext := false
  csw := 0
  run := .halt
  wcs := []
  ecwcsArmed := none
  dev := Vector.replicate 128 none
  int := Vector.replicate 128 none
  mem := []
  stops := ⟨0, false, false, false⟩
  panel := ⟨false, false, false, false, false, 0, 0⟩
  haltReq := .none
  lastBix := false
  fetchParity := false
  operandParity := false
  inputs := []
  between := []
  devReplies := []
  chanReplies := []
  ackReplies := []
  wcsReplies := []
  sent := []
  freeCount := 0
  cfg := Config.initial

end Sys2Proof.Machine
end

