-- ==== Sys2Proof/Machine/Ops.lean ====
section
/-!
DEFINITION. The named operations over the state: registers and their fields, memory and translation
(spec/20_memory.md R110 to R125), the load of a PSW or PSD and of the MAP (R140 to R144, R602), taking a trap
(spec/60_exceptions.md R770, R780, R790), taking an interrupt (R765 to R767), and the frame every instruction
runs in (R35, R751, R756). A meaning is written over these.
-/

namespace Sys2Proof.Machine

/-! ### Registers -/

/-- `R[r]` (R9, R30). -/
def State.reg (s : State) (r : Reg) : Word := s.regs[r.toNat]'r.isLt

/-- `R[r] <- v` (R9, R30). -/
def State.setReg (s : State) (r : Reg) (v : Word) : State := { s with regs := s.regs.set r.toNat v r.isLt }

/-- The mask register R4 (R31). -/
def State.mask (s : State) : Word := s.reg 4

/-- `R[r] || R[(r+1) mod 8]` (R223, decision D10). -/
def State.pair (s : State) (r : Reg) : Dword := s.reg r ++ s.reg (r + 1)

/-- The pair written, the most significant word to `r` (R223, decision D10). -/
def State.setPair (s : State) (r : Reg) (v : Dword) : State :=
  (s.setReg (r + 1) (bits v 32 32)).setReg r (bits v 0 32)

/-- `CC <- (a, b, c, d)` (R9, R37). -/
def State.setCC (s : State) (c : CC) : State := { s with cc := c }

/-- `pc <- target` (R9, R34). -/
def State.setPc (s : State) (p : HAddr) : State := { s with pc := p }

/-- HIST written by the CPU (R36). -/
def State.setHist (s : State) (b : Bool) : State := { s with hist := b }

/-- The run state changed (R54). -/
def State.setRun (s : State) (r : Run) : State := { s with run := r }

/-- A scratchpad cell (R44). -/
def State.cell (s : State) (i : BitVec 8) : Word := s.scratch[i.toNat]'i.isLt

/-- A scratchpad cell written (R44). -/
def State.setCell (s : State) (i : BitVec 8) (v : Word) : State :=
  { s with scratch := s.scratch.set i.toNat v i.isLt }

/-- CPUSTAT, scratchpad location 0x91 (R42). -/
def State.stat (s : State) : Word := s.cell cpuStatCell

/-- CPUSTAT replaced. -/
def State.setStat (s : State) (v : Word) : State := s.setCell cpuStatCell v

/-- CPUSTAT bit `n` made `b` (R42). -/
def State.setStatBit (s : State) (n : Nat) (b : Bool) : State := s.setStat (putBitAt s.stat n b)

/-- A word with manual bit `n` alone set. -/
def statBit (n : Nat) : Word := BitVec.twoPow 32 (31 - n)

/-- MAP[i] (R46). -/
def State.mapReg (s : State) (i : BitVec 5) : Half := s.mapRegs[i.toNat]'i.isLt

/-- MAP[i] written (R46). -/
def State.setMapReg (s : State) (i : BitVec 5) (v : Half) : State :=
  { s with mapRegs := s.mapRegs.set i.toNat v i.isLt }

/-- PROT[i] (R48). -/
def State.protReg (s : State) (i : BitVec 4) : Half := s.prot[i.toNat]'i.isLt

/-- PROT[i] written (R48). -/
def State.setProtReg (s : State) (i : BitVec 4) (v : Half) : State :=
  { s with prot := s.prot.set i.toNat v i.isLt }

/-- ENABLED[L] written (R50). -/
def State.setEnabled (s : State) (l : Level) (b : Bool) : State :=
  { s with enabled := putBit s.enabled l.toNat b }

/-- REQUEST[L] written (R50). -/
def State.setRequest (s : State) (l : Level) (b : Bool) : State :=
  { s with request := putBit s.request l.toNat b }

/-- ACTIVE[L] written (R50). -/
def State.setActive (s : State) (l : Level) (b : Bool) : State :=
  { s with active := putBit s.active l.toNat b }

/-- A message on the SelBUS (R670). -/
def State.send (s : State) (m : BusMessage) : State := { s with sent := m :: s.sent }

/-- BLOCKED, its count and its mirror, CPUSTAT bit 26 (R47, R756): the count starts at zero when the state
becomes blocked and is zero while it is not. -/
def State.setBlocked (s : State) (b : Bool) : State :=
  ({ s with blocked := b, blockCount := if b && s.blocked then s.blockCount else 0 }).setStatBit 26 b

/-- AEXP and its mirror, CPUSTAT bit 24 (R42, R619, R620). -/
def State.setAexp (s : State) (b : Bool) : State := ({ s with aexp := b }).setStatBit 24 b

/-! ### The stored PSW and PSD -/

/-- The four condition codes as bits 1-4 of a word. -/
def CC.toBits (c : CC) : BitVec 4 :=
  BitVec.ofBool c.cc1 ++ BitVec.ofBool c.cc2 ++ BitVec.ofBool c.cc3 ++ BitVec.ofBool c.cc4

/-- Bits 1-4 of a word as condition codes (R341). -/
def ccOf (w : Word) : CC := ⟨bitAt w 1, bitAt w 2, bitAt w 3, bitAt w 4⟩

/-- StoredPSD1() (R770): bits 8-12 and 31 zero, bit 6 HIST. -/
def State.storedPsd1 (s : State) : Word :=
  BitVec.ofBool s.priv ++ s.cc.toBits ++ BitVec.ofBool s.ext ++ BitVec.ofBool s.hist ++
    BitVec.ofBool s.aexp ++ (0 : BitVec 5) ++ s.pc ++ (0 : BitVec 1)

/-- StoredPSD2() (R770): bits 47 and 48 zero, bit 49 BLOCKED. -/
def State.storedPsd2 (s : State) : Word :=
  bits s.psd2 0 15 ++ (0 : BitVec 2) ++ BitVec.ofBool s.blocked ++ bits s.psd2 18 14

/-- StoredPSW() (R781): bits 7-12 and 31 zero, bit 6 HIST. -/
def State.storedPsw (s : State) : Word :=
  BitVec.ofBool s.priv ++ s.cc.toBits ++ BitVec.ofBool s.ext ++ BitVec.ofBool s.hist ++
    (0 : BitVec 6) ++ s.pc ++ (0 : BitVec 1)

/-! ### Interrupt levels -/

/-- Levels 0x02 to 0x11 do not exist (R641, R731). -/
def isLevel (l : Level) : Bool := decide (l.toNat < 2) || decide (0x12 ≤ l.toNat)

/-- Class F of the I/O classes (R720). -/
def inClassF (d : DevEntry) : Bool := d.cls == 0xF

/-- DEV[d] (R720). -/
def State.devAt (s : State) (d : BitVec 7) : Option DevEntry := s.dev[d.toNat]'d.isLt

/-- INT[L] (R720). -/
def State.intAt (s : State) (l : Level) : Option IntEntry := s.int[l.toNat]'l.isLt

/-- Is `l` the service level of a configured device with property `p` (R720). -/
def State.hasDev (s : State) (l : Level) (p : DevEntry → Bool) : Bool :=
  s.dev.toList.any fun e => match e with
    | some d => (d.level == l) && p d
    | none => false

/-- A level assigned to a Class F channel (R641). -/
def State.isClassF (s : State) (l : Level) : Bool := s.hasDev l inClassF

/-- A level with an RTOM or an IOM behind it (R641, R720). -/
def State.isWired (s : State) (l : Level) : Bool := (s.intAt l).isSome || s.hasDev l (fun _ => true)

/-- The enable bits as contention sees them: levels 0 and 1 are constantly enabled by the jumper (R761). -/
def State.enabledEff (s : State) : BitVec 128 :=
  match s.cfg.level01 with
  | .constant => s.enabled ||| 3
  | .software => s.enabled

/-- The numerically smallest level whose bit is set. -/
def lowest (v : BitVec 128) : Option Level :=
  if v = 0 then none else ((List.range 128).find? fun i => v.getLsbD i).map (BitVec.ofNat 7)

/-- The candidate of R761: the smallest contending level, if no level at or above it in priority is active. -/
def State.candidate (s : State) : Option Level :=
  match lowest (s.enabledEff &&& s.request) with
  | none => none
  | some c =>
    match lowest s.active with
    | none => some c
    | some a => if c.toNat < a.toNat then some c else none

/-- IVL(L) (R732). -/
def ivlOf (l : Level) : Addr :=
  let n := l.toNat
  if n = 0 then 0x0F0
  else if n = 1 then 0x0F8
  else if n < 0x14 then BitVec.ofNat 24 (0x0A0 + 4 * n)
  else if n < 0x24 then BitVec.ofNat 24 (0x140 + 4 * (n - 0x14))
  else BitVec.ofNat 24 (0x100 + 4 * n)

/-! ### Traps: the events and their constants -/

/-- The traps (R738 to R756), with what their entry needs. -/
inductive Trap where
  /-- R738. -/
  | powerFail
  /-- R739, never raised. -/
  | systemOverride
  /-- R740; on the instruction fetch, or on an operand. -/
  | memoryParity (instr : Bool)
  /-- R741; of the instruction, or of an operand. -/
  | nonpresent (instr : Bool)
  /-- R742; `wcs` where the cause is an absent CPU WCS. -/
  | undefined (wcs : Bool)
  /-- R743. -/
  | privilege
  /-- R744, R616. -/
  | svc (ind : BitVec 4) (call : BitVec 12)
  /-- R745, with the CPUSTAT bits it sets. -/
  | machineCheck (stat : Word)
  /-- R746, with the CPUSTAT bits it sets. -/
  | systemCheck (stat : Word)
  /-- R747. -/
  | mapFault
  /-- R756. -/
  | blockTimeout
  /-- R749. -/
  | arithmetic
  /-- The trap `t`, met while the device `d` was addressed: a trap halt stores its table entries (R790). -/
  | ofDevice (d : DevEntry) (t : Trap)
  deriving DecidableEq, Repr

/-- The device that a trap involves (R790). -/
def Trap.device : Trap → Option DevEntry
  | .ofDevice d _ => some d
  | _ => none

/-- The relative priority (R731); the lowest number first (R733). -/
def Trap.priority : Trap → Nat
  | .powerFail => 0x00
  | .systemOverride => 0x01
  | .memoryParity _ => 0x02
  | .nonpresent _ => 0x03
  | .undefined _ => 0x04
  | .privilege => 0x05
  | .svc _ _ => 0x06
  | .machineCheck _ => 0x07
  | .systemCheck _ => 0x08
  | .mapFault => 0x09
  | .blockTimeout => 0x0E
  | .arithmetic => 0x0F
  | .ofDevice _ t => t.priority

/-- CPUSTAT bits set before the status word is stored (R771). -/
def Trap.statBits (t : Trap) (m : Mode) : Word :=
  match t with
  | .memoryParity i => if i then statBit 9 else statBit 8
  | .nonpresent i => if i then statBit 11 else statBit 10
  | .undefined w =>
    (match m with
      | .psw => statBit 19
      | .psd => statBit 12) ||| (if w then statBit 22 else 0)
  | .machineCheck b => b
  | .systemCheck b => b
  | .mapFault => statBit 20
  | .powerFail => 0
  | .systemOverride => 0
  | .privilege => 0
  | .svc _ _ => 0
  | .blockTimeout => 0
  | .arithmetic => 0
  | .ofDevice _ t => t.statBits m

/-- TrapIVL(t) (R732). -/
def Trap.ivl : Trap → Addr
  | .powerFail => 0x0F4
  | .systemOverride => 0x0FC
  | .memoryParity _ => 0x0E8
  | .nonpresent _ => 0x190
  | .undefined _ => 0x194
  | .privilege => 0x198
  | .svc _ _ => 0x180
  | .machineCheck _ => 0x184
  | .systemCheck _ => 0x188
  | .mapFault => 0x18C
  | .blockTimeout => 0x0E4
  | .arithmetic => 0x1A4
  | .ofDevice _ t => t.ivl

/-- The traps that arm the trap halt (R790, decision D72). -/
def Trap.arms : Trap → Bool
  | .memoryParity _ => true
  | .nonpresent _ => true
  | .undefined _ => true
  | .privilege => true
  | .machineCheck _ => true
  | .systemCheck _ => true
  | .mapFault => true
  | .powerFail => false
  | .systemOverride => false
  | .svc _ _ => false
  | .blockTimeout => false
  | .arithmetic => false
  | .ofDevice _ t => t.arms

/-- The level on which PSW mode schedules the trap (R780). -/
def Trap.pswLevel : Trap → Option Level
  | .memoryParity _ => some 0x12
  | .nonpresent _ => some 0x24
  | .undefined _ => some 0x25
  | .privilege => some 0x26
  | .arithmetic => some 0x29
  | .powerFail => none
  | .systemOverride => none
  | .svc _ _ => none
  | .machineCheck _ => none
  | .systemCheck _ => none
  | .mapFault => none
  | .blockTimeout => none
  | .ofDevice _ t => t.pswLevel

/-- Why an instruction did not run to its end. -/
inductive Stop where
  /-- It raised a trap (R751). -/
  | trap (t : Trap)
  /-- WAIT: the pc stays at the instruction (R613); with a trap when interrupts are blocked. -/
  | hold (t : Option Trap)
  /-- A memory error that PSW mode answers with a trap halt (R790). -/
  | halted (t : Trap)
  /-- It never completes. -/
  | stuck (f : Fault)
  deriving DecidableEq, Repr

/-- The result of a piece of an instruction: a value, or a stop; with the state so far in both (stores made
before a trap stay, R111). -/
inductive Res (α : Type) where
  | ok (a : α) (s : State)
  | stop (e : Stop) (s : State)

/-- One piece after the other. -/
def Res.bind {α β : Type} (x : Res α) (f : α → State → Res β) : Res β :=
  match x with
  | .ok a s => f a s
  | .stop e s => .stop e s

/-- `raise t` in an instruction rule (R9). -/
def trapNow {α : Type} (t : Trap) (s : State) : Res α := .stop (.trap t) s

/-! ### Physical memory -/

/-- What a byte of memory that nothing has written reads as. DESIGN CHOICE, log 1. -/
def unlistedByte : Byte := 0

/-- The byte at a real address (R60). -/
def State.byte (s : State) (a : Nat) : Byte := Sparse.get unlistedByte s.mem a

/-- A byte stored at a real address. -/
def State.setByte (s : State) (a : Nat) (b : Byte) : State := { s with mem := Sparse.set unlistedByte s.mem a b }

/-- The canonical form of memory. -/
def Memory.wf (m : List Host.Cell) : Bool := Sparse.wf unlistedByte m

/-- Access sizes (R110). -/
inductive Size where
  | byte
  | half
  | word
  deriving DecidableEq, Repr

/-- An access size in bytes. -/
def Size.bytes : Size → Nat
  | .byte => 1
  | .half => 2
  | .word => 4

/-- Are the `n` bytes from `a` on installed: below MEM_BYTES and in no hole (R110, R741). -/
def State.installed (s : State) (a n : Nat) : Bool :=
  decide (a + n ≤ s.cfg.memBytes) && s.cfg.holes.all fun h => decide (a + n ≤ h.base ∨ h.base + h.size ≤ a)

/-- Is every byte of the access installed (R110, R741). -/
def State.present (s : State) (pa : Addr) (n : Size) : Bool := s.installed pa.toNat n.bytes

/-- The big-endian value of the bytes at `a`, zero-extended (R90, R110). -/
def State.peek (s : State) (a : Nat) (n : Size) : Word :=
  match n with
  | .byte => (s.byte a).setWidth 32
  | .half => (s.byte a ++ s.byte (a + 1)).setWidth 32
  | .word => s.byte a ++ s.byte (a + 1) ++ s.byte (a + 2) ++ s.byte (a + 3)

/-- The low bytes of `v` stored at `a`, big-endian (R90, R111). -/
def State.poke (s : State) (a : Nat) (n : Size) (v : Word) : State :=
  match n with
  | .byte => s.setByte a (bits v 24 8)
  | .half => (s.setByte a (bits v 16 8)).setByte (a + 1) (bits v 24 8)
  | .word => (((s.setByte a (bits v 0 8)).setByte (a + 1) (bits v 8 8)).setByte (a + 2)
      (bits v 16 8)).setByte (a + 3) (bits v 24 8)

/-- Bytes stored one after the other by another agent than this CPU: other CPUs, channels, a WCS routine. Memory
that is not installed takes none, the model's choice (R136 says nothing of it; log 42). -/
def storeAll : List (Addr × Byte) → State → State
  | [], s => s
  | (a, b) :: t, s => storeAll t (if s.present a .byte then s.setByte a.toNat b else s)

/-- Before an access of this CPU to memory: the stores that other agents make there (R133, R136, R853). -/
def State.interleave (s : State) : State :=
  match s.between with
  | [] => s
  | l :: rest => storeAll l { s with between := rest }

/-- `x` with no other agent's access inside it: the locked part of SBM, ZBM and ABM (R131). -/
def locked {α : Type} (x : State → Res α) (s : State) : Res α :=
  match x { s with between := [] } with
  | .ok a t => .ok a { t with between := s.between }
  | .stop e t => .stop e { t with between := s.between }

/-- What a memory access can meet (R740, R741). -/
inductive MemErr where
  | nonpresent
  | parity
  deriving DecidableEq, Repr

/-- The trap of a memory error on an operand (R740, R741). -/
def operandErr : MemErr → Trap
  | .nonpresent => .nonpresent false
  | .parity => .memoryParity false

/-- The trap of a memory error in a context switch; `intr` in interrupt processing (R745, R771). -/
def switchErr (intr : Bool) (e : MemErr) : Trap :=
  .machineCheck ((match e with
    | .nonpresent => statBit 10
    | .parity => statBit 8) ||| (if intr then statBit 1 else 0))

/-- The PARITY ERROR indicator is lit (R740, R844). Nothing but a SYSTEM RESET puts it out, the model's choice
(log 47). -/
def State.lightParity (s : State) : State := { s with panel := { s.panel with parityLight := true } }

/-- The read of PhysRead, once the access has its turn (R110). -/
def readNow (err : MemErr → Trap) (pa : Addr) (n : Size) (s : State) : Res Word :=
  if !s.present pa n then trapNow (err .nonpresent) s
  else if s.operandParity then trapNow (err .parity) { s.lightParity with operandParity := false }
  else .ok (s.peek pa.toNat n) s

/-- PhysRead (R110): no translation and no protection; `err` names the trap of an error. -/
def physRead (err : MemErr → Trap) (pa : Addr) (n : Size) (s : State) : Res Word := readNow err pa n s.interleave

/-- The write of PhysWrite, once the access has its turn (R111). -/
def writeNow (err : MemErr → Trap) (pa : Addr) (n : Size) (v : Word) (s : State) : Res Unit :=
  if s.present pa n then .ok () (s.poke pa.toNat n v) else trapNow (err .nonpresent) s

/-- PhysWrite (R111). -/
def physWrite (err : MemErr → Trap) (pa : Addr) (n : Size) (v : Word) (s : State) : Res Unit :=
  writeNow err pa n v s.interleave

/-- The low 24 bits of a word as a real address: "[8:31]". -/
def addrOf (w : Word) : Addr := bits w 8 24

/-! ### Logical memory -/

/-- What an access is for: the translation of R120 differs. -/
inductive Access where
  /-- An instruction fetch. -/
  | fetch
  /-- An indirect word read on behalf of a branch. -/
  | branch
  /-- An operand, or an indirect word of another instruction. -/
  | operand
  deriving DecidableEq, Repr

/-- The MAP register an address uses, none beyond the mapped logical space (R120, decision D16). -/
def State.pageOf (s : State) (k : Access) (a : Addr) : Option (BitVec 5) :=
  if s.ext && decide (k = .operand) then
    if bits a 0 4 = 0 then some (bits a 4 5) else none
  else some ((bits a 5 4).setWidth 5)

/-- Translate (R115, R120, R124). -/
def State.translate (s : State) (k : Access) (write : Bool) (a : Addr) : Except Trap Addr :=
  if s.mapActive then
    match s.pageOf k a with
    | none => .error .mapFault
    | some p =>
      if !bitAt (s.mapReg p) 0 then .error .mapFault
      else if write && bitAt (s.mapReg p) 1 && !s.priv then .error .privilege
      else .ok (bits (s.mapReg p) 7 9 ++ bits a 9 15)
  else .ok a

/-- PageProtected (R125, decision D18). -/
def State.pageProtected (s : State) (pa : Addr) : Bool :=
  decide (bits pa 0 5 = 0) && bitAt (s.protReg (bits pa 5 4)) (15 - (bits pa 9 4).toNat)

/-- Does an access of `n` bytes at `pa` touch the Address Compare location (R842). -/
def State.stopHit (s : State) (pa : Addr) (n : Size) : Bool :=
  decide (pa.toNat ≤ s.stops.addr.toNat) && decide (s.stops.addr.toNat < pa.toNat + n.bytes)

/-- An address stop that matches asks for a halt at the end of the instruction (R842, decision D75). -/
def State.askHalt (s : State) (b : Bool) : State := { s with haltReq := if b then .stop else s.haltReq }

/-- An operand, or an indirect word, read at a real address: the operand read stop (R842). -/
def operandRead (pa : Addr) (n : Size) (s : State) : Res Word :=
  (physRead operandErr pa n s).bind fun v s => .ok v (s.askHalt (s.stops.read && s.stopHit pa n))

/-- An operand stored at a real address: the operand write stop (R842). -/
def operandWrite (pa : Addr) (n : Size) (v : Word) (s : State) : Res Unit :=
  (physWrite operandErr pa n v s).bind fun _ s => .ok () (s.askHalt (s.stops.write && s.stopHit pa n))

/-- MemRead of an operand or of an indirect word (R110). -/
def memRead (k : Access) (a : Addr) (n : Size) (s : State) : Res Word :=
  match s.translate k false a with
  | .error t => trapNow t s
  | .ok pa => operandRead pa n s

/-- MemWrite (R111): MAP fault and MAP protection, page protection, presence, then the store. -/
def memWrite (a : Addr) (n : Size) (v : Word) (s : State) : Res Unit :=
  match s.translate .operand true a with
  | .error t => trapNow t s
  | .ok pa =>
    if !s.priv && s.pageProtected pa then trapNow .privilege s
    else operandWrite pa n v s

/-! ### Loading the MAP (R140 to R144) -/

/-- The Master Process List base (R141). -/
def State.mplBase (s : State) : Addr := addrOf (s.cell s.cfg.mplCell)

/-- The byte offset of the CPIX, PSD2[50:61] || 00 (R141, decision D17). -/
def cpixOffset (psd2 : Word) : Addr := (bits psd2 18 12 ++ (0 : BitVec 2)).setWidth 24

/-- The byte offset of the BPIX, PSD2[34:45] || 00 (R141, decision D17). -/
def bpixOffset (psd2 : Word) : Addr := (bits psd2 2 12 ++ (0 : BitVec 2)).setWidth 24

/-- The entries of one segment into MAP[cell] and up; the answer is the next cell (LoadSegment, R142). A load that
ends in a trap leaves the MAP registers that it has written (R142's order; log 44). -/
def loadEntries (err : MemErr → Trap) : Nat → Addr → Nat → State → Res Nat
  | 0, _, cell, s => .ok cell s
  | n + 1, p, cell, s =>
    if 31 < cell then trapNow (.systemCheck (statBit 16)) s
    else (physRead err p .half s).bind fun v s =>
      loadEntries err n (p + 2) (cell + 1) (s.setMapReg (BitVec.ofNat 5 cell) (v.setWidth 16))

/-- LoadSegment (R142): SPC in bits 0-7 of the MSD, its low six bits used; MIDL pointer in bits 8-31 (R143). -/
def loadSegment (err : MemErr → Trap) (msd : Word) (cell : Nat) (s : State) : Res Nat :=
  loadEntries err (bits msd 2 6).toNat (addrOf msd) cell s

/-- `count` segment descriptors from `list` (R142). -/
def loadSegments (err : MemErr → Trap) : Nat → Addr → Nat → State → Res Nat
  | 0, _, cell, s => .ok cell s
  | n + 1, list, cell, s =>
    (physRead err list .word s).bind fun msd s =>
      (loadSegment err msd cell s).bind fun cell s => loadSegments err n (list + 4) cell s

/-- LoadMap (R142); the answer is the number of MAP registers loaded. A zero SDC loads nothing (R144). -/
def loadMap (err : MemErr → Trap) (psd2 : Word) (s : State) : Res Nat :=
  (physRead err (s.mplBase + cpixOffset psd2) .word s).bind fun mscd s =>
    match (bits mscd 2 6).toNat with
    | 0 => .ok 0 s
    | n + 1 =>
      if bitAt mscd 0 then
        (physRead err (s.mplBase + bpixOffset psd2) .word s).bind fun bmscd s =>
          (physRead err (addrOf bmscd) .word s).bind fun msd s =>
            (loadSegment err msd 0 s).bind fun cell s => loadSegments err n (addrOf mscd) cell s
      else loadSegments err (n + 1) (addrOf mscd) 0 s

/-! ### Loading a PSW or a PSD (R602) -/

/-- MAP MODE of a PSD2 is not 00 (R33, R140). -/
def mapped (psd2 : Word) : Bool := decide (bits psd2 0 2 ≠ 0)

/-- The PSD2 register after a load: bits 47-49 are zero (R602). -/
def psd2Kept (w2 : Word) : Word := bits w2 0 15 ++ (0 : BitVec 3) ++ bits w2 18 14

/-- The blocking state after a load: bits 48-49 of the new PSD2 (R47, R602). -/
def blockedBy (w2 : Word) (old : Bool) : Bool := if bitAt w2 16 then old else bitAt w2 17

/-- The registers of LoadPSD, once the MAP is loaded (R602). -/
def State.withPsd (s : State) (w1 w2 : Word) : State :=
  (({ s with
      priv := bitAt w1 0, cc := ccOf w1, ext := bitAt w1 5, pc := bits w1 13 18, psd2 := psd2Kept w2,
      mapActive := mapped w2 }).setAexp (bitAt w1 7)).setBlocked (blockedBy w2 s.blocked)

/-- LoadPSD (R602): the MAP first, so that a fault in it leaves the old PSD (decision D56). -/
def loadPsd (err : MemErr → Trap) (w1 w2 : Word) (mapload : Bool) (s : State) : Res Unit :=
  if mapped w2 && mapload && !bitAt w2 15 then
    (loadMap err w2 s).bind fun _ s => .ok () (s.withPsd w1 w2)
  else .ok () (s.withPsd w1 w2)

/-- LoadPSW (R602). -/
def State.withPsw (s : State) (w : Word) : State :=
  { s with priv := bitAt w 0, cc := ccOf w, ext := bitAt w 5, pc := bits w 13 18 }

/-! ### What the panel shows when the CPU halts (R841, R842, R844) -/

/-- The logical byte address of the word that holds the instruction at a pc (R162). -/
def fetchAddr (pc : HAddr) : Addr := (bits pc 0 17 ++ (0 : BitVec 2)).setWidth 24

/-- PSD1 as displayed, with the mirror bits 8, 9 and 31 (R33, R844): PSD mode, MAP MODE nonzero and the map
active, blocked. -/
def State.displayPsd1 (s : State) : Word :=
  putBitAt (putBitAt (putBitAt s.storedPsd1 8 (decide (s.mode = .psd))) 9 (mapped s.psd2 && s.mapActive)) 31 s.blocked

/-- The memory word of the instruction at the pc, where there is one (log 46). -/
def State.nextWord (s : State) : Option Word :=
  match s.translate .fetch false (fetchAddr s.pc) with
  | .error _ => none
  | .ok pa => if s.present pa .word then some (s.peek pa.toNat .word) else none

/-- The displays of a CPU that has halted: the next PSW in the A-display, the next instruction word in the
B-display (R841, R842, R844; log 46). -/
def State.showHalt (s : State) : State :=
  { s with panel := { s.panel with
      aDisplay := s.displayPsd1, bDisplay := s.nextWord.getD s.panel.bDisplay } }

/-- A halted CPU set running by a key, a halt already asked for or not (R840, R841). It puts the STOP indicator out,
the model's choice (log 47). -/
def State.setGoing (s : State) (h : HaltReq) : State :=
  { s with run := .run, haltReq := h, panel := { s.panel with stopLight := false } }

/-- The INTERRUPT ACTIVE indicator: some level is active, or a trap halt has forced it on (R790, R844). -/
def State.interruptLight (s : State) : Bool := decide (s.active ≠ 0) || s.panel.intLight

/-! ### Trap halt (R790) -/

/-- A word stored, left out where memory is not installed (log 38). -/
def State.pokeIfPresent (s : State) (pa : Addr) (v : Word) : State :=
  if s.present pa .word then s.poke pa.toNat .word v else s

/-- A word of the save area: an access of this CPU, after the stores of others (R853). -/
def State.saveWord (s : State) (pa : Addr) (v : Word) : State := s.interleave.pokeIfPresent pa v

/-- The save area of a trap halt (R790): the PSW or PSD, CPUSTAT, and the device's entries in the Configuration
RAM, zeros where no device is involved (decision D72). Their layout is not given (log 45). -/
def saveArea (t : Trap) (s : State) : State :=
  let s1 := s.saveWord 0x530 s.storedPsd1
  let s2 := match s.mode with
    | .psd => s1.saveWord 0x534 s.storedPsd2
    | .psw => s1
  ((s2.saveWord 0x538 s.stat).saveWord 0x53C ((t.device.map Config.deviceWord).getD 0)).saveWord 0x540
    ((t.device.map Config.interruptWord).getD 0)

/-- TrapHalt (R790). HIST is a free value afterwards (log 7). The INTERRUPT ACTIVE indicator that it forces on
stays so until a SYSTEM RESET (the model's choice, log 47). -/
def trapHalt (t : Trap) (s : State) : State :=
  let u := saveArea t s
  { u with
    pc := bits t.ivl 5 18, run := .halt, panel := { u.panel with intLight := true },
    hist := Config.freeFlag u.freeCount, freeCount := u.freeCount + 1 }.showHalt

/-! ### Trap entry in PSD mode (R616, R770) -/

/-- Executing goes on after an entry: a wait is left (R765; for a trap, log 11). -/
def State.leaveWait (s : State) : State :=
  match s.run with
  | .wait => s.setRun .run
  | .run => s
  | .halt => s

/-- From the ICB's address on: the old PSD and word 5 stored, the new PSD loaded (R616, R770). -/
def exchangePsd (err : MemErr → Trap) (icb : Addr) (word5 : Word) (s : State) : Res Unit :=
  (physWrite err icb .word s.storedPsd1 s).bind fun _ s1 =>
    (physWrite err (icb + 4) .word s.storedPsd2 s1).bind fun _ s =>
      (physWrite err (icb + 16) .word word5 s).bind fun _ s =>
        (physRead err (icb + 8) .word s).bind fun n1 s =>
          (physRead err (icb + 12) .word s).bind fun n2 s =>
            (loadPsd err n1 n2 true s).bind fun _ s => .ok () s.leaveWait

/-- The ICB of a trap: the word at its vector; for SVC the secondary vector (R616, R770). -/
def trapIcb (t : Trap) (s : State) : Res Addr :=
  (physRead (switchErr false) t.ivl .word s).bind fun v s =>
    match t with
    | .svc ind _ =>
      (physRead (switchErr false) (addrOf v + 4 * ind.setWidth 24) .word s).bind fun w s => .ok (addrOf w) s
    | _ => .ok (addrOf v) s

/-- Word 5 of the ICB: the call number of an SVC, the CPU status word of any other trap (R616, R770). -/
def trapWord5 (t : Trap) (s : State) : Word :=
  match t with
  | .svc _ call => call.setWidth 32
  | _ => s.stat

/-- One trap entry, its errors not yet taken (R616, R770). -/
def enterTrap (t : Trap) (s : State) : Res Unit :=
  (trapIcb t s).bind fun icb s => exchangePsd (switchErr false) icb (trapWord5 t s) s

/-- Machine Check, or a second System Check, while entering a trap: no further entry (R745, decision D68;
log 15). -/
def Trap.endsNesting (outer inner : Trap) : Bool :=
  decide (outer.priority = 0x07) || (decide (outer.priority = 0x08) && decide (inner.priority = 0x08))

/-- TrapEntry with the Machine Check or System Check an error in it raises (R744, R745, R746). Three levels
reach the end: any trap, System Check, Machine Check. A trap halt that ends the nesting has the vector and the device words
of the outer trap, Machine Check's 184 also where the error met is a System Check, and the CPUSTAT bits of both: the
model's choice (decision D68 says no more than trap halt; log 15). -/
def trapEntry : Nat → Trap → State → State
  | 0, t, s => trapHalt t s
  | n + 1, t, s =>
    match enterTrap t s with
    | .ok _ s' => s'
    | .stop (.trap t2) s' =>
      let s2 := s'.setStat (s'.stat ||| t2.statBits s'.mode)
      if t.endsNesting t2 then trapHalt t s2
      else if s2.psdTrapEn then trapEntry n t2 s2 else trapHalt t2 s2
    | .stop (.hold _) s' => s'
    | .stop (.halted _) s' => s'
    | .stop (.stuck _) s' => s'

/-! ### Interrupt entry (R765 to R767) -/

/-- AcknowledgeClassF (R766). Without a reply of the environment the address is a free value (log 8). -/
def acknowledgeF (err : MemErr → Trap) (l : Level) (icb : Addr) (s : State) : Res Unit :=
  match s.ackReplies with
  | [] => physWrite err (icb + 20) .word ((Config.freeAddr s.freeCount).setWidth 32)
      ({ s with freeCount := s.freeCount + 1 }.send (.acknowledge l))
  | a :: rest => physWrite err (icb + 20) .word (a.setWidth 32)
      ({ s with ackReplies := rest }.send (.acknowledge l))

/-- Block without Activate, bits 48-49 = 01 of the new PSD, leaves the level inactive; a Class F channel is
told (R765, R766). -/
def State.activateBy (s : State) (l : Level) (n2 : Word) : State :=
  if !bitAt n2 16 && bitAt n2 17 then
    (if s.isClassF l then s.send (.deactivate l) else s)
  else s.setActive l true

/-- The device whose service level is `l`, the first where there are more (R720). -/
def State.deviceOf (s : State) (l : Level) : Option DevEntry :=
  s.dev.toList.findSome? fun e => e.filter fun d => d.level == l

/-- A trap with the device that it involves, if any. -/
def Trap.of (d : Option DevEntry) (t : Trap) : Trap :=
  match d with
  | none => t
  | some d => .ofDevice d t

/-- The trap of a memory error in the entry of level `l`: Machine Check, CPUSTAT bit 1 for interrupt processing
and bit 0 for the Class F (R42, R745, R771), with the device of the level (R790). -/
def intErr (s : State) (l : Level) (e : MemErr) : Trap :=
  match switchErr true e with
  | .machineCheck b => Trap.of (s.deviceOf l) (.machineCheck (b ||| if s.isClassF l then statBit 0 else 0))
  | t => t

/-- TakeInterruptPSD (R765), its errors not yet taken. -/
def enterIntPsd (l : Level) (s : State) : Res Unit :=
  let err := intErr s l
  (physRead err (ivlOf l) .word s).bind fun v s =>
    let icb := addrOf v
    let s := s.setRequest l false
    (if s.isClassF l then acknowledgeF err l icb s else .ok () s).bind fun _ s =>
      (physWrite err icb .word s.storedPsd1 s).bind fun _ s1 =>
        (physWrite err (icb + 4) .word s.storedPsd2 s1).bind fun _ s =>
          (physRead err (icb + 8) .word s).bind fun n1 s =>
            (physRead err (icb + 12) .word s).bind fun n2 s =>
              (loadPsd err n1 n2 true (s.activateBy l n2)).bind fun _ s =>
                .ok () ({ s with noIntNext := true }.leaveWait)

/-- TakeInterruptPSW (R767), its errors not yet taken. The word after the saved PSW is at its real address plus 4 in
24 bits, the width of PhysRead's address, the model's choice (R9; log 23). -/
def enterIntPsw (l : Level) (s : State) : Res Unit :=
  (physRead operandErr (ivlOf l) .word s).bind fun v s =>
    let a : Addr := (bits v 13 17 ++ (0 : BitVec 2)).setWidth 24
    (physWrite operandErr a .word s.storedPsw ((s.setRequest l false).setActive l true)).bind fun _ s =>
      (physRead operandErr (a + 4) .word s).bind fun w s =>
        .ok () ({ s.withPsw w with noIntNext := true }.leaveWait)

/-- A trap halt with the status bits of its trap (R771, R790). -/
def haltFor (t : Trap) (s : State) : State := trapHalt t (s.setStat (s.stat ||| t.statBits s.mode))

/-- TakeInterruptPSW (R767); a memory error in it is a trap halt (R790). -/
def takeIntPsw (l : Level) (s : State) : State :=
  match enterIntPsw l s with
  | .ok _ s' => s'
  | .stop (.trap t) s' => haltFor (Trap.of (s.deviceOf l) t) s'
  | .stop (.hold _) s' => s'
  | .stop (.halted _) s' => s'
  | .stop (.stuck _) s' => s'

/-! ### Raising a trap (R730, R780, R790) -/

/-- PSW mode: the trap is scheduled on its level if the three requirements are met, else dropped (R780); power
fail requests level 0 (R738). -/
def raisePsw (t : Trap) (s : State) : State :=
  match t.pswLevel with
  | some l =>
    if s.enabledEff.getLsbD l.toNat && !s.active.getLsbD l.toNat &&
        decide ((s.active ||| s.request).toNat % 2 ^ l.toNat = 0) then
      takeIntPsw l (s.setRequest l true)
    else s
  | none => if t = .powerFail then s.setRequest 0 true else s

/-- `raise t`: the status bits of R771, then trap entry or trap halt (PSD mode) or scheduling (PSW mode). -/
def raise (t : Trap) (s : State) : State :=
  let s := s.setStat (s.stat ||| t.statBits s.mode)
  match s.mode with
  | .psd => if t.arms && !s.psdTrapEn then trapHalt t s else trapEntry 3 t s
  | .psw => raisePsw t s

/-! ### Several traps at once (R733) -/

/-- The asynchronous trap that an event is, if it is one: Power Fail, a SelBUS failure (R738, R745). -/
def State.asyncTrap (s : State) (e : EnvEvent) : Option Trap :=
  match e with
  | .powerFail => some .powerFail
  | .busFailure b d => some (Trap.of (d.bind s.devAt) (.machineCheck b))
  | _ => none

/-- An asynchronous trap. While the CPU is halted none is taken (R612), but PSW mode stores a power fail as a
request (R738). A SelBUS failure in PSW mode is a trap halt (R790), with the vector of Machine Check in the pc,
the model's choice (log 17). -/
def raiseAsync (t : Trap) (s : State) : State :=
  match s.mode with
  | .psd => if s.run = .halt then s else raise t s
  | .psw => if t = .powerFail then raise t s else if s.run = .halt then s else haltFor t s

/-- The asynchronous traps of the coming boundary of higher priority than `t`, the highest first (R733). -/
def State.urgent (s : State) (t : Trap) : List Trap :=
  match s.inputs with
  | [] => []
  | es :: _ =>
    let ts := (es.filterMap s.asyncTrap).filter fun a => decide (a.priority < t.priority)
    (ts.filter fun a => decide (a = .powerFail)) ++ ts.filter fun a => decide (a ≠ .powerFail)

/-- The same taken out of the coming boundary. -/
def State.dropUrgent (s : State) (t : Trap) : State :=
  { s with inputs := match s.inputs with
      | [] => []
      | es :: rest => (es.filter fun e => match s.asyncTrap e with
        | none => true
        | some a => decide (t.priority ≤ a.priority)) :: rest }

/-- The trap `t` of an instruction or of an interrupt entry, after the asynchronous ones that coincide with it and
have a higher relative priority (R733). -/
def raiseSync (t : Trap) (s : State) : State :=
  match s.urgent t with
  | [] => raise t s
  | ts =>
    let p := ts.foldl (fun s a => raiseAsync a s) (s.dropUrgent t)
    if p.run = .halt then p else raise t p

/-- Taking the interrupt of level `l` (R762). -/
def takeInterrupt (l : Level) (s : State) : State :=
  match s.mode with
  | .psw => takeIntPsw l s
  | .psd =>
    match enterIntPsd l s with
    | .ok _ s' => s'
    | .stop (.trap t) s' => raiseSync t s'
    | .stop (.hold _) s' => s'
    | .stop (.halted _) s' => s'
    | .stop (.stuck _) s' => s'

/-! ### The frame of an instruction (R35, R751, R756) -/

/-- The pc after an instruction of this length (R35, decision D13). -/
def advance (len : Len) (pc : HAddr) : HAddr :=
  match len with
  | .half => pc + 1
  | .word => pc + 2

/-- The state an instruction runs in: the pc already addresses the next instruction (R751). -/
def State.start (s : State) (len : Len) : State := { s with pc := advance len s.pc, lastBix := false }

/-- HIST after an instruction (R751): a halfword instruction at NR = 1. -/
def histOf (len : Len) (pc : HAddr) : Bool :=
  match len with
  | .half => pc.getLsbD 0
  | .word => false

/-- HIST and BLOCK_COUNT after an instruction that did not trap (R751, R756, decision D70). `s` is the state
before it, `s'` after it. -/
def finish (len : Len) (s s' : State) : State :=
  { s' with
    hist := histOf len s.pc,
    blockCount := if s'.blocked then (if s.blocked then s'.blockCount + 1 else 0) else 0 }

/-- Is the Block Mode Timeout due (R756; not once the instruction has halted the CPU, log 12). -/
def State.timeoutDue (s : State) : Bool :=
  decide (s.mode = .psd) && s.blocked && s.bmtEn && decide (128 < s.blockCount) && decide (s.run ≠ .halt)

/-- An instruction that has halted the CPU: the displays show it (R844). -/
def State.haltedFrom (s' s : State) : State := if s'.run = .halt ∧ s.run ≠ .halt then s'.showHalt else s'

/-- The end of an instruction that did not trap (R756). -/
def complete (len : Len) (s s' : State) : State :=
  if (finish len s s').timeoutDue then raiseSync .blockTimeout { finish len s s' with blockCount := 0 }
  else (finish len s s').haltedFrom s

/-- An instruction of length `len` whose effect is `op`. -/
def perform (len : Len) (op : State → Res Unit) (s : State) : Host.Outcome State Fault Refusal :=
  match op (s.start len) with
  | .ok _ s' => .next (complete len s s')
  | .stop (.trap t) s' => .next (raiseSync t (s'.setHist (histOf len s.pc)))
  | .stop (.hold none) s' => .next (complete len s (s'.setPc s.pc))
  | .stop (.hold (some t)) s' => .next (raiseSync t ((s'.setPc s.pc).setHist (histOf len s.pc)))
  | .stop (.halted t) s' => .next (haltFor t (s'.setHist (histOf len s.pc)))
  | .stop (.stuck f) _ => .fault f

/-! ### Checks (R601) -/

/-- A PSD mode instruction in PSW mode is undefined (R601, R742). -/
def requirePsd (s : State) : Res Unit :=
  match s.mode with
  | .psw => trapNow (.undefined false) s
  | .psd => .ok () s

/-- A privileged instruction needs PSD1 bit 0 (R601, R743). -/
def requirePriv (s : State) : Res Unit := if s.priv then .ok () s else trapNow .privilege s

/-- The Arithmetic Exception is enabled (R749). -/
def State.arithEnabled (s : State) : Bool :=
  match s.mode with
  | .psd => s.aexp
  | .psw => s.enabledEff.getLsbD 0x29

/-- `if CC1 = 1 and the Arithmetic Exception is enabled: raise ArithmeticException` (R749). -/
def arithCheck (s : State) : Res Unit :=
  if s.cc.cc1 && s.arithEnabled then trapNow .arithmetic s else .ok () s

end Sys2Proof.Machine
end

