-- ==== Sys2Proof/Machine/Flags.lean ====
section
/-!
DEFINITION. Every condition code computation of spec/ (00_scope.md R9; 40 R222; 44 R371, R378; 45 R401; 47
R471; 48 R491; 49 R530, R536; 53 R681) and the exact arithmetic they report on.
-/

namespace Sys2Proof.Machine

/-- The condition codes from their four bits (R9: `CC <- (a, b, c, d)`). -/
def mkCC (a b c d : Bool) : CC := ⟨a, b, c, d⟩

/-- `CC <- (c1, CCarith(v))` on a signed value (R9, R37). -/
def ccArith {n : Nat} (c1 : Bool) (v : BitVec n) : CC :=
  ⟨c1, decide (0 < v.toInt), decide (v.toInt < 0), decide (v = 0)⟩

/-- `CCcmp(a, b)`: the true signed values compared (R371). -/
def ccCmp {n : Nat} (a b : BitVec n) : CC :=
  ⟨false, decide (b.toInt < a.toInt), decide (a.toInt < b.toInt), decide (a = b)⟩

/-- `CCmask(v)` (R378). -/
def ccZero {n : Nat} (v : BitVec n) : CC := ⟨false, false, false, decide (v = 0)⟩

/-- ANMB and ANMH: the byte or halfword result as an unsigned number (R401 c). -/
def ccUnsigned {n : Nat} (v : BitVec n) : CC := ⟨false, decide (v ≠ 0), false, decide (v = 0)⟩

/-- `CCshift(b)` (R471). -/
def ccShift (b : Bool) (c : CC) : CC := ⟨b, c.cc1, c.cc2, c.cc3⟩

/-- Does an integer fall outside the signed `n`-bit numbers (R491). -/
def overflows (n : Nat) (s : Int) : Bool := decide (s < -(2 ^ (n - 1))) || decide (2 ^ (n - 1) ≤ s)

/-- AddCC: the wrapped sum and its overflow (R491). -/
def addOv {n : Nat} (a b : BitVec n) : BitVec n × Bool := (a + b, overflows n (a.toInt + b.toInt))

/-- SubCC: the wrapped difference and its overflow (R491). -/
def subOv {n : Nat} (a b : BitVec n) : BitVec n × Bool := (a - b, overflows n (a.toInt - b.toInt))

/-- `0 - v`, which overflows for the most negative number alone (R235, R287). -/
def negOv {n : Nat} (v : BitVec n) : BitVec n × Bool := (-v, decide (v = BitVec.intMin n))

/-- The signed 64-bit product (R530). -/
def mulFull (a b : Word) : Dword := BitVec.ofInt 64 (a.toInt * b.toInt)

/-- The 64-by-32 division of R536, truncating toward zero: remainder and quotient, or none when the quotient
does not fit 32 bits or the divisor is zero (decision D41). -/
def divFull (d : Dword) (v : Word) : Option (Word × Word) :=
  if v = 0 then none
  else if overflows 32 (d.toInt.tdiv v.toInt) then none
  else some (BitVec.ofInt 32 (d.toInt.tmod v.toInt), BitVec.ofInt 32 (d.toInt.tdiv v.toInt))

/-- The condition codes of a Class F answer (R681). -/
def ccAnswer : ChanAnswer → CC
  | .activated => ⟨false, false, false, false⟩
  | .busy => ⟨false, false, false, true⟩
  | .inoperable => ⟨false, false, true, false⟩
  | .subBusy => ⟨false, false, true, true⟩
  | .statusStored => ⟨false, true, false, false⟩
  | .unsupported => ⟨false, true, false, true⟩
  | .queued => ⟨true, false, false, false⟩

/-- The answers that accept the instruction, 0000 and 1000 (R681). -/
def ChanAnswer.accepts : ChanAnswer → Bool
  | .activated => true
  | .queued => true
  | .busy => false
  | .inoperable => false
  | .subBusy => false
  | .statusStored => false
  | .unsupported => false

/-- The condition of BCT and BCF (R343, R344). -/
def condTrue (d : BitVec 3) (c : CC) : Bool :=
  match d.toNat with
  | 1 => c.cc1
  | 2 => c.cc2
  | 3 => c.cc3
  | 4 => c.cc4
  | 5 => c.cc2 || c.cc4
  | 6 => c.cc3 || c.cc4
  | 7 => c.cc1 || c.cc2 || c.cc3 || c.cc4
  | _ => false

/-- The number of the condition code combination that BFT looks up in R4 (R345). -/
def CC.index (c : CC) : Nat := c.toBits.toNat

end Sys2Proof.Machine
end

