-- ==== Sys2Proof/Machine/Operands.lean ====
section
/-!
DEFINITION. Every operand form of spec/20_memory.md and spec/30_encoding.md: effective address generation
(R97 to R103), the width that the final F and C select (R95, R221), and the reads and writes of byte,
halfword, word, doubleword and file operands (R90, R110, R111, R243).
-/

namespace Sys2Proof.Machine

/-- An effective address record: F and the 24-bit byte address (R100). -/
structure EA where
  f : Bool
  addr : Addr
  deriving DecidableEq, Repr

/-- The contents of the index register, zero where there is none (R98). -/
def State.index (s : State) (x : BitVec 2) : Word := if x = 0 then 0 else s.reg (x.setWidth 3)

/-- `Combine` (R101, R102, decisions D15, D76). `a` is bits 12-31 of the word, F first. -/
def State.combine (s : State) (m : MemRef) : EA :=
  if s.ext then ⟨bitAt m.a 0, (bits m.a 1 19).setWidth 24 + bits (s.index m.x) 8 24⟩
  else
    let sum := m.a + bits (s.index m.x) 12 20
    ⟨bitAt sum 0, (bits sum 1 19).setWidth 24⟩

/-- An address with its low two bits cleared (R100). -/
def wordAlign (a : Addr) : Addr := bits a 0 22 ++ (0 : BitVec 2)

/-- An address with its low three bits cleared (R91, decision D14). -/
def dwordAlign (a : Addr) : Addr := bits a 0 21 ++ (0 : BitVec 3)

/-- The end of a chain: the address, and the last indirect word where there was one (R100). -/
structure Target where
  ea : EA
  last : Option Word
  /-- The X field of the last word of the chain (R238). -/
  x : BitVec 2
  deriving DecidableEq, Repr

/-- More steps than there are words of 24-bit address space: a chain that takes them with no other agent's store
between repeats a word, the registers and memory being the same, and so never ends (U1). -/
def chainFuel : Nat := 4194304 + 2

/-- EA(IW) (R100): index, and while the indirect bit is set read the next word. -/
def chase (k : Access) : Nat → MemRef → Option Word → State → Res Target
  | 0, _, _, s => .stop (.stuck .endlessIndirect) s
  | n + 1, m, last, s =>
    if m.i then
      (memRead k (wordAlign (s.combine m).addr) .word s).bind fun w s => chase k n (memRefOf w) (some w) s
    else .ok ⟨s.combine m, last, m.x⟩ s

/-- The effective address of an operand (R100). -/
def resolve (k : Access) (m : MemRef) (s : State) : Res Target := chase k (chainFuel + s.between.length) m none s

/-- The data types of R95. -/
inductive Width where
  | byte
  | half
  | word
  | dword
  deriving DecidableEq, Repr

/-- The data type that F and C select (R95). -/
def EA.width (e : EA) : Width :=
  if e.f then .byte
  else if bitAt e.addr 23 then .half
  else if bitAt e.addr 22 then .dword
  else .word

/-- The byte address of an operand of a width (R91, R95). -/
def operandAddr (w : Width) (a : Addr) : Addr :=
  match w with
  | .byte => a
  | .half => bits a 0 23 ++ (0 : BitVec 1)
  | .word => wordAlign a
  | .dword => dwordAlign a

/-- A doubleword read, least significant word first (R110). -/
def readDword (k : Access) (a : Addr) (s : State) : Res Dword :=
  (memRead k (a + 4) .word s).bind fun lo s =>
    (memRead k a .word s).bind fun hi s => .ok (hi ++ lo) s

/-- A doubleword written, least significant word first (R253). -/
def writeDword (a : Addr) (v : Dword) (s : State) : Res Unit :=
  (memWrite (a + 4) .word (bits v 32 32) s).bind fun _ s => memWrite a .word (bits v 0 32) s

/-- A memory operand as read: its data type decides which field it has. -/
inductive Operand where
  | byte (v : Byte)
  | half (v : Half)
  | word (v : Word)
  | dword (v : Dword)
  deriving DecidableEq, Repr

/-- The operand of a given width at an address (R95, R110). -/
def readAt (w : Width) (a : Addr) (s : State) : Res Operand :=
  match w with
  | .byte => (memRead .operand (operandAddr .byte a) .byte s).bind fun v s => .ok (.byte (bits v 24 8)) s
  | .half => (memRead .operand (operandAddr .half a) .half s).bind fun v s => .ok (.half (bits v 16 16)) s
  | .word => (memRead .operand (operandAddr .word a) .word s).bind fun v s => .ok (.word v) s
  | .dword => (readDword .operand (operandAddr .dword a) s).bind fun v s => .ok (.dword v) s

/-- The operand stored at an address (R95, R111). -/
def writeAt (a : Addr) (o : Operand) (s : State) : Res Unit :=
  match o with
  | .byte v => memWrite (operandAddr .byte a) .byte (v.setWidth 32) s
  | .half v => memWrite (operandAddr .half a) .half (v.setWidth 32) s
  | .word v => memWrite (operandAddr .word a) .word v s
  | .dword v => writeDword (operandAddr .dword a) v s

/-- The operand that a memory reference names, its width chosen by the final F and C (R95, R221). -/
def operand (m : MemRef) (s : State) : Res Operand :=
  (resolve .operand m s).bind fun t s => readAt t.ea.width t.ea.addr s

/-- The same for MPMx and DVMx: a doubleword is read as its first word (decision D43). -/
def operandNoDword (m : MemRef) (s : State) : Res Word :=
  (resolve .operand m s).bind fun t s =>
    match t.ea.width with
    | .byte => (memRead .operand (operandAddr .byte t.ea.addr) .byte s).bind fun v s => .ok v s
    | .half => (memRead .operand (operandAddr .half t.ea.addr) .half s).bind fun v s =>
        .ok ((bits v 16 16).signExtend 32) s
    | .word => memRead .operand (operandAddr .word t.ea.addr) .word s
    | .dword => memRead .operand (operandAddr .dword t.ea.addr) .word s

/-- The operand extended as the loads and the arithmetic extend it: a byte with zeros, a halfword by its sign
(R225 to R228, R490). -/
def Operand.ext : Operand → Word
  | .byte v => v.setWidth 32
  | .half v => v.signExtend 32
  | .word v => v
  | .dword v => bits v 0 32

/-- The memory reference of a floating-point instruction: its bit 12 taken as 0 (R560, decision D46). -/
def floatRef (m : MemRef) : MemRef := { m with a := (0 : BitVec 1) ++ bits m.a 1 19 }

/-- A floating-point operand: C bit 30 of the final address the width, bit 31 ignored (R560, decision D46). -/
def floatOperand (m : MemRef) (s : State) : Res Operand :=
  (resolve .operand (floatRef m) s).bind fun t s =>
    readAt (if bitAt t.ea.addr 22 then .dword else .word) t.ea.addr s

/-- The next word address in the 8-word block: bits 27-29 count modulo 8 (R243, decision D27). -/
def fileNext (a : Addr) : Addr := bits a 0 19 ++ (bits a 19 3 + 1) ++ bits a 22 2

/-- The branch address of an effective address, bits 13-30 (R103, R341). -/
def branchPc (e : EA) : HAddr := bits e.addr 5 18

end Sys2Proof.Machine
end

