-- ==== Sys2Proof/Machine/LoadStore.lean ====
section
/-!
DEFINITION. The load, store and zero instructions (spec/40_load_store.md).
-/

namespace Sys2Proof.Machine

/-- A word result in `r` with its condition codes (R222). -/
def putWord (r : Reg) (v : Word) (s : State) : State := (s.setReg r v).setCC (ccArith false v)

/-- A doubleword result in the pair of `r` with its condition codes (R222, R223). -/
def putDword (r : Reg) (v : Dword) (s : State) : State := (s.setPair r v).setCC (ccArith false v)

/-- A word result with its own CC1, and the exception CC1 reports (R235, R491). -/
def putWordOv (r : Reg) (x : Word × Bool) (s : State) : Res Unit :=
  arithCheck ((s.setReg r x.1).setCC (ccArith x.2 x.1))

/-- A doubleword result with its own CC1, and the exception CC1 reports (R236, R491). -/
def putDwordOv (r : Reg) (x : Dword × Bool) (s : State) : Res Unit :=
  arithCheck ((s.setPair r x.1).setCC (ccArith x.2 x.1))

/-- A word masked on both halves of a doubleword (R232). -/
def maskPair (w : Word) : Dword := w ++ w

/-- Loads (R225 to R228): the form is the final F and C's (R221). -/
def load (r : Reg) (m : MemRef) (s : State) : Res Unit :=
  (operand m s).bind fun o s =>
    match o with
    | .dword v => .ok () (putDword r v s)
    | o => .ok () (putWord r o.ext s)

/-- Masked loads (R229 to R232, decision D24: the mask is read before anything is written). -/
def loadMasked (r : Reg) (m : MemRef) (s : State) : Res Unit :=
  (operand m s).bind fun o s =>
    match o with
    | .dword v => .ok () (putDword r (v &&& maskPair s.mask) s)
    | o => .ok () (putWord r (o.ext &&& s.mask) s)

/-- Negative loads (R233 to R236); only the word and doubleword forms can overflow. -/
def loadNegative (r : Reg) (m : MemRef) (s : State) : Res Unit :=
  (operand m s).bind fun o s =>
    match o with
    | .dword v => putDwordOv r (negOv v) s
    | o => putWordOv r (negOv o.ext) s

/-- The register field of an effective address in PSD or extended mode (R238, R240). -/
def addrField (ext : Bool) (e : EA) : Addr :=
  if ext then e.addr else (0 : BitVec 4) ++ BitVec.ofBool e.f ++ bits e.addr 5 19

/-- LEA's result (R238, decision D25); `w` is the last word of the chain. -/
def leaValue (s : State) (w : Word) (t : Target) : Word :=
  match s.mode, s.ext with
  | .psw, false => w + s.index t.x
  | _, _ => bits w 0 2 ++ (0 : BitVec 6) ++ addrField s.ext t.ea

/-- The registers from `r` on take the words of a list (R243). -/
def setFile (r : Reg) : List Word → State → State
  | [], s => s
  | v :: vs, s => setFile (r + 1) vs (s.setReg r v)

/-- `n` words of a file from `a` (R243). -/
def readFile : Nat → Addr → State → Res (List Word)
  | 0, _, s => .ok [] s
  | n + 1, a, s =>
    (memRead .operand a .word s).bind fun v s => (readFile n (fileNext a) s).bind fun vs s => .ok (v :: vs) s

/-- `n` registers from `r` stored in a file at `a` (R262). -/
def writeFile : Nat → Reg → Addr → State → Res Unit
  | 0, _, _, s => .ok () s
  | n + 1, r, a, s =>
    (memWrite a .word (s.reg r) s).bind fun _ s => writeFile n (r + 1) (fileNext a) s

/-- The registers from `r` to R7 (R243). -/
def fileCount (r : Reg) : Nat := 8 - r.toNat

/-- What a store of a width sends to memory: the low byte or halfword of the register, the word, the pair
(R250 to R253). -/
def storeValue (w : Width) (v : Dword) : Operand :=
  match w with
  | .byte => .byte (bits v 24 8)
  | .half => .half (bits v 16 16)
  | .word => .word (bits v 0 32)
  | .dword => .dword v

/-- A store of the pair `v` (its first word for all but a doubleword): the form is the final F and C's
(R221). -/
def storeForm (m : MemRef) (v : Dword) (s : State) : Res Unit :=
  (resolve .operand m s).bind fun t s => writeAt t.ea.addr (storeValue t.ea.width v) s

/-- The stop of `x` with the MAP registers of `s` put back: ExtTranslate works on a temporary (R244). -/
def asideMap {α : Type} (s : State) (x : Res α) : Res α :=
  match x with
  | .ok a s' => .ok a s'
  | .stop e s' => .stop e { s' with mapRegs := s.mapRegs }

/-- ExtTranslate (R244): the real address of the logical address `la` in the map of the PSD at `psdPa`. -/
def extTranslate (psdPa : Addr) (la : BitVec 20) (s : State) : Res Addr :=
  (physRead operandErr (psdPa + 4) .word s).bind fun psd2 s =>
    if !mapped psd2 then trapNow .mapFault s
    else
      (asideMap s (loadMap (switchErr false) psd2 s)).bind fun n t =>
        let s' := { t with mapRegs := s.mapRegs }
        let e := t.mapReg (bits la 0 5)
        if n ≤ (bits la 0 5).toNat then trapNow (.systemCheck (statBit 16)) s'
        else if !bitAt e 0 then trapNow .mapFault s'
        else .ok (bits e 7 9 ++ bits la 5 15) s'

/-- The checks and the address of LEM, SEM and CEMA (R241). -/
def extAddr (rs rz : Reg) (s : State) : Res Addr :=
  (requirePsd s).bind fun _ s => (requirePriv s).bind fun _ s =>
    extTranslate (addrOf (s.reg rs)) (bits (s.reg rz) 12 20) s

/-- The data type of R_Z: F in bit 7, C in bits 30-31 (R241). -/
def extWidth (z : Word) : Width := (EA.mk (bitAt z 7) (addrOf z)).width

/-- LEM's result: CC1 unchanged (R241). -/
def lemPut (rd : Reg) (o : Operand) (s : State) : State :=
  match o with
  | .dword v => (s.setPair rd v).setCC (ccArith s.cc.cc1 v)
  | o => (s.setReg rd o.ext).setCC (ccArith s.cc.cc1 o.ext)

/-- A real operand read, doubleword least significant word first (R241; the operand stops, R842). -/
def physReadAt (w : Width) (a : Addr) (s : State) : Res Operand :=
  match w with
  | .byte => (operandRead a .byte s).bind fun v s => .ok (.byte (bits v 24 8)) s
  | .half => (operandRead (operandAddr .half a) .half s).bind fun v s => .ok (.half (bits v 16 16)) s
  | .word => (operandRead (operandAddr .word a) .word s).bind fun v s => .ok (.word v) s
  | .dword =>
    (operandRead (operandAddr .dword a + 4) .word s).bind fun lo s =>
      (operandRead (operandAddr .dword a) .word s).bind fun hi s => .ok (.dword (hi ++ lo)) s

/-- A real operand stored (R263; the operand stops, R842). -/
def physWriteAt (a : Addr) (o : Operand) (s : State) : Res Unit :=
  match o with
  | .byte v => operandWrite a .byte (v.setWidth 32) s
  | .half v => operandWrite (operandAddr .half a) .half (v.setWidth 32) s
  | .word v => operandWrite (operandAddr .word a) .word v s
  | .dword v =>
    (operandWrite (operandAddr .dword a + 4) .word (bits v 32 32) s).bind fun _ s =>
      operandWrite (operandAddr .dword a) .word (bits v 0 32) s

/-- LB (R225): load byte. -/
def opLb (r : Reg) (m : MemRef) (s : State) : Res Unit :=
  load r m s

/-- LB, a word instruction (R225). -/
def execLb (r : Reg) (m : MemRef) (s : State) : Host.Outcome State Fault Refusal :=
  perform .word (opLb r m) s

/-- LH (R226): load halfword. -/
def opLh (r : Reg) (m : MemRef) (s : State) : Res Unit :=
  load r m s

/-- LH, a word instruction (R226). -/
def execLh (r : Reg) (m : MemRef) (s : State) : Host.Outcome State Fault Refusal :=
  perform .word (opLh r m) s

/-- LW (R227): load word. -/
def opLw (r : Reg) (m : MemRef) (s : State) : Res Unit :=
  load r m s

/-- LW, a word instruction (R227). -/
def execLw (r : Reg) (m : MemRef) (s : State) : Host.Outcome State Fault Refusal :=
  perform .word (opLw r m) s

/-- LD (R228): load doubleword. -/
def opLd (r : Reg) (m : MemRef) (s : State) : Res Unit :=
  load r m s

/-- LD, a word instruction (R228). -/
def execLd (r : Reg) (m : MemRef) (s : State) : Host.Outcome State Fault Refusal :=
  perform .word (opLd r m) s

/-- LMB (R229): load masked byte. -/
def opLmb (r : Reg) (m : MemRef) (s : State) : Res Unit :=
  loadMasked r m s

/-- LMB, a word instruction (R229). -/
def execLmb (r : Reg) (m : MemRef) (s : State) : Host.Outcome State Fault Refusal :=
  perform .word (opLmb r m) s

/-- LMH (R230): load masked halfword. -/
def opLmh (r : Reg) (m : MemRef) (s : State) : Res Unit :=
  loadMasked r m s

/-- LMH, a word instruction (R230). -/
def execLmh (r : Reg) (m : MemRef) (s : State) : Host.Outcome State Fault Refusal :=
  perform .word (opLmh r m) s

/-- LMW (R231): load masked word. -/
def opLmw (r : Reg) (m : MemRef) (s : State) : Res Unit :=
  loadMasked r m s

/-- LMW, a word instruction (R231). -/
def execLmw (r : Reg) (m : MemRef) (s : State) : Host.Outcome State Fault Refusal :=
  perform .word (opLmw r m) s

/-- LMD (R232): load masked doubleword. -/
def opLmd (r : Reg) (m : MemRef) (s : State) : Res Unit :=
  loadMasked r m s

/-- LMD, a word instruction (R232). -/
def execLmd (r : Reg) (m : MemRef) (s : State) : Host.Outcome State Fault Refusal :=
  perform .word (opLmd r m) s

/-- LNB (R233): load negative byte. -/
def opLnb (r : Reg) (m : MemRef) (s : State) : Res Unit :=
  loadNegative r m s

/-- LNB, a word instruction (R233). -/
def execLnb (r : Reg) (m : MemRef) (s : State) : Host.Outcome State Fault Refusal :=
  perform .word (opLnb r m) s

/-- LNH (R234): load negative halfword. -/
def opLnh (r : Reg) (m : MemRef) (s : State) : Res Unit :=
  loadNegative r m s

/-- LNH, a word instruction (R234). -/
def execLnh (r : Reg) (m : MemRef) (s : State) : Host.Outcome State Fault Refusal :=
  perform .word (opLnh r m) s

/-- LNW (R235): load negative word. -/
def opLnw (r : Reg) (m : MemRef) (s : State) : Res Unit :=
  loadNegative r m s

/-- LNW, a word instruction (R235). -/
def execLnw (r : Reg) (m : MemRef) (s : State) : Host.Outcome State Fault Refusal :=
  perform .word (opLnw r m) s

/-- LND (R236): load negative doubleword. -/
def opLnd (r : Reg) (m : MemRef) (s : State) : Res Unit :=
  loadNegative r m s

/-- LND, a word instruction (R236). -/
def execLnd (r : Reg) (m : MemRef) (s : State) : Host.Outcome State Fault Refusal :=
  perform .word (opLnd r m) s

/-- LI (R237): load immediate. -/
def opLi (r : Reg) (v : Half) (s : State) : Res Unit :=
  .ok () (putWord r (v.signExtend 32) s)

/-- LI, a word instruction (R237). -/
def execLi (r : Reg) (v : Half) (s : State) : Host.Outcome State Fault Refusal :=
  perform .word (opLi r v) s

/-- LEA (R238): load effective address; the conditions codes are unchanged and the operand is not read. -/
def opLea (r : Reg) (m : MemRef) (s : State) : Res Unit :=
  (resolve .operand m s).bind fun t s =>
    .ok () (s.setReg r (leaValue s (t.last.getD (memWord 0x34 r m)) t))

/-- LEA, a word instruction (R238). -/
def execLea (r : Reg) (m : MemRef) (s : State) : Host.Outcome State Fault Refusal :=
  perform .word (opLea r m) s

/-- LEAR (R239): load effective address real (decision D23); privileged, PSD mode only. -/
def opLear (r : Reg) (m : MemRef) (s : State) : Res Unit :=
  (requirePsd s).bind fun _ s => (requirePriv s).bind fun _ s =>
    (resolve .operand m s).bind fun t s =>
      match s.translate .operand false t.ea.addr with
      | .error e => trapNow e s
      | .ok pa => .ok () (s.setReg r ((0 : BitVec 7) ++ BitVec.ofBool t.ea.f ++ pa))

/-- LEAR, a word instruction (R239). -/
def execLear (r : Reg) (m : MemRef) (s : State) : Host.Outcome State Fault Refusal :=
  perform .word (opLear r m) s

/-- LA (R240): load address; PSD mode only. -/
def opLa (r : Reg) (m : MemRef) (s : State) : Res Unit :=
  (requirePsd s).bind fun _ s => (resolve .operand m s).bind fun t s =>
    .ok () (s.setReg r ((0 : BitVec 8) ++ addrField s.ext t.ea))

/-- LA, a word instruction (R240). -/
def execLa (r : Reg) (m : MemRef) (s : State) : Host.Outcome State Fault Refusal :=
  perform .word (opLa r m) s

/-- LEM (R241): load through an external map; privileged, PSD mode only. -/
def opLem (rd : Reg) (rs : Reg) (rz : Reg) (s : State) : Res Unit :=
  let w := extWidth (s.reg rz)
  (extAddr rs rz s).bind fun pa s => (physReadAt w pa s).bind fun o s => .ok () (lemPut rd o s)

/-- LEM, a word instruction (R241). -/
def execLem (rd : Reg) (rs : Reg) (rz : Reg) (s : State) : Host.Outcome State Fault Refusal :=
  perform .word (opLem rd rs rz) s

/-- CEMA (R242): convert an external map address; privileged, PSD mode only. -/
def opCema (rd : Reg) (rs : Reg) (rz : Reg) (s : State) : Res Unit :=
  let f := bitAt (s.reg rz) 7
  (extAddr rs rz s).bind fun pa s => .ok () (s.setReg rd ((0 : BitVec 7) ++ BitVec.ofBool f ++ pa))

/-- CEMA, a word instruction (R242). -/
def execCema (rd : Reg) (rs : Reg) (rz : Reg) (s : State) : Host.Outcome State Fault Refusal :=
  perform .word (opCema rd rs rz) s

/-- LF (R243): load file, R to R7; every word is read before a register is written. -/
def opLf (r : Reg) (m : MemRef) (s : State) : Res Unit :=
  (resolve .operand m s).bind fun t s =>
    (readFile (fileCount r) (wordAlign t.ea.addr) s).bind fun vs s => .ok () (setFile r vs s)

/-- LF, a word instruction (R243). -/
def execLf (r : Reg) (m : MemRef) (s : State) : Host.Outcome State Fault Refusal :=
  perform .word (opLf r m) s

/-- STB (R250): store byte. -/
def opStb (r : Reg) (m : MemRef) (s : State) : Res Unit :=
  storeForm m (s.pair r) s

/-- STB, a word instruction (R250). -/
def execStb (r : Reg) (m : MemRef) (s : State) : Host.Outcome State Fault Refusal :=
  perform .word (opStb r m) s

/-- STH (R251): store halfword. -/
def opSth (r : Reg) (m : MemRef) (s : State) : Res Unit :=
  storeForm m (s.pair r) s

/-- STH, a word instruction (R251). -/
def execSth (r : Reg) (m : MemRef) (s : State) : Host.Outcome State Fault Refusal :=
  perform .word (opSth r m) s

/-- STW (R252): store word. -/
def opStw (r : Reg) (m : MemRef) (s : State) : Res Unit :=
  storeForm m (s.pair r) s

/-- STW, a word instruction (R252). -/
def execStw (r : Reg) (m : MemRef) (s : State) : Host.Outcome State Fault Refusal :=
  perform .word (opStw r m) s

/-- STD (R253): store doubleword. -/
def opStd (r : Reg) (m : MemRef) (s : State) : Res Unit :=
  storeForm m (s.pair r) s

/-- STD, a word instruction (R253). -/
def execStd (r : Reg) (m : MemRef) (s : State) : Host.Outcome State Fault Refusal :=
  perform .word (opStd r m) s

/-- STMB (R254): store masked byte. -/
def opStmb (r : Reg) (m : MemRef) (s : State) : Res Unit :=
  storeForm m (s.pair r &&& maskPair s.mask) s

/-- STMB, a word instruction (R254). -/
def execStmb (r : Reg) (m : MemRef) (s : State) : Host.Outcome State Fault Refusal :=
  perform .word (opStmb r m) s

/-- STMH (R255): store masked halfword. -/
def opStmh (r : Reg) (m : MemRef) (s : State) : Res Unit :=
  storeForm m (s.pair r &&& maskPair s.mask) s

/-- STMH, a word instruction (R255). -/
def execStmh (r : Reg) (m : MemRef) (s : State) : Host.Outcome State Fault Refusal :=
  perform .word (opStmh r m) s

/-- STMW (R256): store masked word. -/
def opStmw (r : Reg) (m : MemRef) (s : State) : Res Unit :=
  storeForm m (s.pair r &&& maskPair s.mask) s

/-- STMW, a word instruction (R256). -/
def execStmw (r : Reg) (m : MemRef) (s : State) : Host.Outcome State Fault Refusal :=
  perform .word (opStmw r m) s

/-- STMD (R257): store masked doubleword. -/
def opStmd (r : Reg) (m : MemRef) (s : State) : Res Unit :=
  storeForm m (s.pair r &&& maskPair s.mask) s

/-- STMD, a word instruction (R257). -/
def execStmd (r : Reg) (m : MemRef) (s : State) : Host.Outcome State Fault Refusal :=
  perform .word (opStmd r m) s

/-- STF (R262): store file, R to R7. -/
def opStf (r : Reg) (m : MemRef) (s : State) : Res Unit :=
  (resolve .operand m s).bind fun t s =>
    writeFile (fileCount r) r (wordAlign t.ea.addr) s

/-- STF, a word instruction (R262). -/
def execStf (r : Reg) (m : MemRef) (s : State) : Host.Outcome State Fault Refusal :=
  perform .word (opStf r m) s

/-- SEM (R263): store through an external map; privileged, PSD mode only. -/
def opSem (rd : Reg) (rs : Reg) (rz : Reg) (s : State) : Res Unit :=
  let w := extWidth (s.reg rz)
  (extAddr rs rz s).bind fun pa s => physWriteAt pa (storeValue w (s.pair rd)) s

/-- SEM, a word instruction (R263). -/
def execSem (rd : Reg) (rs : Reg) (rz : Reg) (s : State) : Host.Outcome State Fault Refusal :=
  perform .word (opSem rd rs rz) s

/-- ZMB (R265): zero memory byte. -/
def opZmb (m : MemRef) (s : State) : Res Unit :=
  storeForm m 0 s

/-- ZMB, a word instruction (R265). -/
def execZmb (m : MemRef) (s : State) : Host.Outcome State Fault Refusal :=
  perform .word (opZmb m) s

/-- ZMH (R266): zero memory halfword. -/
def opZmh (m : MemRef) (s : State) : Res Unit :=
  storeForm m 0 s

/-- ZMH, a word instruction (R266). -/
def execZmh (m : MemRef) (s : State) : Host.Outcome State Fault Refusal :=
  perform .word (opZmh m) s

/-- ZMW (R267): zero memory word. -/
def opZmw (m : MemRef) (s : State) : Res Unit :=
  storeForm m 0 s

/-- ZMW, a word instruction (R267). -/
def execZmw (m : MemRef) (s : State) : Host.Outcome State Fault Refusal :=
  perform .word (opZmw m) s

/-- ZMD (R268): zero memory doubleword. -/
def opZmd (m : MemRef) (s : State) : Res Unit :=
  storeForm m 0 s

/-- ZMD, a word instruction (R268). -/
def execZmd (m : MemRef) (s : State) : Host.Outcome State Fault Refusal :=
  perform .word (opZmd m) s

/-- ZR (R269): zero register. -/
def opZr (r : Reg) (s : State) : Res Unit :=
  .ok () (putWord r 0 s)

/-- ZR, a halfword instruction (R269). -/
def execZr (r : Reg) (s : State) : Host.Outcome State Fault Refusal :=
  perform .half (opZr r) s

end Sys2Proof.Machine
end

