-- ==== Sys2Proof/Machine/AddSub.lean ====
section
/-!
DEFINITION. The fixed-point add, subtract and sign control instructions (spec/48_fixed_point_addsub.md).
-/

namespace Sys2Proof.Machine

/-- Add memory to register (R492 to R495). -/
def addMemory (r : Reg) (m : MemRef) (s : State) : Res Unit :=
  (operand m s).bind fun o s =>
    match o with
    | .dword v => putDwordOv r (addOv (s.pair r) v) s
    | o => putWordOv r (addOv (s.reg r) o.ext) s

/-- Subtract memory from register (R504 to R507). -/
def subMemory (r : Reg) (m : MemRef) (s : State) : Res Unit :=
  (operand m s).bind fun o s =>
    match o with
    | .dword v => putDwordOv r (subOv (s.pair r) v) s
    | o => putWordOv r (subOv (s.reg r) o.ext) s

/-- A masked sum or difference: CC1 is that of the unmasked result, CC2 to CC4 of the stored one (R497,
R509). -/
def putMaskedOv (r : Reg) (x : Word × Bool) (mask : Word) (s : State) : Res Unit :=
  putWordOv r (x.1 &&& mask, x.2) s

/-- CC after ARMB and ARMH: CC4 is the zero test, CC1 to CC3 are undefined and take a free value (R500, R501;
log 6). -/
def undefinedCC (zero : Bool) (s : State) : State :=
  let f := Config.freeBits s.freeCount
  { s with cc := ⟨f.getLsbD 2, f.getLsbD 1, f.getLsbD 0, zero⟩, freeCount := s.freeCount + 1 }

/-- Add register to memory (R499 to R503): a read and a separate write of the same location. ARMB's CC4 is
that of the whole 32-bit sum, ARMH's that of the stored halfword. -/
def addToMemory (r : Reg) (m : MemRef) (s : State) : Res Unit :=
  (resolve .operand m s).bind fun t s =>
    (readAt t.ea.width t.ea.addr s).bind fun o s =>
      match o with
      | .byte v =>
        let sum := s.reg r + v.setWidth 32
        (writeAt t.ea.addr (.byte (bits sum 24 8)) s).bind fun _ s =>
          .ok () (undefinedCC (decide (sum = 0)) s)
      | .half v =>
        let sum := bits (s.reg r) 16 16 + v
        (writeAt t.ea.addr (.half sum) s).bind fun _ s => .ok () (undefinedCC (decide (sum = 0)) s)
      | .word v =>
        let x := addOv (s.reg r) v
        (writeAt t.ea.addr (.word x.1) s).bind fun _ s => arithCheck (s.setCC (ccArith x.2 x.1))
      | .dword v =>
        let x := addOv (s.pair r) v
        (writeAt t.ea.addr (.dword x.1) s).bind fun _ s => arithCheck (s.setCC (ccArith x.2 x.1))

/-- ADMB (R492): add memory byte. -/
def opAdmb (r : Reg) (m : MemRef) (s : State) : Res Unit :=
  addMemory r m s

/-- ADMB, a word instruction (R492). -/
def execAdmb (r : Reg) (m : MemRef) (s : State) : Host.Outcome State Fault Refusal :=
  perform .word (opAdmb r m) s

/-- ADMH (R493): add memory halfword. -/
def opAdmh (r : Reg) (m : MemRef) (s : State) : Res Unit :=
  addMemory r m s

/-- ADMH, a word instruction (R493). -/
def execAdmh (r : Reg) (m : MemRef) (s : State) : Host.Outcome State Fault Refusal :=
  perform .word (opAdmh r m) s

/-- ADMW (R494): add memory word. -/
def opAdmw (r : Reg) (m : MemRef) (s : State) : Res Unit :=
  addMemory r m s

/-- ADMW, a word instruction (R494). -/
def execAdmw (r : Reg) (m : MemRef) (s : State) : Host.Outcome State Fault Refusal :=
  perform .word (opAdmw r m) s

/-- ADMD (R495): add memory doubleword. -/
def opAdmd (r : Reg) (m : MemRef) (s : State) : Res Unit :=
  addMemory r m s

/-- ADMD, a word instruction (R495). -/
def execAdmd (r : Reg) (m : MemRef) (s : State) : Host.Outcome State Fault Refusal :=
  perform .word (opAdmd r m) s

/-- ADR (R496): add register to register. -/
def opAdr (rd : Reg) (rs : Reg) (s : State) : Res Unit :=
  putWordOv rd (addOv (s.reg rd) (s.reg rs)) s

/-- ADR, a halfword instruction (R496). -/
def execAdr (rd : Reg) (rs : Reg) (s : State) : Host.Outcome State Fault Refusal :=
  perform .half (opAdr rd rs) s

/-- ADRM (R497): add register to register masked. -/
def opAdrm (rd : Reg) (rs : Reg) (s : State) : Res Unit :=
  putMaskedOv rd (addOv (s.reg rd) (s.reg rs)) s.mask s

/-- ADRM, a halfword instruction (R497). -/
def execAdrm (rd : Reg) (rs : Reg) (s : State) : Host.Outcome State Fault Refusal :=
  perform .half (opAdrm rd rs) s

/-- ADI (R498): add immediate. -/
def opAdi (r : Reg) (v : Half) (s : State) : Res Unit :=
  putWordOv r (addOv (s.reg r) (v.signExtend 32)) s

/-- ADI, a word instruction (R498). -/
def execAdi (r : Reg) (v : Half) (s : State) : Host.Outcome State Fault Refusal :=
  perform .word (opAdi r v) s

/-- ARMB (R500): add register to memory byte. -/
def opArmb (r : Reg) (m : MemRef) (s : State) : Res Unit :=
  addToMemory r m s

/-- ARMB, a word instruction (R500). -/
def execArmb (r : Reg) (m : MemRef) (s : State) : Host.Outcome State Fault Refusal :=
  perform .word (opArmb r m) s

/-- ARMH (R501): add register to memory halfword. -/
def opArmh (r : Reg) (m : MemRef) (s : State) : Res Unit :=
  addToMemory r m s

/-- ARMH, a word instruction (R501). -/
def execArmh (r : Reg) (m : MemRef) (s : State) : Host.Outcome State Fault Refusal :=
  perform .word (opArmh r m) s

/-- ARMW (R502): add register to memory word. -/
def opArmw (r : Reg) (m : MemRef) (s : State) : Res Unit :=
  addToMemory r m s

/-- ARMW, a word instruction (R502). -/
def execArmw (r : Reg) (m : MemRef) (s : State) : Host.Outcome State Fault Refusal :=
  perform .word (opArmw r m) s

/-- ARMD (R503): add register to memory doubleword. -/
def opArmd (r : Reg) (m : MemRef) (s : State) : Res Unit :=
  addToMemory r m s

/-- ARMD, a word instruction (R503). -/
def execArmd (r : Reg) (m : MemRef) (s : State) : Host.Outcome State Fault Refusal :=
  perform .word (opArmd r m) s

/-- SUMB (R504): subtract memory byte. -/
def opSumb (r : Reg) (m : MemRef) (s : State) : Res Unit :=
  subMemory r m s

/-- SUMB, a word instruction (R504). -/
def execSumb (r : Reg) (m : MemRef) (s : State) : Host.Outcome State Fault Refusal :=
  perform .word (opSumb r m) s

/-- SUMH (R505): subtract memory halfword. -/
def opSumh (r : Reg) (m : MemRef) (s : State) : Res Unit :=
  subMemory r m s

/-- SUMH, a word instruction (R505). -/
def execSumh (r : Reg) (m : MemRef) (s : State) : Host.Outcome State Fault Refusal :=
  perform .word (opSumh r m) s

/-- SUMW (R506): subtract memory word. -/
def opSumw (r : Reg) (m : MemRef) (s : State) : Res Unit :=
  subMemory r m s

/-- SUMW, a word instruction (R506). -/
def execSumw (r : Reg) (m : MemRef) (s : State) : Host.Outcome State Fault Refusal :=
  perform .word (opSumw r m) s

/-- SUMD (R507): subtract memory doubleword. -/
def opSumd (r : Reg) (m : MemRef) (s : State) : Res Unit :=
  subMemory r m s

/-- SUMD, a word instruction (R507). -/
def execSumd (r : Reg) (m : MemRef) (s : State) : Host.Outcome State Fault Refusal :=
  perform .word (opSumd r m) s

/-- SUR (R508): subtract register from register. -/
def opSur (rd : Reg) (rs : Reg) (s : State) : Res Unit :=
  putWordOv rd (subOv (s.reg rd) (s.reg rs)) s

/-- SUR, a halfword instruction (R508). -/
def execSur (rd : Reg) (rs : Reg) (s : State) : Host.Outcome State Fault Refusal :=
  perform .half (opSur rd rs) s

/-- SURM (R509): subtract register from register masked. -/
def opSurm (rd : Reg) (rs : Reg) (s : State) : Res Unit :=
  putMaskedOv rd (subOv (s.reg rd) (s.reg rs)) s.mask s

/-- SURM, a halfword instruction (R509). -/
def execSurm (rd : Reg) (rs : Reg) (s : State) : Host.Outcome State Fault Refusal :=
  perform .half (opSurm rd rs) s

/-- SUI (R510): subtract immediate. -/
def opSui (r : Reg) (v : Half) (s : State) : Res Unit :=
  putWordOv r (subOv (s.reg r) (v.signExtend 32)) s

/-- SUI, a word instruction (R510). -/
def execSui (r : Reg) (v : Half) (s : State) : Host.Outcome State Fault Refusal :=
  perform .word (opSui r v) s

/-- ES (R511): the sign of R+1 extended through R. -/
def opEs (r : Reg) (s : State) : Res Unit :=
  .ok () (putWord r (if bitAt (s.reg (r + 1)) 0 then -1 else 0) s)

/-- ES, a halfword instruction (R511). -/
def execEs (r : Reg) (s : State) : Host.Outcome State Fault Refusal :=
  perform .half (opEs r) s

/-- RND (R512): R rounded by the sign of R+1. -/
def opRnd (r : Reg) (s : State) : Res Unit :=
  if bitAt (s.reg (r + 1)) 0 then putWordOv r (addOv (s.reg r) 1) s
  else .ok () (putWord r (s.reg r) s)

/-- RND, a halfword instruction (R512). -/
def execRnd (r : Reg) (s : State) : Host.Outcome State Fault Refusal :=
  perform .half (opRnd r) s

end Sys2Proof.Machine
end

