-- ==== Sys2Proof/Machine/BitManipulation.lean ====
section
/-!
DEFINITION. The bit manipulation instructions (spec/47_bit_manipulation.md).
-/

namespace Sys2Proof.Machine

/-- The manual bit number of a register bit: 8 * byte + bit (R470). -/
def regBit (b : BitVec 3) (y : BitVec 2) : Nat := 8 * y.toNat + b.toNat

/-- A bit of a register taken into CC1 and replaced (R471, R474, R476). -/
def putRegBit (b : BitVec 3) (r : Reg) (y : BitVec 2) (v : Bool) (s : State) : State :=
  (s.setReg r (putBitAt (s.reg r) (regBit b y) v)).setCC (ccShift (bitAt (s.reg r) (regBit b y)) s.cc)

/-- The byte address of a bit-in-memory instruction, whatever F is (R470, decision D40). -/
def bitAddress (m : MemRef) (s : State) : Res Addr := (resolve .operand m s).bind fun t s => .ok t.ea.addr s

/-- Read, modify and write of one byte, one step with respect to every other agent (R131, R473, R475). -/
def putMemBit (b : BitVec 3) (m : MemRef) (v : Bool) (s : State) : Res Unit :=
  (bitAddress m s).bind fun a s =>
    (memRead .operand a .byte s).bind fun w s =>
      (locked (memWrite a .byte (putBitAt w (24 + b.toNat) v)) s).bind fun _ s =>
        .ok () (s.setCC (ccShift (bitAt w (24 + b.toNat)) s.cc))

/-- The word with a one in manual bit `p` (R477, R478). -/
def oneAt (p : Nat) : Word := BitVec.twoPow 32 (31 - p)

/-- One added at manual bit `p`, as signed 32-bit numbers: the bit has weight 2^(31-p), which for bit 0 is
not -2^31 but 2^31 (R477, R478). -/
def addBit (w : Word) (p : Nat) : Word × Bool := (w + oneAt p, overflows 32 (w.toInt + 2 ^ (31 - p)))

/-- SBM (R473): set bit in memory. -/
def opSbm (b : BitVec 3) (m : MemRef) (s : State) : Res Unit :=
  putMemBit b m true s

/-- SBM, a word instruction (R473). -/
def execSbm (b : BitVec 3) (m : MemRef) (s : State) : Host.Outcome State Fault Refusal :=
  perform .word (opSbm b m) s

/-- ZBM (R475): zero bit in memory. -/
def opZbm (b : BitVec 3) (m : MemRef) (s : State) : Res Unit :=
  putMemBit b m false s

/-- ZBM, a word instruction (R475). -/
def execZbm (b : BitVec 3) (m : MemRef) (s : State) : Host.Outcome State Fault Refusal :=
  perform .word (opZbm b m) s

/-- ABM (R477): add bit in memory, on the whole word; locked (R131). -/
def opAbm (b : BitVec 3) (m : MemRef) (s : State) : Res Unit :=
  (bitAddress m s).bind fun a s =>
    (memRead .operand (wordAlign a) .word s).bind fun w s =>
      let x := addBit w (8 * (bits a 22 2).toNat + b.toNat)
      (locked (memWrite (wordAlign a) .word x.1) s).bind fun _ s => arithCheck (s.setCC (ccArith x.2 x.1))

/-- ABM, a word instruction (R477). -/
def execAbm (b : BitVec 3) (m : MemRef) (s : State) : Host.Outcome State Fault Refusal :=
  perform .word (opAbm b m) s

/-- TBM (R479): test bit in memory. -/
def opTbm (b : BitVec 3) (m : MemRef) (s : State) : Res Unit :=
  (bitAddress m s).bind fun a s =>
    (memRead .operand a .byte s).bind fun w s => .ok () (s.setCC (ccShift (bitAt w (24 + b.toNat)) s.cc))

/-- TBM, a word instruction (R479). -/
def execTbm (b : BitVec 3) (m : MemRef) (s : State) : Host.Outcome State Fault Refusal :=
  perform .word (opTbm b m) s

/-- SBR (R474): set bit in register. -/
def opSbr (b : BitVec 3) (r : Reg) (y : BitVec 2) (s : State) : Res Unit :=
  .ok () (putRegBit b r y true s)

/-- SBR, a halfword instruction (R474). -/
def execSbr (b : BitVec 3) (r : Reg) (y : BitVec 2) (s : State) : Host.Outcome State Fault Refusal :=
  perform .half (opSbr b r y) s

/-- ZBR (R476): zero bit in register. -/
def opZbr (b : BitVec 3) (r : Reg) (y : BitVec 2) (s : State) : Res Unit :=
  .ok () (putRegBit b r y false s)

/-- ZBR, a halfword instruction (R476). -/
def execZbr (b : BitVec 3) (r : Reg) (y : BitVec 2) (s : State) : Host.Outcome State Fault Refusal :=
  perform .half (opZbr b r y) s

/-- ABR (R478): add bit in register. -/
def opAbr (b : BitVec 3) (r : Reg) (y : BitVec 2) (s : State) : Res Unit :=
  putWordOv r (addBit (s.reg r) (regBit b y)) s

/-- ABR, a halfword instruction (R478). -/
def execAbr (b : BitVec 3) (r : Reg) (y : BitVec 2) (s : State) : Host.Outcome State Fault Refusal :=
  perform .half (opAbr b r y) s

/-- TBR (R480): test bit in register. -/
def opTbr (b : BitVec 3) (r : Reg) (y : BitVec 2) (s : State) : Res Unit :=
  .ok () (s.setCC (ccShift (bitAt (s.reg r) (regBit b y)) s.cc))

/-- TBR, a halfword instruction (R480). -/
def execTbr (b : BitVec 3) (r : Reg) (y : BitVec 2) (s : State) : Host.Outcome State Fault Refusal :=
  perform .half (opTbr b r y) s

end Sys2Proof.Machine
end

