-- ==== Sys2Proof/Machine/Branch.lean ====
section
/-!
DEFINITION. The branch instructions (spec/43_branch.md).
-/

namespace Sys2Proof.Machine

/-- The transfer of a branch whose address is known: bits 13-30, and bits 1-4 from the last indirect word
(R341). -/
def branchTo (t : Target) (s : State) : State :=
  match t.last with
  | none => s.setPc (branchPc t.ea)
  | some w => (s.setPc (branchPc t.ea)).setCC (ccOf w)

/-- `Branch(IW)` (R341). -/
def branch (m : MemRef) (s : State) : Res Unit :=
  (resolve .branch m s).bind fun t s => .ok () (branchTo t s)

/-- A conditional branch: one not taken follows no chain (R341, decision D37). -/
def branchIf (c : Bool) (m : MemRef) (s : State) : Res Unit := if c then branch m s else .ok () s

/-- BIx: the register is incremented whether or not the branch is taken, and keeps its old value if the
address cannot be formed (R347 to R351, decision D31). Only a BIx that completes holds off a panel halt (R845): one that
traps while it forms its address does not, and the halt may fall before the sequential successor of a dropped trap, the
model's choice (logs 14, 48). -/
def branchIncrement (r : Reg) (step : Word) (i : Bool) (a : BitVec 20) (s : State) : Res Unit :=
  let s1 := s.setReg r (s.reg r + step)
  match branchIf (decide (s.reg r + step ≠ 0)) ⟨0, i, a⟩ s1 with
  | .ok _ s2 => .ok () { s2 with lastBix := true }
  | .stop e s2 => .stop e { s2 with regs := s.regs }

/-- The bit of R4 that BFT tests (R345). -/
def functionBit (mask : Word) (c : CC) : Bool := bitAt mask (16 + c.index)

/-- BU (R342): branch unconditionally. -/
def opBu (m : MemRef) (s : State) : Res Unit :=
  branch m s

/-- BU, a word instruction (R342). -/
def execBu (m : MemRef) (s : State) : Host.Outcome State Fault Refusal :=
  perform .word (opBu m) s

/-- BCT (R343): branch on condition true (conflict C24). -/
def opBct (d : BitVec 3) (m : MemRef) (s : State) : Res Unit :=
  branchIf (condTrue d s.cc) m s

/-- BCT, a word instruction (R343). -/
def execBct (d : BitVec 3) (m : MemRef) (s : State) : Host.Outcome State Fault Refusal :=
  perform .word (opBct d m) s

/-- BCF (R344): branch on condition false. -/
def opBcf (d : BitVec 3) (m : MemRef) (s : State) : Res Unit :=
  branchIf (!condTrue d s.cc) m s

/-- BCF, a word instruction (R344). -/
def execBcf (d : BitVec 3) (m : MemRef) (s : State) : Host.Outcome State Fault Refusal :=
  perform .word (opBcf d m) s

/-- BFT (R345): branch on function true. -/
def opBft (m : MemRef) (s : State) : Res Unit :=
  branchIf (functionBit s.mask s.cc) m s

/-- BFT, a word instruction (R345). -/
def execBft (m : MemRef) (s : State) : Host.Outcome State Fault Refusal :=
  perform .word (opBft m) s

/-- BL (R346): branch and link: PSD1 with the advanced pc to R0 (log 10 for HIST). -/
def opBl (m : MemRef) (s : State) : Res Unit :=
  (branch m s).bind fun _ s' => .ok () (s'.setReg 0 s.storedPsd1)

/-- BL, a word instruction (R346). -/
def execBl (m : MemRef) (s : State) : Host.Outcome State Fault Refusal :=
  perform .word (opBl m) s

/-- BIB (R347): branch after incrementing by 1. -/
def opBib (r : Reg) (i : Bool) (a : BitVec 20) (s : State) : Res Unit :=
  branchIncrement r 1 i a s

/-- BIB, a word instruction (R347). -/
def execBib (r : Reg) (i : Bool) (a : BitVec 20) (s : State) : Host.Outcome State Fault Refusal :=
  perform .word (opBib r i a) s

/-- BIH (R348): branch after incrementing by 2. -/
def opBih (r : Reg) (i : Bool) (a : BitVec 20) (s : State) : Res Unit :=
  branchIncrement r 2 i a s

/-- BIH, a word instruction (R348). -/
def execBih (r : Reg) (i : Bool) (a : BitVec 20) (s : State) : Host.Outcome State Fault Refusal :=
  perform .word (opBih r i a) s

/-- BIW (R349): branch after incrementing by 4. -/
def opBiw (r : Reg) (i : Bool) (a : BitVec 20) (s : State) : Res Unit :=
  branchIncrement r 4 i a s

/-- BIW, a word instruction (R349). -/
def execBiw (r : Reg) (i : Bool) (a : BitVec 20) (s : State) : Host.Outcome State Fault Refusal :=
  perform .word (opBiw r i a) s

/-- BID (R350): branch after incrementing by 8. -/
def opBid (r : Reg) (i : Bool) (a : BitVec 20) (s : State) : Res Unit :=
  branchIncrement r 8 i a s

/-- BID, a word instruction (R350). -/
def execBid (r : Reg) (i : Bool) (a : BitVec 20) (s : State) : Host.Outcome State Fault Refusal :=
  perform .word (opBid r i a) s

end Sys2Proof.Machine
end

