-- ==== Sys2Proof/Machine/Compare.lean ====
section
/-!
DEFINITION. The compare instructions (spec/44_compare.md); none changes a register or memory.
-/

namespace Sys2Proof.Machine

/-- The pair of `r`, or `r` alone, beside an operand of the width of `o`: compared as R371 says. -/
def compareOp (r : Reg) (o : Operand) (s : State) : CC :=
  match o with
  | .dword v => ccCmp (s.pair r) v
  | o => ccCmp (s.reg r) o.ext

/-- Compare arithmetic with memory (R372 to R375). -/
def compare (r : Reg) (m : MemRef) (s : State) : Res Unit :=
  (operand m s).bind fun o s => .ok () (s.setCC (compareOp r o s))

/-- The masked exclusive OR tested for zero (R379 to R382). -/
def maskedOp (r : Reg) (o : Operand) (s : State) : CC :=
  match o with
  | .dword v => ccZero ((s.pair r ^^^ v) &&& (s.mask ++ s.mask : Dword))
  | o => ccZero ((s.reg r ^^^ o.ext) &&& s.mask)

/-- Compare masked with memory (R379 to R382). -/
def compareMasked (r : Reg) (m : MemRef) (s : State) : Res Unit :=
  (operand m s).bind fun o s => .ok () (s.setCC (maskedOp r o s))

/-- CAMB (R372): compare arithmetic with memory byte. -/
def opCamb (r : Reg) (m : MemRef) (s : State) : Res Unit :=
  compare r m s

/-- CAMB, a word instruction (R372). -/
def execCamb (r : Reg) (m : MemRef) (s : State) : Host.Outcome State Fault Refusal :=
  perform .word (opCamb r m) s

/-- CAMH (R373): compare arithmetic with memory halfword. -/
def opCamh (r : Reg) (m : MemRef) (s : State) : Res Unit :=
  compare r m s

/-- CAMH, a word instruction (R373). -/
def execCamh (r : Reg) (m : MemRef) (s : State) : Host.Outcome State Fault Refusal :=
  perform .word (opCamh r m) s

/-- CAMW (R374): compare arithmetic with memory word. -/
def opCamw (r : Reg) (m : MemRef) (s : State) : Res Unit :=
  compare r m s

/-- CAMW, a word instruction (R374). -/
def execCamw (r : Reg) (m : MemRef) (s : State) : Host.Outcome State Fault Refusal :=
  perform .word (opCamw r m) s

/-- CAMD (R375): compare arithmetic with memory doubleword. -/
def opCamd (r : Reg) (m : MemRef) (s : State) : Res Unit :=
  compare r m s

/-- CAMD, a word instruction (R375). -/
def execCamd (r : Reg) (m : MemRef) (s : State) : Host.Outcome State Fault Refusal :=
  perform .word (opCamd r m) s

/-- CAR (R376): compare arithmetic with register. -/
def opCar (rd : Reg) (rs : Reg) (s : State) : Res Unit :=
  .ok () (s.setCC (ccCmp (s.reg rd) (s.reg rs)))

/-- CAR, a halfword instruction (R376). -/
def execCar (rd : Reg) (rs : Reg) (s : State) : Host.Outcome State Fault Refusal :=
  perform .half (opCar rd rs) s

/-- CI (R377): compare immediate. -/
def opCi (r : Reg) (v : Half) (s : State) : Res Unit :=
  .ok () (s.setCC (ccCmp (s.reg r) (v.signExtend 32)))

/-- CI, a word instruction (R377). -/
def execCi (r : Reg) (v : Half) (s : State) : Host.Outcome State Fault Refusal :=
  perform .word (opCi r v) s

/-- CMMB (R379): compare masked with memory byte. -/
def opCmmb (r : Reg) (m : MemRef) (s : State) : Res Unit :=
  compareMasked r m s

/-- CMMB, a word instruction (R379). -/
def execCmmb (r : Reg) (m : MemRef) (s : State) : Host.Outcome State Fault Refusal :=
  perform .word (opCmmb r m) s

/-- CMMH (R380): compare masked with memory halfword. -/
def opCmmh (r : Reg) (m : MemRef) (s : State) : Res Unit :=
  compareMasked r m s

/-- CMMH, a word instruction (R380). -/
def execCmmh (r : Reg) (m : MemRef) (s : State) : Host.Outcome State Fault Refusal :=
  perform .word (opCmmh r m) s

/-- CMMW (R381): compare masked with memory word. -/
def opCmmw (r : Reg) (m : MemRef) (s : State) : Res Unit :=
  compareMasked r m s

/-- CMMW, a word instruction (R381). -/
def execCmmw (r : Reg) (m : MemRef) (s : State) : Host.Outcome State Fault Refusal :=
  perform .word (opCmmw r m) s

/-- CMMD (R382): compare masked with memory doubleword. -/
def opCmmd (r : Reg) (m : MemRef) (s : State) : Res Unit :=
  compareMasked r m s

/-- CMMD, a word instruction (R382). -/
def execCmmd (r : Reg) (m : MemRef) (s : State) : Host.Outcome State Fault Refusal :=
  perform .word (opCmmd r m) s

/-- CMR (R383): compare masked with register. -/
def opCmr (rd : Reg) (rs : Reg) (s : State) : Res Unit :=
  .ok () (s.setCC (ccZero ((s.reg rd ^^^ s.reg rs) &&& s.mask)))

/-- CMR, a halfword instruction (R383). -/
def execCmr (rd : Reg) (rs : Reg) (s : State) : Host.Outcome State Fault Refusal :=
  perform .half (opCmr rd rs) s

end Sys2Proof.Machine
end

