-- ==== Sys2Proof/Machine/Control.lean ====
section
/-!
DEFINITION. The control instructions (spec/51_control.md) but for Execute, which is Execute.lean.
-/

namespace Sys2Proof.Machine

/-- The numerically smallest active level is deactivated, a Class F channel told so (R603, decision D48). -/
def resetHighest (s : State) : State :=
  match lowest s.active with
  | none => s
  | some l => if s.isClassF l then (s.setActive l false).send (.deactivate l) else s.setActive l false

/-- In PSW mode a memory error of the BRI sequence is a trap halt (R790; log 16). -/
def briHalt {α : Type} (x : Res α) : Res α :=
  match x with
  | .stop (.trap t) s => .stop (.halted t) s
  | y => y

/-- The new status that BRI loads when coded indirect (R603). -/
def briLoad (a : Addr) (s : State) : Res Unit :=
  match s.mode with
  | .psw => (briHalt (memRead .operand (wordAlign a) .word s)).bind fun w s => .ok () (s.withPsw w)
  | .psd =>
    (memRead .operand (dwordAlign a) .word s).bind fun w1 s =>
      (memRead .operand (dwordAlign a + 4) .word s).bind fun w2 s => loadPsd (switchErr false) w1 w2 true s

/-- LPSD and LPSDCM (R604, R605). -/
def loadStatus (m : MemRef) (mapload : Bool) (s : State) : Res Unit :=
  (requirePsd s).bind fun _ s => (requirePriv s).bind fun _ s => (resolve .operand m s).bind fun t s =>
    (memRead .operand (dwordAlign t.ea.addr) .word s).bind fun w1 s =>
      (memRead .operand (dwordAlign t.ea.addr + 4) .word s).bind fun w2 s =>
        loadPsd (switchErr false) w1 w2 mapload s

/-- The hardware jumper that allows PSD mode (R617, R742 e). -/
def requireJumper (s : State) : Res Unit :=
  match s.cfg.modeJumper with
  | .psd => .ok () s
  | .psw => trapNow (.undefined false) s

/-- MODE written, with what leaving PSD mode switches off and the mirror CPUSTAT bit 31 (R617, decision
D51). -/
def State.setMode (s : State) (m : Mode) : State :=
  match m with
  | .psd => ({ s with mode := .psd }).setStatBit 31 true
  | .psw => (({ s with mode := .psw, mapActive := false }).setBlocked false).setStatBit 31 false

/-- SETCPU's effect (R617): bits 14, 15 and 19 of the register, and CPUSTAT bits 25, 26 and 31. -/
def setCpu (v : Word) (s : State) : State :=
  let t := (({ s with bmtEn := bitAt v 14, psdTrapEn := bitAt v 15 }).setMode
    (if bitAt v 19 then .psd else .psw)).setStatBit 25 (!bitAt v 15)
  t.setStatBit 26 t.blocked

/-- RDSTS's effect (R618, decision D52). -/
def readStatus (r : Reg) (s : State) : State :=
  let v := s.stat
  ((s.setReg r v).setCC ⟨false, decide (s.mode = .psd), s.blocked, decide (bits v 0 24 = 0)⟩).setStat
    ((0 : BitVec 24) ++ bits v 24 8)

/-- BRI (R603): branch and reset interrupt; privileged. -/
def opBri (m : MemRef) (s : State) : Res Unit :=
  (requirePriv s).bind fun _ s =>
    (if m.i then briLoad (s.combine m).addr s else .ok () (s.setPc (branchPc (s.combine m)))).bind fun _ s =>
      .ok () (resetHighest s)

/-- BRI, a word instruction (R603). -/
def execBri (m : MemRef) (s : State) : Host.Outcome State Fault Refusal :=
  perform .word (opBri m) s

/-- LPSD (R604): load program status doubleword; privileged, PSD mode only. -/
def opLpsd (m : MemRef) (s : State) : Res Unit :=
  loadStatus m false s

/-- LPSD, a word instruction (R604). -/
def execLpsd (m : MemRef) (s : State) : Host.Outcome State Fault Refusal :=
  perform .word (opLpsd m) s

/-- LPSDCM (R605): load program status doubleword and change map; privileged, PSD mode only. -/
def opLpsdcm (m : MemRef) (s : State) : Res Unit :=
  loadStatus m true s

/-- LPSDCM, a word instruction (R605). -/
def execLpsdcm (m : MemRef) (s : State) : Host.Outcome State Fault Refusal :=
  perform .word (opLpsdcm m) s

/-- LCS (R606): load control switches. -/
def opLcs (r : Reg) (s : State) : Res Unit :=
  .ok () (putWord r (s.csw ++ (0 : Half)) s)

/-- LCS, a halfword instruction (R606). -/
def execLcs (r : Reg) (s : State) : Host.Outcome State Fault Refusal :=
  perform .half (opLcs r) s

/-- HALT (R612): privileged; the pc addresses the next instruction. -/
def opHalt (s : State) : Res Unit :=
  (requirePriv s).bind fun _ s => .ok () (s.setRun .halt)

/-- HALT, a halfword instruction (R612). -/
def execHalt (s : State) : Host.Outcome State Fault Refusal :=
  perform .half opHalt s

/-- WAIT (R613): the pc stays at the WAIT (decision D54); a Block Mode Timeout when blocked. -/
def opWait (s : State) : Res Unit :=
  if decide (s.mode = .psd) && s.blocked then .stop (.hold (some .blockTimeout)) s
  else .stop (.hold none) (s.setRun .wait)

/-- WAIT, a halfword instruction (R613). -/
def execWait (s : State) : Host.Outcome State Fault Refusal :=
  perform .half opWait s

/-- NOP (R614): no operation. -/
def opNop (s : State) : Res Unit :=
  .ok () s

/-- NOP, a halfword instruction (R614). -/
def execNop (s : State) : Host.Outcome State Fault Refusal :=
  perform .half opNop s

/-- CALM (R615): a request on level 0x27; the flags are for the handler to read. -/
def opCalm (_flags : BitVec 10) (s : State) : Res Unit :=
  .ok () (s.setRequest 0x27 true)

/-- CALM, a halfword instruction (R615). -/
def execCalm (flags : BitVec 10) (s : State) : Host.Outcome State Fault Refusal :=
  perform .half (opCalm flags) s

/-- SVC (R616): supervisor call; PSD mode only. -/
def opSvc (ind : BitVec 4) (call : BitVec 12) (s : State) : Res Unit :=
  (requirePsd s).bind fun _ s => trapNow (.svc ind call) s

/-- SVC, a word instruction (R616). -/
def execSvc (ind : BitVec 4) (call : BitVec 12) (s : State) : Host.Outcome State Fault Refusal :=
  perform .word (opSvc ind call) s

/-- SETCPU (R617): set CPU mode; privileged, needs the jumper. -/
def opSetcpu (r : Reg) (s : State) : Res Unit :=
  (requirePriv s).bind fun _ s => (requireJumper s).bind fun _ s =>
    .ok () (setCpu (s.reg r) s)

/-- SETCPU, a halfword instruction (R617). -/
def execSetcpu (r : Reg) (s : State) : Host.Outcome State Fault Refusal :=
  perform .half (opSetcpu r) s

/-- RDSTS (R618): read CPU status word; privileged, PSD mode only, needs the jumper. -/
def opRdsts (r : Reg) (s : State) : Res Unit :=
  (requirePsd s).bind fun _ s => (requirePriv s).bind fun _ s => (requireJumper s).bind fun _ s =>
    .ok () (readStatus r s)

/-- RDSTS, a halfword instruction (R618). -/
def execRdsts (r : Reg) (s : State) : Host.Outcome State Fault Refusal :=
  perform .half (opRdsts r) s

/-- EAE (R619): enable arithmetic exception trap; privileged, PSD mode only. -/
def opEae (s : State) : Res Unit :=
  (requirePsd s).bind fun _ s => (requirePriv s).bind fun _ s => .ok () (s.setAexp true)

/-- EAE, a halfword instruction (R619). -/
def execEae (s : State) : Host.Outcome State Fault Refusal :=
  perform .half opEae s

/-- DAE (R620): disable arithmetic exception trap; privileged, PSD mode only. -/
def opDae (s : State) : Res Unit :=
  (requirePsd s).bind fun _ s => (requirePriv s).bind fun _ s => .ok () (s.setAexp false)

/-- DAE, a halfword instruction (R620). -/
def execDae (s : State) : Host.Outcome State Fault Refusal :=
  perform .half opDae s

end Sys2Proof.Machine
end

