-- ==== Sys2Proof/Machine/Float.lean ====
section
/-!
DEFINITION. The floating-point instructions (spec/50_floating_point.md).
-/

namespace Sys2Proof.Machine

/-- A decoded number: sign, unbiased exponent, fraction as an integer (R564). -/
structure FNum where
  neg : Bool
  exp : Int
  frac : Nat
  deriving DecidableEq, Repr

/-- The fraction's width, N - 8 (R561). -/
def fracBits (n : Nat) : Nat := n - 8

/-- The guard digits: one for words, none for doublewords (R565, decision D44). -/
def guards (n : Nat) : Nat := if n = 32 then 1 else 0

/-- FDecode (R564). -/
def fDecode {n : Nat} (w : BitVec n) : FNum :=
  if w = 0 then ⟨false, -64, 0⟩
  else
    let m := if bitAt w 0 then -w else w
    ⟨bitAt w 0, ((bits m 1 7).toNat : Int) - 64, (bits m 8 (n - 8)).toNat⟩

/-- FEncode (R564). -/
def fEncode (n : Nat) (x : FNum) : BitVec n :=
  let m := BitVec.ofNat n ((x.exp + 64).toNat * 2 ^ fracBits n + x.frac)
  if x.neg then -m else m

/-- The result of a floating-point operation: a pattern, or none, with the condition codes (R566, R567). -/
abbrev FResult (n : Nat) := Option (BitVec n) × CC

/-- The loops of FFinish to the right: while the top is at or above `2^t` (R566). -/
def shrink (t : Nat) : Nat → Int → Nat → Int × Nat
  | 0, e, g => (e, g)
  | f + 1, e, g => if 2 ^ t ≤ g then shrink t f (e + 1) (g / 16) else (e, g)

/-- The loops of FFinish to the left: while the top digit is zero (R566). -/
def grow (t : Nat) : Nat → Int → Nat → Int × Nat
  | 0, e, g => (e, g)
  | f + 1, e, g => if g < 2 ^ (t - 4) then grow t f (e - 1) (g * 16) else (e, g)

/-- Rounding on the guard digit (R565, R566). -/
def roundGuard (n : Nat) (e : Int) (g : Nat) : Int × Nat :=
  if guards n = 1 then
    if 2 ^ (fracBits n + 4) ≤ g + 8 then (e + 1, (g + 8) / 16 / 16) else (e, (g + 8) / 16)
  else (e, g)

/-- The range check and the pattern (R566, R567). -/
def fPack (n : Nat) (neg : Bool) (x : Int × Nat) : FResult n :=
  if 63 < x.1 then (none, ⟨true, !neg, neg, true⟩)
  else if x.1 < -64 then (none, ⟨true, !neg, neg, false⟩)
  else (some (fEncode n ⟨neg, x.1, x.2⟩), ⟨false, !neg, neg, false⟩)

/-- FFinish (R566). The fuel of the loops bounds their steps: a fraction has at most 16 digits beside a
quotient's or a sum's one more. -/
def fFinish (n : Nat) (neg : Bool) (e : Int) (g : Nat) : FResult n :=
  if g = 0 then (some 0, ⟨false, false, false, true⟩)
  else
    let t := fracBits n + 4 * guards n
    let a := shrink t 20 e g
    let b := grow t 20 a.1 a.2
    fPack n neg (roundGuard n b.1 b.2)

/-- The exponent a zero fraction takes in the comparison: it never wins (R570). -/
def expOr (a b : FNum) : Int := if a.frac = 0 then b.exp else a.exp

/-- A magnitude shifted right `d` digits, lost beyond the limit (R570, R571). -/
def alignFrac (limit : Nat) (g : Nat) (d : Int) : Nat :=
  if (limit : Int) < d then 0 else if 0 < d then g / 16 ^ d.toNat else g

/-- FAdd (R570, R571): on magnitudes, the shifted-out digits truncated (decision D44). -/
def fAdd {n : Nat} (a b : FNum) : FResult n :=
  let ea := expOr a b
  let eb := expOr b a
  let limit := if n = 32 then 6 else 13
  let ga := alignFrac limit (a.frac * 16 ^ guards n) (eb - ea)
  let gb := alignFrac limit (b.frac * 16 ^ guards n) (ea - eb)
  let t : Int := (if a.neg then -(ga : Int) else ga) + (if b.neg then -(gb : Int) else gb)
  fFinish n (decide (t < 0)) (max ea eb) t.natAbs

/-- The sign of the memory operand inverted; a zero stays zero (R572). -/
def FNum.negate (a : FNum) : FNum := { a with neg := !a.neg }

/-- FMul (R574): normalized before digits are dropped. -/
def fMul {n : Nat} (a b : FNum) : FResult n :=
  if a.frac = 0 ∨ b.frac = 0 then (some 0, ⟨false, false, false, true⟩)
  else
    let p := a.frac * b.frac
    let low := decide (p < 2 ^ (2 * fracBits n - 4))
    let q := if low then p * 16 else p
    let e := if low then a.exp + b.exp - 1 else a.exp + b.exp
    fFinish n (a.neg != b.neg) e (q / 2 ^ (fracBits n - 4 * guards n))

/-- FDiv (R576, R577). -/
def fDiv {n : Nat} (a b : FNum) : FResult n :=
  if b.frac = 0 then (none, ⟨true, false, false, false⟩)
  else if a.frac = 0 then (some 0, ⟨false, false, false, true⟩)
  else fFinish n (a.neg != b.neg) (a.exp - b.exp) (a.frac * 2 ^ (fracBits n + 4 * guards n) / b.frac)

/-- A word result: the register if there is one, the condition codes, the exception (R568). -/
def putFloat (r : Reg) (x : FResult 32) (s : State) : Res Unit :=
  match x.1 with
  | some v => arithCheck ((s.setReg r v).setCC x.2)
  | none => arithCheck (s.setCC x.2)

/-- A doubleword result: the pair if there is one, the condition codes, the exception (R568). -/
def putFloatPair (r : Reg) (x : FResult 64) (s : State) : Res Unit :=
  match x.1 with
  | some v => arithCheck ((s.setPair r v).setCC x.2)
  | none => arithCheck (s.setCC x.2)

/-- A floating-point instruction of the width that C bit 30 of the final address selects (R560). -/
def floatOp (r : Reg) (m : MemRef) (f : {n : Nat} → FNum → FNum → FResult n) (s : State) : Res Unit :=
  (floatOperand m s).bind fun o s =>
    match o with
    | .dword v => putFloatPair r (f (fDecode (s.pair r)) (fDecode v)) s
    | o => putFloat r (f (fDecode (s.reg r)) (fDecode o.ext)) s

/-- FSub (R572). -/
def fSub {n : Nat} (a b : FNum) : FResult n := fAdd a b.negate

/-- ADFW (R570): add floating-point word. -/
def opAdfw (r : Reg) (m : MemRef) (s : State) : Res Unit :=
  floatOp r m fAdd s

/-- ADFW, a word instruction (R570). -/
def execAdfw (r : Reg) (m : MemRef) (s : State) : Host.Outcome State Fault Refusal :=
  perform .word (opAdfw r m) s

/-- ADFD (R571): add floating-point doubleword. -/
def opAdfd (r : Reg) (m : MemRef) (s : State) : Res Unit :=
  floatOp r m fAdd s

/-- ADFD, a word instruction (R571). -/
def execAdfd (r : Reg) (m : MemRef) (s : State) : Host.Outcome State Fault Refusal :=
  perform .word (opAdfd r m) s

/-- SUFW (R572): subtract floating-point word. -/
def opSufw (r : Reg) (m : MemRef) (s : State) : Res Unit :=
  floatOp r m fSub s

/-- SUFW, a word instruction (R572). -/
def execSufw (r : Reg) (m : MemRef) (s : State) : Host.Outcome State Fault Refusal :=
  perform .word (opSufw r m) s

/-- SUFD (R573): subtract floating-point doubleword. -/
def opSufd (r : Reg) (m : MemRef) (s : State) : Res Unit :=
  floatOp r m fSub s

/-- SUFD, a word instruction (R573). -/
def execSufd (r : Reg) (m : MemRef) (s : State) : Host.Outcome State Fault Refusal :=
  perform .word (opSufd r m) s

/-- MPFW (R574): multiply floating-point word. -/
def opMpfw (r : Reg) (m : MemRef) (s : State) : Res Unit :=
  floatOp r m fMul s

/-- MPFW, a word instruction (R574). -/
def execMpfw (r : Reg) (m : MemRef) (s : State) : Host.Outcome State Fault Refusal :=
  perform .word (opMpfw r m) s

/-- MPFD (R575): multiply floating-point doubleword. -/
def opMpfd (r : Reg) (m : MemRef) (s : State) : Res Unit :=
  floatOp r m fMul s

/-- MPFD, a word instruction (R575). -/
def execMpfd (r : Reg) (m : MemRef) (s : State) : Host.Outcome State Fault Refusal :=
  perform .word (opMpfd r m) s

/-- DVFW (R576): divide floating-point word. -/
def opDvfw (r : Reg) (m : MemRef) (s : State) : Res Unit :=
  floatOp r m fDiv s

/-- DVFW, a word instruction (R576). -/
def execDvfw (r : Reg) (m : MemRef) (s : State) : Host.Outcome State Fault Refusal :=
  perform .word (opDvfw r m) s

/-- DVFD (R578): divide floating-point doubleword. -/
def opDvfd (r : Reg) (m : MemRef) (s : State) : Res Unit :=
  floatOp r m fDiv s

/-- DVFD, a word instruction (R578). -/
def execDvfd (r : Reg) (m : MemRef) (s : State) : Host.Outcome State Fault Refusal :=
  perform .word (opDvfd r m) s

end Sys2Proof.Machine
end

