-- ==== Sys2Proof/Machine/Interrupt.lean ====
section
/-!
DEFINITION. The interrupt control instructions (spec/52_interrupt.md); the Class F ones are
in InputOutput.lean.
-/

namespace Sys2Proof.Machine

/-- Does EI, DI, RI, AI or DAI act on the level (R641, decision D58). -/
def State.commands (s : State) (l : Level) : Bool := isLevel l && !s.isClassF l && s.isWired l

/-- A level whose enable the jumper fixes (R642, decision D59). -/
def State.fixedEnable (s : State) (l : Level) : Bool := decide (s.cfg.level01 = .constant) && decide (l.toNat < 2)

/-- The common part of EI, DI, RI, AI and DAI (R641). -/
def commandLevel (l : Level) (f : State → State) (s : State) : Res Unit :=
  (requirePriv s).bind fun _ s => .ok () (if s.commands l then f s else s)

/-- EI (R642): enable a level; privileged. -/
def opEi (l : Level) (s : State) : Res Unit :=
  commandLevel l (fun s => if s.fixedEnable l then s else s.setEnabled l true) s

/-- EI, a word instruction (R642). -/
def execEi (l : Level) (s : State) : Host.Outcome State Fault Refusal :=
  perform .word (opEi l) s

/-- DI (R643): disable a level and clear its request; privileged. -/
def opDi (l : Level) (s : State) : Res Unit :=
  commandLevel l (fun s =>
    if s.fixedEnable l then s else (s.setEnabled l false).setRequest l false) s

/-- DI, a word instruction (R643). -/
def execDi (l : Level) (s : State) : Host.Outcome State Fault Refusal :=
  perform .word (opDi l) s

/-- RI (R644): request a level; privileged. -/
def opRi (l : Level) (s : State) : Res Unit :=
  commandLevel l (fun s => s.setRequest l true) s

/-- RI, a word instruction (R644). -/
def execRi (l : Level) (s : State) : Host.Outcome State Fault Refusal :=
  perform .word (opRi l) s

/-- AI (R645): activate a level; privileged. -/
def opAi (l : Level) (s : State) : Res Unit :=
  commandLevel l (fun s => s.setActive l true) s

/-- AI, a word instruction (R645). -/
def execAi (l : Level) (s : State) : Host.Outcome State Fault Refusal :=
  perform .word (opAi l) s

/-- DAI (R646): deactivate a level; in PSD mode the next instruction is not interrupted; privileged. -/
def opDai (l : Level) (s : State) : Res Unit :=
  commandLevel l (fun s =>
    { s.setActive l false with noIntNext := s.noIntNext || decide (s.mode = .psd) }) s

/-- DAI, a word instruction (R646). -/
def execDai (l : Level) (s : State) : Host.Outcome State Fault Refusal :=
  perform .word (opDai l) s

/-- BEI (R656): block external interrupts; privileged, PSD mode only. -/
def opBei (s : State) : Res Unit :=
  (requirePsd s).bind fun _ s => (requirePriv s).bind fun _ s => .ok () (s.setBlocked true)

/-- BEI, a halfword instruction (R656). -/
def execBei (s : State) : Host.Outcome State Fault Refusal :=
  perform .half opBei s

/-- UEI (R657): unblock external interrupts; privileged, PSD mode only. -/
def opUei (s : State) : Res Unit :=
  (requirePsd s).bind fun _ s => (requirePriv s).bind fun _ s => .ok () (s.setBlocked false)

/-- UEI, a halfword instruction (R657). -/
def execUei (s : State) : Host.Outcome State Fault Refusal :=
  perform .half opUei s

end Sys2Proof.Machine
end

