-- ==== Sys2Proof/Machine/InputOutput.lean ====
section
/-!
DEFINITION. The input/output instructions and the Class F interrupt instructions (spec/53_io.md; spec/52_interrupt.md
R650 to R654).
-/

namespace Sys2Proof.Machine

/-- `x`, its traps those of the device `d` (R790). -/
def ofDevice {α : Type} (d : DevEntry) (x : Res α) : Res α :=
  match x with
  | .stop (.trap t) s => .stop (.trap (.ofDevice d t)) s
  | y => y

/-- CD (R672): to a Class F channel no operation in PSW mode, System Check in PSD mode; to an absent device no
operation (decision D60). To any other device the command goes on the bus and the CPU itself stores nothing, in the
emulation IOCD at 700 + 8n neither: the model's choice, since R678 and N43 do not say what is stored there (log 49). -/
def commandDevice (d : BitVec 7) (c : Half) (s : State) : Res Unit :=
  match s.devAt d with
  | none => .ok () s
  | some e =>
    if inClassF e then
      match s.mode with
      | .psw => .ok () s
      | .psd => trapNow (.ofDevice e (.systemCheck (statBit 0))) s
    else .ok () (s.send (.command d c))

/-- TD's condition codes for a Class F channel in PSW mode (R674, decision D61). -/
def testClassF (c : Half) : CC :=
  if c = 0x2000 then ⟨false, true, false, false⟩ else ⟨false, false, true, false⟩

/-- CC4 alone: "controller is absent or powered off" (R674). -/
def ccAbsent : CC := ⟨false, false, false, true⟩

/-- DeviceTest (R674): the environment's answer; none, or no answer left, is an absent controller (log 18). -/
def deviceTest (d : BitVec 7) (c : Half) (s : State) : State :=
  let t := s.send (.test d c)
  match s.devReplies with
  | [] => t.setCC ccAbsent
  | none :: rest => { t with devReplies := rest, cc := ccAbsent }
  | some a :: rest => { t with devReplies := rest, cc := a }

/-- TD (R674). -/
def testDevice (d : BitVec 7) (c : Half) (s : State) : Res Unit :=
  match s.devAt d with
  | none => .ok () (s.setCC ccAbsent)
  | some e =>
    if inClassF e then
      match s.mode with
      | .psw => .ok () (s.setCC (testClassF c))
      | .psd => trapNow (.ofDevice e (.systemCheck (statBit 0))) s
    else .ok () (deviceTest d c s)

/-- The computed logical channel and subaddress (R680, decision D62). -/
def channelAddr (r : Reg) (k : Half) (s : State) : Half := k + (if r = 0 then 0 else bits (s.reg r) 16 16)

/-- The effect on CPU-side state of an accepted Class F operation (R651 to R654, R686, R699). -/
def acceptedEffect (op : ChanOp) (chan : BitVec 7) (l : Level) (s : State) : State :=
  match op with
  | .rschnl => (s.setRequest l false).setActive l false
  | .ecwcs => { s with ecwcsArmed := some chan }
  | .eci => s.setEnabled l true
  | .dci => s.setEnabled l false
  | .aci => (s.setActive l true).setRequest l false
  | .daci => { s.setActive l false with noIntNext := true }
  | .sio => s
  | .tio => s
  | .stpio => s
  | .hio => s
  | .grio => s
  | .rsctl => s
  | .wcwcs => s

/-- ECWCS not accepted leaves the interlock unarmed (R699), also where another channel had been armed, which R700 and
decision D64 would leave armed: the model's choice (log 18). -/
def refusedEffect (op : ChanOp) (s : State) : State :=
  if op = .ecwcs then { s with ecwcsArmed := none } else s

/-- The interlock as an operation begins (R682, R700, decision D64): ECWCS alone leaves one armed for the
channel. -/
def disarm (op : ChanOp) (chan : BitVec 7) (s : State) : State :=
  if op ≠ .ecwcs ∧ s.ecwcsArmed = some chan then { s with ecwcsArmed := none } else s

/-- Does the operation send the IOCLA (R683, R700). -/
def ChanOp.sendsList (op : ChanOp) : Bool := decide (op = .sio) || decide (op = .wcwcs)

/-- The status address stored in ICB word 6 when status was stored (R682, R690). -/
def storeStatus (icb : Addr) (rep : ChanReply) (s : State) : Res Unit :=
  if rep.answer = .statusStored then physWrite operandErr (icb + 20) .word (rep.status.setWidth 32) s else .ok () s

/-- A Class F operation that the channel answers (R682, R650, R683, R700). -/
def channelOp (op : ChanOp) (chan : BitVec 7) (sub : Byte) (l : Level) (rep : ChanReply) (s : State) : Res Unit :=
  (physRead operandErr (ivlOf l) .word (disarm op chan s)).bind fun v s =>
    let icb := addrOf v
    (if op.sendsList then (physRead operandErr (icb + 16) .word s).bind fun w s => .ok (some (addrOf w)) s
      else .ok none s).bind fun data s =>
      (storeStatus icb rep (s.send (.channel op chan sub data))).bind fun _ s =>
        .ok () ((if rep.answer.accepts then acceptedEffect op chan l s else refusedEffect op s).setCC
          (ccAnswer rep.answer))

/-- The channel's answer: the next reply; none, or no reply left, is a channel that does not answer (log 18). -/
def nextReply (s : State) : Option ChanReply × State :=
  match s.chanReplies with
  | [] => (none, s)
  | a :: rest => (a, { s with chanReplies := rest })

/-- The Class F instructions (R650, R682): mode, privilege, class, the interlock of WCWCS (R700), the answer. The
model's choice: the interlock is looked at before the answer, and a channel that does not answer leaves it as it
was (log 18). -/
def classF (op : ChanOp) (r : Reg) (k : Half) (s : State) : Res Unit :=
  (requirePsd s).bind fun _ s => (requirePriv s).bind fun _ s =>
    let a := channelAddr r k s
    let chan : BitVec 7 := bits a 1 7
    match s.devAt chan with
    | none => .ok () (s.setCC (ccAnswer .inoperable))
    | some d =>
      if !inClassF d then trapNow (.ofDevice d (.undefined false)) s
      else if op = .wcwcs ∧ s.ecwcsArmed ≠ some chan then trapNow (.ofDevice d (.systemCheck (statBit 15))) s
      else
        match nextReply s with
        | (none, s) => .ok () (s.setCC (ccAnswer .inoperable))
        | (some rep, s) => ofDevice d (channelOp op chan (bits a 8 8) d.level rep s)

/-- ECI (R651): enable channel interrupt; privileged, PSD mode only. -/
def opEci (r : Reg) (k : Half) (s : State) : Res Unit :=
  classF .eci r k s

/-- ECI, a word instruction (R651). -/
def execEci (r : Reg) (k : Half) (s : State) : Host.Outcome State Fault Refusal :=
  perform .word (opEci r k) s

/-- DCI (R652): disable channel interrupt, the request kept; privileged, PSD mode only. -/
def opDci (r : Reg) (k : Half) (s : State) : Res Unit :=
  classF .dci r k s

/-- DCI, a word instruction (R652). -/
def execDci (r : Reg) (k : Half) (s : State) : Host.Outcome State Fault Refusal :=
  perform .word (opDci r k) s

/-- ACI (R653): activate channel interrupt; privileged, PSD mode only. -/
def opAci (r : Reg) (k : Half) (s : State) : Res Unit :=
  classF .aci r k s

/-- ACI, a word instruction (R653). -/
def execAci (r : Reg) (k : Half) (s : State) : Host.Outcome State Fault Refusal :=
  perform .word (opAci r k) s

/-- DACI (R654): deactivate channel interrupt; the next instruction is not interrupted; privileged, PSD mode only. -/
def opDaci (r : Reg) (k : Half) (s : State) : Res Unit :=
  classF .daci r k s

/-- DACI, a word instruction (R654). -/
def execDaci (r : Reg) (k : Half) (s : State) : Host.Outcome State Fault Refusal :=
  perform .word (opDaci r k) s

/-- CD (R672): command device; privileged. -/
def opCd (d : BitVec 7) (c : Half) (s : State) : Res Unit :=
  (requirePriv s).bind fun _ s => commandDevice d c s

/-- CD, a word instruction (R672). -/
def execCd (d : BitVec 7) (c : Half) (s : State) : Host.Outcome State Fault Refusal :=
  perform .word (opCd d c) s

/-- TD (R674): test device; privileged. -/
def opTd (d : BitVec 7) (c : Half) (s : State) : Res Unit :=
  (requirePriv s).bind fun _ s => testDevice d c s

/-- TD, a word instruction (R674). -/
def execTd (d : BitVec 7) (c : Half) (s : State) : Host.Outcome State Fault Refusal :=
  perform .word (opTd d c) s

/-- SIO (R683): start I/O, with the IOCLA; privileged, PSD mode only. -/
def opSio (r : Reg) (k : Half) (s : State) : Res Unit :=
  classF .sio r k s

/-- SIO, a word instruction (R683). -/
def execSio (r : Reg) (k : Half) (s : State) : Host.Outcome State Fault Refusal :=
  perform .word (opSio r k) s

/-- TIO (R684): test I/O; privileged, PSD mode only. -/
def opTio (r : Reg) (k : Half) (s : State) : Res Unit :=
  classF .tio r k s

/-- TIO, a word instruction (R684). -/
def execTio (r : Reg) (k : Half) (s : State) : Host.Outcome State Fault Refusal :=
  perform .word (opTio r k) s

/-- STPIO (R685): stop I/O; privileged, PSD mode only. -/
def opStpio (r : Reg) (k : Half) (s : State) : Res Unit :=
  classF .stpio r k s

/-- STPIO, a word instruction (R685). -/
def execStpio (r : Reg) (k : Half) (s : State) : Host.Outcome State Fault Refusal :=
  perform .word (opStpio r k) s

/-- RSCHNL (R686): reset channel; privileged, PSD mode only. -/
def opRschnl (r : Reg) (k : Half) (s : State) : Res Unit :=
  classF .rschnl r k s

/-- RSCHNL, a word instruction (R686). -/
def execRschnl (r : Reg) (k : Half) (s : State) : Host.Outcome State Fault Refusal :=
  perform .word (opRschnl r k) s

/-- HIO (R687): halt I/O; privileged, PSD mode only. -/
def opHio (r : Reg) (k : Half) (s : State) : Res Unit :=
  classF .hio r k s

/-- HIO, a word instruction (R687). -/
def execHio (r : Reg) (k : Half) (s : State) : Host.Outcome State Fault Refusal :=
  perform .word (opHio r k) s

/-- GRIO (R688): grab controller; privileged, PSD mode only. -/
def opGrio (r : Reg) (k : Half) (s : State) : Res Unit :=
  classF .grio r k s

/-- GRIO, a word instruction (R688). -/
def execGrio (r : Reg) (k : Half) (s : State) : Host.Outcome State Fault Refusal :=
  perform .word (opGrio r k) s

/-- RSCTL (R689): reset controller; privileged, PSD mode only. -/
def opRsctl (r : Reg) (k : Half) (s : State) : Res Unit :=
  classF .rsctl r k s

/-- RSCTL, a word instruction (R689). -/
def execRsctl (r : Reg) (k : Half) (s : State) : Host.Outcome State Fault Refusal :=
  perform .word (opRsctl r k) s

/-- ECWCS (R699): enable channel WCS load; privileged, PSD mode only. -/
def opEcwcs (r : Reg) (k : Half) (s : State) : Res Unit :=
  classF .ecwcs r k s

/-- ECWCS, a word instruction (R699). -/
def execEcwcs (r : Reg) (k : Half) (s : State) : Host.Outcome State Fault Refusal :=
  perform .word (opEcwcs r k) s

/-- WCWCS (R700): write channel WCS, after ECWCS; privileged, PSD mode only. -/
def opWcwcs (r : Reg) (k : Half) (s : State) : Res Unit :=
  classF .wcwcs r k s

/-- WCWCS, a word instruction (R700). -/
def execWcwcs (r : Reg) (k : Half) (s : State) : Host.Outcome State Fault Refusal :=
  perform .word (opWcwcs r k) s

end Sys2Proof.Machine
end

