-- ==== Sys2Proof/Machine/Logical.lean ====
section
/-!
DEFINITION. The logical instructions (spec/45_logical.md); none writes memory.
-/

namespace Sys2Proof.Machine

/-- A byte put in bits 24-31 of a register, the rest unchanged (R402). -/
def State.setLowByte (s : State) (r : Reg) (v : Byte) : State := s.setReg r (bits (s.reg r) 0 24 ++ v)

/-- A halfword put in bits 16-31 of a register, the rest unchanged (R403). -/
def State.setLowHalf (s : State) (r : Reg) (v : Half) : State := s.setReg r (bits (s.reg r) 0 16 ++ v)

/-- AND with memory (R402 to R405): the byte and halfword forms leave the rest of the register and report on
the byte or halfword as an unsigned number (R401 c). -/
def andMemory (r : Reg) (m : MemRef) (s : State) : Res Unit :=
  (operand m s).bind fun o s =>
    match o with
    | .byte v =>
      let x := v &&& bits (s.reg r) 24 8
      .ok () ((s.setLowByte r x).setCC (ccUnsigned x))
    | .half v =>
      let x := v &&& bits (s.reg r) 16 16
      .ok () ((s.setLowHalf r x).setCC (ccUnsigned x))
    | .word v => .ok () (putWord r (v &&& s.reg r) s)
    | .dword v => .ok () (putDword r (v &&& s.pair r) s)

/-- The operand widened with zeros: OR and exclusive OR with it leave the rest of the register (R407, R413). -/
def Operand.zext : Operand → Word
  | .byte v => v.setWidth 32
  | .half v => v.setWidth 32
  | .word v => v
  | .dword v => bits v 0 32

/-- OR with memory (R407 to R410), condition codes on the whole register or pair. -/
def orMemory (r : Reg) (m : MemRef) (s : State) : Res Unit :=
  (operand m s).bind fun o s =>
    match o with
    | .dword v => .ok () (putDword r (v ||| s.pair r) s)
    | o => .ok () (putWord r (o.zext ||| s.reg r) s)

/-- Exclusive OR with memory (R413 to R416), condition codes on the whole register or pair. -/
def xorMemory (r : Reg) (m : MemRef) (s : State) : Res Unit :=
  (operand m s).bind fun o s =>
    match o with
    | .dword v => .ok () (putDword r (v ^^^ s.pair r) s)
    | o => .ok () (putWord r (o.zext ^^^ s.reg r) s)

/-- ANMB (R402): AND memory byte. -/
def opAnmb (r : Reg) (m : MemRef) (s : State) : Res Unit :=
  andMemory r m s

/-- ANMB, a word instruction (R402). -/
def execAnmb (r : Reg) (m : MemRef) (s : State) : Host.Outcome State Fault Refusal :=
  perform .word (opAnmb r m) s

/-- ANMH (R403): AND memory halfword. -/
def opAnmh (r : Reg) (m : MemRef) (s : State) : Res Unit :=
  andMemory r m s

/-- ANMH, a word instruction (R403). -/
def execAnmh (r : Reg) (m : MemRef) (s : State) : Host.Outcome State Fault Refusal :=
  perform .word (opAnmh r m) s

/-- ANMW (R404): AND memory word. -/
def opAnmw (r : Reg) (m : MemRef) (s : State) : Res Unit :=
  andMemory r m s

/-- ANMW, a word instruction (R404). -/
def execAnmw (r : Reg) (m : MemRef) (s : State) : Host.Outcome State Fault Refusal :=
  perform .word (opAnmw r m) s

/-- ANMD (R405): AND memory doubleword. -/
def opAnmd (r : Reg) (m : MemRef) (s : State) : Res Unit :=
  andMemory r m s

/-- ANMD, a word instruction (R405). -/
def execAnmd (r : Reg) (m : MemRef) (s : State) : Host.Outcome State Fault Refusal :=
  perform .word (opAnmd r m) s

/-- ANR (R406): AND register and register. -/
def opAnr (rd : Reg) (rs : Reg) (s : State) : Res Unit :=
  .ok () (putWord rd (s.reg rs &&& s.reg rd) s)

/-- ANR, a halfword instruction (R406). -/
def execAnr (rd : Reg) (rs : Reg) (s : State) : Host.Outcome State Fault Refusal :=
  perform .half (opAnr rd rs) s

/-- ORMB (R407): OR memory byte. -/
def opOrmb (r : Reg) (m : MemRef) (s : State) : Res Unit :=
  orMemory r m s

/-- ORMB, a word instruction (R407). -/
def execOrmb (r : Reg) (m : MemRef) (s : State) : Host.Outcome State Fault Refusal :=
  perform .word (opOrmb r m) s

/-- ORMH (R408): OR memory halfword. -/
def opOrmh (r : Reg) (m : MemRef) (s : State) : Res Unit :=
  orMemory r m s

/-- ORMH, a word instruction (R408). -/
def execOrmh (r : Reg) (m : MemRef) (s : State) : Host.Outcome State Fault Refusal :=
  perform .word (opOrmh r m) s

/-- ORMW (R409): OR memory word. -/
def opOrmw (r : Reg) (m : MemRef) (s : State) : Res Unit :=
  orMemory r m s

/-- ORMW, a word instruction (R409). -/
def execOrmw (r : Reg) (m : MemRef) (s : State) : Host.Outcome State Fault Refusal :=
  perform .word (opOrmw r m) s

/-- ORMD (R410): OR memory doubleword. -/
def opOrmd (r : Reg) (m : MemRef) (s : State) : Res Unit :=
  orMemory r m s

/-- ORMD, a word instruction (R410). -/
def execOrmd (r : Reg) (m : MemRef) (s : State) : Host.Outcome State Fault Refusal :=
  perform .word (opOrmd r m) s

/-- ORR (R411): OR register and register. -/
def opOrr (rd : Reg) (rs : Reg) (s : State) : Res Unit :=
  .ok () (putWord rd (s.reg rs ||| s.reg rd) s)

/-- ORR, a halfword instruction (R411). -/
def execOrr (rd : Reg) (rs : Reg) (s : State) : Host.Outcome State Fault Refusal :=
  perform .half (opOrr rd rs) s

/-- ORRM (R412): OR register and register masked. -/
def opOrrm (rd : Reg) (rs : Reg) (s : State) : Res Unit :=
  .ok () (putWord rd ((s.reg rs ||| s.reg rd) &&& s.mask) s)

/-- ORRM, a halfword instruction (R412). -/
def execOrrm (rd : Reg) (rs : Reg) (s : State) : Host.Outcome State Fault Refusal :=
  perform .half (opOrrm rd rs) s

/-- EOMB (R413): exclusive OR memory byte. -/
def opEomb (r : Reg) (m : MemRef) (s : State) : Res Unit :=
  xorMemory r m s

/-- EOMB, a word instruction (R413). -/
def execEomb (r : Reg) (m : MemRef) (s : State) : Host.Outcome State Fault Refusal :=
  perform .word (opEomb r m) s

/-- EOMH (R414): exclusive OR memory halfword. -/
def opEomh (r : Reg) (m : MemRef) (s : State) : Res Unit :=
  xorMemory r m s

/-- EOMH, a word instruction (R414). -/
def execEomh (r : Reg) (m : MemRef) (s : State) : Host.Outcome State Fault Refusal :=
  perform .word (opEomh r m) s

/-- EOMW (R415): exclusive OR memory word. -/
def opEomw (r : Reg) (m : MemRef) (s : State) : Res Unit :=
  xorMemory r m s

/-- EOMW, a word instruction (R415). -/
def execEomw (r : Reg) (m : MemRef) (s : State) : Host.Outcome State Fault Refusal :=
  perform .word (opEomw r m) s

/-- EOMD (R416): exclusive OR memory doubleword. -/
def opEomd (r : Reg) (m : MemRef) (s : State) : Res Unit :=
  xorMemory r m s

/-- EOMD, a word instruction (R416). -/
def execEomd (r : Reg) (m : MemRef) (s : State) : Host.Outcome State Fault Refusal :=
  perform .word (opEomd r m) s

/-- EOR (R417): exclusive OR register and register. -/
def opEor (rd : Reg) (rs : Reg) (s : State) : Res Unit :=
  .ok () (putWord rd (s.reg rs ^^^ s.reg rd) s)

/-- EOR, a halfword instruction (R417). -/
def execEor (rd : Reg) (rs : Reg) (s : State) : Host.Outcome State Fault Refusal :=
  perform .half (opEor rd rs) s

/-- EORM (R418): exclusive OR register and register masked. -/
def opEorm (rd : Reg) (rs : Reg) (s : State) : Res Unit :=
  .ok () (putWord rd ((s.reg rs ^^^ s.reg rd) &&& s.mask) s)

/-- EORM, a halfword instruction (R418). -/
def execEorm (rd : Reg) (rs : Reg) (s : State) : Host.Outcome State Fault Refusal :=
  perform .half (opEorm rd rs) s

end Sys2Proof.Machine
end

