-- ==== Sys2Proof/Machine/MemoryManagement.lean ====
section
/-!
DEFINITION. The memory management and Writable Control Storage instructions (spec/42_memory_management_wcs.md).
-/

namespace Sys2Proof.Machine

/-- WCSavailable(a) (R325, decision D29). -/
def State.wcsAvailable (s : State) (a : Word) : Bool :=
  decide (0 < s.cfg.wcsWords) && decide (a.toNat ≤ 4095) && decide (a.toNat < s.cfg.wcsWords)

/-- WCS[a] (R57); a location nothing has written holds zero (log 2). -/
def State.wcsAt (s : State) (a : Nat) : Dword := Sparse.get 0 s.wcs a

/-- WCS[a] written (R57). -/
def State.setWcs (s : State) (a : Nat) (v : Dword) : State := { s with wcs := Sparse.set 0 s.wcs a v }

/-- The logical word address in a register: bits 13-29, or bits 8-29 in extended mode (R326, decision D36). -/
def wcsAddr (ext : Bool) (w : Word) : Addr :=
  if ext then wordAlign (addrOf w) else (0 : BitVec 5) ++ bits w 13 17 ++ (0 : BitVec 2)

/-- The second word's address: the first one plus 4 in its own width, 19 bits or, in extended mode, 24 (R9, R104,
R326, R327). -/
def wcsNext (ext : Bool) (m : Addr) : Addr := if ext then m + 4 else (0 : BitVec 5) ++ (bits m 5 19 + 4)

/-- The WCS option absent or the address out of range: CC1 set, Undefined Instruction (R326, R742 d). A trap that PSW
mode drops leaves them so, the model's choice (R751, R780; log 39). -/
def noWcs (s : State) : Res Unit := trapNow (.undefined true) (s.setCC ⟨true, false, false, false⟩)

/-- LMAP and TMAPR while mapped (R146, decision D21). -/
def requireUnmapped (s : State) : Res Unit := if s.mapActive then trapNow .mapFault s else .ok () s

/-- WcsRoutine (R330, U10): the environment's reply, identity where there is none (log 19). -/
def wcsRoutine (s : State) : State :=
  match s.wcsReplies with
  | [] => s
  | r :: rest => { storeAll r.stores s with regs := r.regs, cc := r.cc, wcsReplies := rest }

/-- SEA (R310): set extended addressing. -/
def opSea (s : State) : Res Unit :=
  .ok () { s with ext := true }

/-- SEA, a halfword instruction (R310). -/
def execSea (s : State) : Host.Outcome State Fault Refusal :=
  perform .half opSea s

/-- CEA (R311): clear extended addressing. -/
def opCea (s : State) : Res Unit :=
  .ok () { s with ext := false }

/-- CEA, a halfword instruction (R311). -/
def execCea (s : State) : Host.Outcome State Fault Refusal :=
  perform .half opCea s

/-- LMAP (R312): load the MAP from the PSD2 of the PSD a register addresses; privileged, PSD mode only. -/
def opLmap (r : Reg) (s : State) : Res Unit :=
  (requirePsd s).bind fun _ s => (requirePriv s).bind fun _ s => (requireUnmapped s).bind fun _ s =>
    (physRead operandErr (addrOf (s.reg r) + 4) .word s).bind fun psd2 s =>
      (loadMap (switchErr false) psd2 s).bind fun _ s => .ok () s

/-- LMAP, a halfword instruction (R312). -/
def execLmap (r : Reg) (s : State) : Host.Outcome State Fault Refusal :=
  perform .half (opLmap r) s

/-- TMAPR (R313): a pair of MAP registers to a register; privileged, PSD mode only. -/
def opTmapr (rd : Reg) (rs : Reg) (s : State) : Res Unit :=
  (requirePsd s).bind fun _ s => (requirePriv s).bind fun _ s => (requireUnmapped s).bind fun _ s =>
    let k := bits (s.reg rs) 27 4
    .ok () (s.setReg rd (s.mapReg (k ++ (0 : BitVec 1)) ++ s.mapReg (k ++ (1 : BitVec 1))))

/-- TMAPR, a halfword instruction (R313). -/
def execTmapr (rd : Reg) (rs : Reg) (s : State) : Host.Outcome State Fault Refusal :=
  perform .half (opTmapr rd rs) s

/-- WWCS (R326): write one WCS location from two memory words; privileged. -/
def opWwcs (rd : Reg) (rs : Reg) (s : State) : Res Unit :=
  (requirePriv s).bind fun _ s =>
    if !s.wcsAvailable (s.reg rd) then noWcs s
    else
      let a := (s.reg rd).toNat
      let m := wcsAddr s.ext (s.reg rs)
      (memRead .operand m .word s).bind fun hi s => (memRead .operand (wcsNext s.ext m) .word s).bind fun lo s =>
        .ok () ((s.setWcs a (hi ++ lo)).setCC ⟨false, false, false, false⟩)

/-- WWCS, a halfword instruction (R326). -/
def execWwcs (rd : Reg) (rs : Reg) (s : State) : Host.Outcome State Fault Refusal :=
  perform .half (opWwcs rd rs) s

/-- RWCS (R327): read one WCS location into two memory words; privileged. -/
def opRwcs (rd : Reg) (rs : Reg) (s : State) : Res Unit :=
  (requirePriv s).bind fun _ s =>
    if !s.wcsAvailable (s.reg rs) then noWcs s
    else
      let v := s.wcsAt (s.reg rs).toNat
      let m := wcsAddr s.ext (s.reg rd)
      (memWrite m .word (bits v 0 32) s).bind fun _ s =>
        (memWrite (wcsNext s.ext m) .word (bits v 32 32) s).bind fun _ s =>
          .ok () (s.setCC ⟨false, false, false, false⟩)

/-- RWCS, a halfword instruction (R327). -/
def execRwcs (rd : Reg) (rs : Reg) (s : State) : Host.Outcome State Fault Refusal :=
  perform .half (opRwcs rd rs) s

/-- JWCS (R330): jump to WCS: the routine's effect, then the next sequential instruction. Without the option CC1
is set and the instruction is undefined (R57, R742 d); CC2 to CC4 stay (log 44), and CC1 stays set where PSW mode drops
the trap (log 39). The model's choice: the words of
an indirect chain are read as operands, not on behalf of a branch (R120; log 44). -/
def opJwcs (m : MemRef) (s : State) : Res Unit :=
  if s.cfg.wcsWords = 0 then trapNow (.undefined true) (s.setCC { s.cc with cc1 := true })
  else (resolve .operand m s).bind fun t s => .ok () (wcsRoutine (s.send (.wcs (bits t.ea.addr 18 6))))

/-- JWCS, a word instruction (R330). -/
def execJwcs (m : MemRef) (s : State) : Host.Outcome State Fault Refusal :=
  perform .word (opJwcs m) s

end Sys2Proof.Machine
end

