-- ==== Sys2Proof/Machine/MulDiv.lean ====
section
/-!
DEFINITION. The fixed-point multiply and divide instructions (spec/49_fixed_point_muldiv.md).
-/

namespace Sys2Proof.Machine

/-- The product of R+1 and `v` to the pair (R530). -/
def multiply (r : Reg) (v : Word) (s : State) : State := putDword r (mulFull v (s.reg (r + 1))) s

/-- The pair divided by `v` (R536): remainder to R, quotient to R+1; on an exception the registers keep their
values and CC2 to CC4 report on R+1 (decision D41). -/
def divide (r : Reg) (v : Word) (s : State) : Res Unit :=
  match divFull (s.pair r) v with
  | none => arithCheck (s.setCC (ccArith true (s.reg (r + 1))))
  | some (rem, quo) => .ok () ((s.setPair r (rem ++ quo)).setCC (ccArith false quo))

/-- Multiply by memory (R531 to R533, decision D43). -/
def mulMemory (r : Reg) (m : MemRef) (s : State) : Res Unit :=
  (operandNoDword m s).bind fun v s => .ok () (multiply r v s)

/-- Divide by memory (R537 to R539, decision D43). -/
def divMemory (r : Reg) (m : MemRef) (s : State) : Res Unit :=
  (operandNoDword m s).bind fun v s => divide r v s

/-- MPMB (R531): multiply by memory byte. -/
def opMpmb (r : Reg) (m : MemRef) (s : State) : Res Unit :=
  mulMemory r m s

/-- MPMB, a word instruction (R531). -/
def execMpmb (r : Reg) (m : MemRef) (s : State) : Host.Outcome State Fault Refusal :=
  perform .word (opMpmb r m) s

/-- MPMH (R532): multiply by memory halfword. -/
def opMpmh (r : Reg) (m : MemRef) (s : State) : Res Unit :=
  mulMemory r m s

/-- MPMH, a word instruction (R532). -/
def execMpmh (r : Reg) (m : MemRef) (s : State) : Host.Outcome State Fault Refusal :=
  perform .word (opMpmh r m) s

/-- MPMW (R533): multiply by memory word. -/
def opMpmw (r : Reg) (m : MemRef) (s : State) : Res Unit :=
  mulMemory r m s

/-- MPMW, a word instruction (R533). -/
def execMpmw (r : Reg) (m : MemRef) (s : State) : Host.Outcome State Fault Refusal :=
  perform .word (opMpmw r m) s

/-- MPR (R534): multiply register by register. -/
def opMpr (rd : Reg) (rs : Reg) (s : State) : Res Unit :=
  .ok () (multiply rd (s.reg rs) s)

/-- MPR, a halfword instruction (R534). -/
def execMpr (rd : Reg) (rs : Reg) (s : State) : Host.Outcome State Fault Refusal :=
  perform .half (opMpr rd rs) s

/-- MPI (R535): multiply immediate. -/
def opMpi (r : Reg) (v : Half) (s : State) : Res Unit :=
  .ok () (multiply r (v.signExtend 32) s)

/-- MPI, a word instruction (R535). -/
def execMpi (r : Reg) (v : Half) (s : State) : Host.Outcome State Fault Refusal :=
  perform .word (opMpi r v) s

/-- DVMB (R537): divide by memory byte. -/
def opDvmb (r : Reg) (m : MemRef) (s : State) : Res Unit :=
  divMemory r m s

/-- DVMB, a word instruction (R537). -/
def execDvmb (r : Reg) (m : MemRef) (s : State) : Host.Outcome State Fault Refusal :=
  perform .word (opDvmb r m) s

/-- DVMH (R538): divide by memory halfword. -/
def opDvmh (r : Reg) (m : MemRef) (s : State) : Res Unit :=
  divMemory r m s

/-- DVMH, a word instruction (R538). -/
def execDvmh (r : Reg) (m : MemRef) (s : State) : Host.Outcome State Fault Refusal :=
  perform .word (opDvmh r m) s

/-- DVMW (R539): divide by memory word. -/
def opDvmw (r : Reg) (m : MemRef) (s : State) : Res Unit :=
  divMemory r m s

/-- DVMW, a word instruction (R539). -/
def execDvmw (r : Reg) (m : MemRef) (s : State) : Host.Outcome State Fault Refusal :=
  perform .word (opDvmw r m) s

/-- DVR (R540): divide register by register. -/
def opDvr (rd : Reg) (rs : Reg) (s : State) : Res Unit :=
  divide rd (s.reg rs) s

/-- DVR, a halfword instruction (R540). -/
def execDvr (rd : Reg) (rs : Reg) (s : State) : Host.Outcome State Fault Refusal :=
  perform .half (opDvr rd rs) s

/-- DVI (R541): divide immediate. -/
def opDvi (r : Reg) (v : Half) (s : State) : Res Unit :=
  divide r (v.signExtend 32) s

/-- DVI, a word instruction (R541). -/
def execDvi (r : Reg) (v : Half) (s : State) : Host.Outcome State Fault Refusal :=
  perform .word (opDvi r v) s

end Sys2Proof.Machine
end

