-- ==== Sys2Proof/Machine/RegisterTransfer.lean ====
section
/-!
DEFINITION. The register transfer instructions (spec/41_register_transfer.md).
-/

namespace Sys2Proof.Machine

/-- The scratchpad address in bits 8-15 of a register (R281). -/
def cellAddr (w : Word) : BitVec 8 := bits w 8 8

/-- A negated register, masked after the overflow is known (R288). -/
def putNegMasked (r : Reg) (v mask : Word) (s : State) : Res Unit :=
  arithCheck ((s.setReg r (-v &&& mask)).setCC (ccArith (negOv v).2 (-v &&& mask)))

/-- The exchange of two registers: `a` to R_D, `b` to R_S, condition codes on `b` (R291, R292). -/
def exchange (rd rs : Reg) (a b : Word) (s : State) : State :=
  ((s.setReg rd a).setReg rs b).setCC (ccArith false b)

/-- TSCR (R281): scratchpad to register; privileged. -/
def opTscr (rd : Reg) (rs : Reg) (s : State) : Res Unit :=
  (requirePriv s).bind fun _ s =>
    .ok () (s.setReg rd (s.cell (cellAddr (s.reg rs))))

/-- TSCR, a halfword instruction (R281). -/
def execTscr (rd : Reg) (rs : Reg) (s : State) : Host.Outcome State Fault Refusal :=
  perform .half (opTscr rd rs) s

/-- TRSC (R282): register to scratchpad; privileged. -/
def opTrsc (rd : Reg) (rs : Reg) (s : State) : Res Unit :=
  (requirePriv s).bind fun _ s =>
    .ok () (s.setCell (cellAddr (s.reg rd)) (s.reg rs))

/-- TRSC, a halfword instruction (R282). -/
def execTrsc (rd : Reg) (rs : Reg) (s : State) : Host.Outcome State Fault Refusal :=
  perform .half (opTrsc rd rs) s

/-- TRR (R283): register to register. -/
def opTrr (rd : Reg) (rs : Reg) (s : State) : Res Unit :=
  .ok () (putWord rd (s.reg rs) s)

/-- TRR, a halfword instruction (R283). -/
def execTrr (rd : Reg) (rs : Reg) (s : State) : Host.Outcome State Fault Refusal :=
  perform .half (opTrr rd rs) s

/-- TRRM (R284): register to register masked. -/
def opTrrm (rd : Reg) (rs : Reg) (s : State) : Res Unit :=
  .ok () (putWord rd (s.reg rs &&& s.mask) s)

/-- TRRM, a halfword instruction (R284). -/
def execTrrm (rd : Reg) (rs : Reg) (s : State) : Host.Outcome State Fault Refusal :=
  perform .half (opTrrm rd rs) s

/-- TRN (R287): register negative. -/
def opTrn (rd : Reg) (rs : Reg) (s : State) : Res Unit :=
  putWordOv rd (negOv (s.reg rs)) s

/-- TRN, a halfword instruction (R287). -/
def execTrn (rd : Reg) (rs : Reg) (s : State) : Host.Outcome State Fault Refusal :=
  perform .half (opTrn rd rs) s

/-- TRNM (R288): register negative masked; CC1 is that of the negation. -/
def opTrnm (rd : Reg) (rs : Reg) (s : State) : Res Unit :=
  putNegMasked rd (s.reg rs) s.mask s

/-- TRNM, a halfword instruction (R288). -/
def execTrnm (rd : Reg) (rs : Reg) (s : State) : Host.Outcome State Fault Refusal :=
  perform .half (opTrnm rd rs) s

/-- TRC (R289): register complement. -/
def opTrc (rd : Reg) (rs : Reg) (s : State) : Res Unit :=
  .ok () (putWord rd (~~~(s.reg rs)) s)

/-- TRC, a halfword instruction (R289). -/
def execTrc (rd : Reg) (rs : Reg) (s : State) : Host.Outcome State Fault Refusal :=
  perform .half (opTrc rd rs) s

/-- TRCM (R290): register complement masked. -/
def opTrcm (rd : Reg) (rs : Reg) (s : State) : Res Unit :=
  .ok () (putWord rd (~~~(s.reg rs) &&& s.mask) s)

/-- TRCM, a halfword instruction (R290). -/
def execTrcm (rd : Reg) (rs : Reg) (s : State) : Host.Outcome State Fault Refusal :=
  perform .half (opTrcm rd rs) s

/-- XCR (R291): exchange registers; condition codes on the original R_D. -/
def opXcr (rd : Reg) (rs : Reg) (s : State) : Res Unit :=
  .ok () (exchange rd rs (s.reg rs) (s.reg rd) s)

/-- XCR, a halfword instruction (R291). -/
def execXcr (rd : Reg) (rs : Reg) (s : State) : Host.Outcome State Fault Refusal :=
  perform .half (opXcr rd rs) s

/-- XCRM (R292): exchange registers masked. -/
def opXcrm (rd : Reg) (rs : Reg) (s : State) : Res Unit :=
  .ok () (exchange rd rs (s.reg rs &&& s.mask) (s.reg rd &&& s.mask) s)

/-- XCRM, a halfword instruction (R292). -/
def execXcrm (rd : Reg) (rs : Reg) (s : State) : Host.Outcome State Fault Refusal :=
  perform .half (opXcrm rd rs) s

/-- TRP (R285): register to protect register; privileged (decision D28). -/
def opTrp (p : BitVec 4) (r : Reg) (s : State) : Res Unit :=
  (requirePriv s).bind fun _ s =>
    .ok () (s.setProtReg p (bits (s.reg r) 16 16))

/-- TRP, a halfword instruction (R285). -/
def execTrp (p : BitVec 4) (r : Reg) (s : State) : Host.Outcome State Fault Refusal :=
  perform .half (opTrp p r) s

/-- TPR (R286): protect register to register. -/
def opTpr (p : BitVec 4) (r : Reg) (s : State) : Res Unit :=
  .ok () (s.setReg r ((0 : Half) ++ s.protReg p))

/-- TPR, a halfword instruction (R286). -/
def execTpr (p : BitVec 4) (r : Reg) (s : State) : Host.Outcome State Fault Refusal :=
  perform .half (opTpr p r) s

/-- TRSW (R293): bits 1-4 and 13-30 of a register to the PSW: a branch. -/
def opTrsw (r : Reg) (s : State) : Res Unit :=
  .ok () ((s.setCC (ccOf (s.reg r))).setPc (bits (s.reg r) 13 18))

/-- TRSW, a halfword instruction (R293). -/
def execTrsw (r : Reg) (s : State) : Host.Outcome State Fault Refusal :=
  perform .half (opTrsw r) s

end Sys2Proof.Machine
end

