-- ==== Sys2Proof/Machine/Shift.lean ====
section
/-!
DEFINITION. The shift and normalize instructions (spec/46_shift.md).
-/

namespace Sys2Proof.Machine

/-- One step of the normalization: shift left four while bits 0-4 are all zeros or all ones, `k` counting
(R442, R443, decision D38). The fuel bounds the steps: a nonzero word stops within it. -/
def normalize {n : Nat} : Nat → BitVec n → Nat → BitVec n × Nat
  | 0, v, k => (v, k)
  | f + 1, v, k =>
    if bits v 0 5 = 0 ∨ bits v 0 5 = 31 then normalize f (v <<< 4) (k + 1) else (v, k)

/-- Normalization of `n` bits: the value and the exponent, 40 (hex) less the number of shifts, zero for zero
(R442, R443). -/
def normalized {n : Nat} (v : BitVec n) : BitVec n × Word :=
  if v = 0 then (0, 0)
  else ((normalize (n / 4) v 0).1, BitVec.ofNat 32 (0x40 - (normalize (n / 4) v 0).2))

/-- The number of zero bits before the first one bit, from manual bit `i` on (R444). -/
def leadingZeros : Nat → Word → Nat
  | 0, _ => 0
  | f + 1, v => if bitAt v 0 then 0 else leadingZeros f (v <<< 1) + 1

/-- Left arithmetic: the sign kept, the other bits shifted with zeros (R445). -/
def shiftLeftArith {n : Nat} (v : BitVec n) (k : Nat) : BitVec n := putBitAt (v <<< k) 0 (bitAt v 0)

/-- Did a bit that left position 1 differ from the sign (R445). -/
def lostSign {n : Nat} (v : BitVec n) : Nat → Bool
  | 0 => false
  | k + 1 => (bitAt v (k + 1) != bitAt v 0) || lostSign v k

/-- CC after SLA and SLAD, and the exception it reports (R445). -/
def shiftCC (ov : Bool) (s : State) : Res Unit := arithCheck (s.setCC ⟨ov, false, false, false⟩)

/-- NOR (R442): normalize R (bits 6-8), exponent to the register of bits 9-11 (conflict C27). -/
def opNor (r : Reg) (rc : Reg) (s : State) : Res Unit :=
  let x := normalized (s.reg r)
  .ok () ((s.setReg r x.1).setReg rc x.2)

/-- NOR, a halfword instruction (R442). -/
def execNor (r : Reg) (rc : Reg) (s : State) : Host.Outcome State Fault Refusal :=
  perform .half (opNor r rc) s

/-- NORD (R443): normalize the pair of R. -/
def opNord (r : Reg) (rc : Reg) (s : State) : Res Unit :=
  let x := normalized (s.pair r)
  .ok () ((s.setPair r x.1).setReg rc x.2)

/-- NORD, a halfword instruction (R443). -/
def execNord (r : Reg) (rc : Reg) (s : State) : Host.Outcome State Fault Refusal :=
  perform .half (opNord r rc) s

/-- SCZ (R444): shift and count zeros. -/
def opScz (r : Reg) (rc : Reg) (s : State) : Res Unit :=
  let v := s.reg r
  let c := if v = 0 then 0 else leadingZeros 32 v
  let w := if v = 0 then 0 else v <<< (c + 1)
  .ok () (((s.setReg r w).setReg rc (BitVec.ofNat 32 c)).setCC (ccZero v))

/-- SCZ, a halfword instruction (R444). -/
def execScz (r : Reg) (rc : Reg) (s : State) : Host.Outcome State Fault Refusal :=
  perform .half (opScz r rc) s

/-- SLA (R445): shift left arithmetic. -/
def opSla (r : Reg) (n : BitVec 5) (s : State) : Res Unit :=
  let v := s.reg r
  shiftCC (lostSign v n.toNat) (s.setReg r (shiftLeftArith v n.toNat))

/-- SLA, a halfword instruction (R445). -/
def execSla (r : Reg) (n : BitVec 5) (s : State) : Host.Outcome State Fault Refusal :=
  perform .half (opSla r n) s

/-- SLL (R446): shift left logical. -/
def opSll (r : Reg) (n : BitVec 5) (s : State) : Res Unit :=
  .ok () (s.setReg r (s.reg r <<< n.toNat))

/-- SLL, a halfword instruction (R446). -/
def execSll (r : Reg) (n : BitVec 5) (s : State) : Host.Outcome State Fault Refusal :=
  perform .half (opSll r n) s

/-- SLC (R447): shift left circular. -/
def opSlc (r : Reg) (n : BitVec 5) (s : State) : Res Unit :=
  .ok () (s.setReg r ((s.reg r).rotateLeft n.toNat))

/-- SLC, a halfword instruction (R447). -/
def execSlc (r : Reg) (n : BitVec 5) (s : State) : Host.Outcome State Fault Refusal :=
  perform .half (opSlc r n) s

/-- SLAD (R448): shift left arithmetic double. -/
def opSlad (r : Reg) (n : BitVec 5) (s : State) : Res Unit :=
  let v := s.pair r
  shiftCC (lostSign v n.toNat) (s.setPair r (shiftLeftArith v n.toNat))

/-- SLAD, a halfword instruction (R448). -/
def execSlad (r : Reg) (n : BitVec 5) (s : State) : Host.Outcome State Fault Refusal :=
  perform .half (opSlad r n) s

/-- SLLD (R449): shift left logical double. -/
def opSlld (r : Reg) (n : BitVec 5) (s : State) : Res Unit :=
  .ok () (s.setPair r (s.pair r <<< n.toNat))

/-- SLLD, a halfword instruction (R449). -/
def execSlld (r : Reg) (n : BitVec 5) (s : State) : Host.Outcome State Fault Refusal :=
  perform .half (opSlld r n) s

/-- SRA (R450): shift right arithmetic. -/
def opSra (r : Reg) (n : BitVec 5) (s : State) : Res Unit :=
  .ok () (s.setReg r ((s.reg r).sshiftRight n.toNat))

/-- SRA, a halfword instruction (R450). -/
def execSra (r : Reg) (n : BitVec 5) (s : State) : Host.Outcome State Fault Refusal :=
  perform .half (opSra r n) s

/-- SRL (R451): shift right logical. -/
def opSrl (r : Reg) (n : BitVec 5) (s : State) : Res Unit :=
  .ok () (s.setReg r (s.reg r >>> n.toNat))

/-- SRL, a halfword instruction (R451). -/
def execSrl (r : Reg) (n : BitVec 5) (s : State) : Host.Outcome State Fault Refusal :=
  perform .half (opSrl r n) s

/-- SRC (R452): shift right circular. -/
def opSrc (r : Reg) (n : BitVec 5) (s : State) : Res Unit :=
  .ok () (s.setReg r ((s.reg r).rotateRight n.toNat))

/-- SRC, a halfword instruction (R452). -/
def execSrc (r : Reg) (n : BitVec 5) (s : State) : Host.Outcome State Fault Refusal :=
  perform .half (opSrc r n) s

/-- SRAD (R453): shift right arithmetic double. -/
def opSrad (r : Reg) (n : BitVec 5) (s : State) : Res Unit :=
  .ok () (s.setPair r ((s.pair r).sshiftRight n.toNat))

/-- SRAD, a halfword instruction (R453). -/
def execSrad (r : Reg) (n : BitVec 5) (s : State) : Host.Outcome State Fault Refusal :=
  perform .half (opSrad r n) s

/-- SRLD (R454): shift right logical double. -/
def opSrld (r : Reg) (n : BitVec 5) (s : State) : Res Unit :=
  .ok () (s.setPair r (s.pair r >>> n.toNat))

/-- SRLD, a halfword instruction (R454). -/
def execSrld (r : Reg) (n : BitVec 5) (s : State) : Host.Outcome State Fault Refusal :=
  perform .half (opSrld r n) s

end Sys2Proof.Machine
end

