-- ==== Sys2Proof/Machine/Execute.lean ====
section
/-!
DEFINITION. The Execute instructions (spec/51_control.md R607 to R610).
-/

namespace Sys2Proof.Machine

/-- What Execute may run (R607): the effect of every instruction but the PSD mode ones and Execute itself,
which are undefined as targets (decision D53). -/
def targetOp : Instr → Option (State → Res Unit)
  | .lb r m => some (opLb r m)
  | .lh r m => some (opLh r m)
  | .lw r m => some (opLw r m)
  | .ld r m => some (opLd r m)
  | .lmb r m => some (opLmb r m)
  | .lmh r m => some (opLmh r m)
  | .lmw r m => some (opLmw r m)
  | .lmd r m => some (opLmd r m)
  | .lnb r m => some (opLnb r m)
  | .lnh r m => some (opLnh r m)
  | .lnw r m => some (opLnw r m)
  | .lnd r m => some (opLnd r m)
  | .li r v => some (opLi r v)
  | .lea r m => some (opLea r m)
  | .lear _ _ => none
  | .la _ _ => none
  | .lem _ _ _ => none
  | .cema _ _ _ => none
  | .lf r m => some (opLf r m)
  | .stb r m => some (opStb r m)
  | .sth r m => some (opSth r m)
  | .stw r m => some (opStw r m)
  | .std r m => some (opStd r m)
  | .stmb r m => some (opStmb r m)
  | .stmh r m => some (opStmh r m)
  | .stmw r m => some (opStmw r m)
  | .stmd r m => some (opStmd r m)
  | .stf r m => some (opStf r m)
  | .sem _ _ _ => none
  | .zmb m => some (opZmb m)
  | .zmh m => some (opZmh m)
  | .zmw m => some (opZmw m)
  | .zmd m => some (opZmd m)
  | .zr r => some (opZr r)
  | .tscr rd rs => some (opTscr rd rs)
  | .trsc rd rs => some (opTrsc rd rs)
  | .trr rd rs => some (opTrr rd rs)
  | .trrm rd rs => some (opTrrm rd rs)
  | .trn rd rs => some (opTrn rd rs)
  | .trnm rd rs => some (opTrnm rd rs)
  | .trc rd rs => some (opTrc rd rs)
  | .trcm rd rs => some (opTrcm rd rs)
  | .xcr rd rs => some (opXcr rd rs)
  | .xcrm rd rs => some (opXcrm rd rs)
  | .trp p r => some (opTrp p r)
  | .tpr p r => some (opTpr p r)
  | .trsw r => some (opTrsw r)
  | .sea => some opSea
  | .cea => some opCea
  | .lmap _ => none
  | .tmapr _ _ => none
  | .wwcs rd rs => some (opWwcs rd rs)
  | .rwcs rd rs => some (opRwcs rd rs)
  | .jwcs m => some (opJwcs m)
  | .bu m => some (opBu m)
  | .bct d m => some (opBct d m)
  | .bcf d m => some (opBcf d m)
  | .bft m => some (opBft m)
  | .bl m => some (opBl m)
  | .bib r i a => some (opBib r i a)
  | .bih r i a => some (opBih r i a)
  | .biw r i a => some (opBiw r i a)
  | .bid r i a => some (opBid r i a)
  | .camb r m => some (opCamb r m)
  | .camh r m => some (opCamh r m)
  | .camw r m => some (opCamw r m)
  | .camd r m => some (opCamd r m)
  | .car rd rs => some (opCar rd rs)
  | .ci r v => some (opCi r v)
  | .cmmb r m => some (opCmmb r m)
  | .cmmh r m => some (opCmmh r m)
  | .cmmw r m => some (opCmmw r m)
  | .cmmd r m => some (opCmmd r m)
  | .cmr rd rs => some (opCmr rd rs)
  | .anmb r m => some (opAnmb r m)
  | .anmh r m => some (opAnmh r m)
  | .anmw r m => some (opAnmw r m)
  | .anmd r m => some (opAnmd r m)
  | .anr rd rs => some (opAnr rd rs)
  | .ormb r m => some (opOrmb r m)
  | .ormh r m => some (opOrmh r m)
  | .ormw r m => some (opOrmw r m)
  | .ormd r m => some (opOrmd r m)
  | .orr rd rs => some (opOrr rd rs)
  | .orrm rd rs => some (opOrrm rd rs)
  | .eomb r m => some (opEomb r m)
  | .eomh r m => some (opEomh r m)
  | .eomw r m => some (opEomw r m)
  | .eomd r m => some (opEomd r m)
  | .eor rd rs => some (opEor rd rs)
  | .eorm rd rs => some (opEorm rd rs)
  | .nor r rc => some (opNor r rc)
  | .nord r rc => some (opNord r rc)
  | .scz r rc => some (opScz r rc)
  | .sla r n => some (opSla r n)
  | .sll r n => some (opSll r n)
  | .slc r n => some (opSlc r n)
  | .slad r n => some (opSlad r n)
  | .slld r n => some (opSlld r n)
  | .sra r n => some (opSra r n)
  | .srl r n => some (opSrl r n)
  | .src r n => some (opSrc r n)
  | .srad r n => some (opSrad r n)
  | .srld r n => some (opSrld r n)
  | .sbm b m => some (opSbm b m)
  | .zbm b m => some (opZbm b m)
  | .abm b m => some (opAbm b m)
  | .tbm b m => some (opTbm b m)
  | .sbr b r y => some (opSbr b r y)
  | .zbr b r y => some (opZbr b r y)
  | .abr b r y => some (opAbr b r y)
  | .tbr b r y => some (opTbr b r y)
  | .admb r m => some (opAdmb r m)
  | .admh r m => some (opAdmh r m)
  | .admw r m => some (opAdmw r m)
  | .admd r m => some (opAdmd r m)
  | .adr rd rs => some (opAdr rd rs)
  | .adrm rd rs => some (opAdrm rd rs)
  | .adi r v => some (opAdi r v)
  | .armb r m => some (opArmb r m)
  | .armh r m => some (opArmh r m)
  | .armw r m => some (opArmw r m)
  | .armd r m => some (opArmd r m)
  | .sumb r m => some (opSumb r m)
  | .sumh r m => some (opSumh r m)
  | .sumw r m => some (opSumw r m)
  | .sumd r m => some (opSumd r m)
  | .sur rd rs => some (opSur rd rs)
  | .surm rd rs => some (opSurm rd rs)
  | .sui r v => some (opSui r v)
  | .es r => some (opEs r)
  | .rnd r => some (opRnd r)
  | .mpmb r m => some (opMpmb r m)
  | .mpmh r m => some (opMpmh r m)
  | .mpmw r m => some (opMpmw r m)
  | .mpr rd rs => some (opMpr rd rs)
  | .mpi r v => some (opMpi r v)
  | .dvmb r m => some (opDvmb r m)
  | .dvmh r m => some (opDvmh r m)
  | .dvmw r m => some (opDvmw r m)
  | .dvr rd rs => some (opDvr rd rs)
  | .dvi r v => some (opDvi r v)
  | .adfw r m => some (opAdfw r m)
  | .adfd r m => some (opAdfd r m)
  | .sufw r m => some (opSufw r m)
  | .sufd r m => some (opSufd r m)
  | .mpfw r m => some (opMpfw r m)
  | .mpfd r m => some (opMpfd r m)
  | .dvfw r m => some (opDvfw r m)
  | .dvfd r m => some (opDvfd r m)
  | .bri m => some (opBri m)
  | .lpsd _ => none
  | .lpsdcm _ => none
  | .lcs r => some (opLcs r)
  | .exr _ => none
  | .exrr _ => none
  | .exm _ => none
  | .halt => some opHalt
  | .wait => some opWait
  | .nop => some opNop
  | .calm flags => some (opCalm flags)
  | .svc _ _ => none
  | .setcpu r => some (opSetcpu r)
  | .rdsts _ => none
  | .eae => none
  | .dae => none
  | .ei l => some (opEi l)
  | .di l => some (opDi l)
  | .ri l => some (opRi l)
  | .ai l => some (opAi l)
  | .dai l => some (opDai l)
  | .eci _ _ => none
  | .dci _ _ => none
  | .aci _ _ => none
  | .daci _ _ => none
  | .bei => none
  | .uei => none
  | .cd d c => some (opCd d c)
  | .td d c => some (opTd d c)
  | .sio _ _ => none
  | .tio _ _ => none
  | .stpio _ _ => none
  | .rschnl _ _ => none
  | .hio _ _ => none
  | .grio _ _ => none
  | .rsctl _ _ => none
  | .ecwcs _ _ => none
  | .wcwcs _ _ => none

/-- `Execute(T)` (R607): the target's effect, in the address and length of the Execute instruction. -/
def executeTarget (image : Word) (s : State) : Res Unit :=
  match decode image with
  | .error _ => trapNow (.undefined false) s
  | .ok i =>
    match targetOp i with
    | none => trapNow (.undefined false) s
    | some f => f s

/-- EXR (R608): execute register. -/
def opExr (r : Reg) (s : State) : Res Unit :=
  executeTarget (s.reg r) s

/-- EXR, a word instruction (R608). -/
def execExr (r : Reg) (s : State) : Host.Outcome State Fault Refusal :=
  perform .word (opExr r) s

/-- EXRR (R609): execute the right halfword of a register. -/
def opExrr (r : Reg) (s : State) : Res Unit :=
  executeTarget (bits (s.reg r) 16 16 ++ (0 : Half)) s

/-- EXRR, a word instruction (R609). -/
def execExrr (r : Reg) (s : State) : Host.Outcome State Fault Refusal :=
  perform .word (opExrr r) s

/-- EXM (R610): execute memory; bit 30 of the address picks the halfword. -/
def opExm (m : MemRef) (s : State) : Res Unit :=
  (resolve .operand m s).bind fun t s =>
    (memRead .operand (wordAlign t.ea.addr) .word s).bind fun w s =>
      executeTarget (fetchImage w (bitAt t.ea.addr 22)) s

/-- EXM, a word instruction (R610). -/
def execExm (m : MemRef) (s : State) : Host.Outcome State Fault Refusal :=
  perform .word (opExm m) s

end Sys2Proof.Machine
end

