-- ==== Sys2Proof/Machine/Environment.lean ====
section
/-!
DEFINITION. The environment's moves at an instruction boundary (spec/00_scope.md R11): requests, clocks, power,
memory errors, channel accesses to memory (spec/53_io.md R676), and the operator at the panel
(spec/70_reset_and_hazards.md): SYSTEM RESET, IPL with the Initial Configuration Load (R720, R721), the panel's
reads and writes.
-/

namespace Sys2Proof.Machine

/-! ### The Initial Configuration Load (R721) -/

/-- The value of a hexadecimal digit. -/
def hexVal (c : Char) : Option Nat :=
  let n := c.toNat
  if 48 ≤ n ∧ n ≤ 57 then some (n - 48) else if 65 ≤ n ∧ n ≤ 70 then some (n - 55) else none

/-- The number that a list of hexadecimal digits writes, `acc` what was read before. -/
def hexNum : List Char → Nat → Option Nat
  | [], acc => some acc
  | c :: cs, acc => (hexVal c).bind fun d => hexNum cs (16 * acc + d)

/-- One record of the deck (R721). -/
inductive IclRecord where
  /-- `*DEVXX=FCILCASA,NN`. -/
  | dev (xx f c il ca sa nn : Nat)
  /-- `*INTXX=RS`. -/
  | int (xx r s : Nat)
  /-- `*END`. -/
  | stop
  deriving DecidableEq, Repr

/-- The eight digits of a controller definition and the count (R721). -/
def devRecord (xx f c il ca sa : List Char) (nn : Nat) : Option IclRecord :=
  (hexNum xx 0).bind fun xx => (hexNum f 0).bind fun f => (hexNum c 0).bind fun c => (hexNum il 0).bind fun il =>
    (hexNum ca 0).bind fun ca => (hexNum sa 0).bind fun sa => some (.dev xx f c il ca sa nn)

/-- A record read; none where it has none of the three formats (R721). -/
def parseRecord : List Char → Option IclRecord
  | ['*', 'E', 'N', 'D'] => some .stop
  | ['*', 'I', 'N', 'T', x, y, '=', r, s] =>
    (hexNum [x, y] 0).bind fun xx => (hexNum [r] 0).bind fun r => (hexNum [s] 0).bind fun s => some (.int xx r s)
  | ['*', 'D', 'E', 'V', x, y, '=', f, c, i, l, ca, cb, sa, sb] =>
    devRecord [x, y] [f] [c] [i, l] [ca, cb] [sa, sb] 1
  | ['*', 'D', 'E', 'V', x, y, '=', f, c, i, l, ca, cb, sa, sb, ',', n, m] =>
    (hexNum [n, m] 0).bind fun nn => devRecord [x, y] [f] [c] [i, l] [ca, cb] [sa, sb] nn
  | _ => none

/-- DEV[d] written; a number above 127 is no device. -/
def State.setDev (s : State) (d : Nat) (e : DevEntry) : State :=
  if h : d < 128 then { s with dev := s.dev.set d (some e) h } else s

/-- INT[L] written; a number above 127 is no level. -/
def State.setInt (s : State) (l : Nat) (e : IntEntry) : State :=
  if h : l < 128 then { s with int := s.int.set l (some e) h } else s

/-- The `nn` consecutive entries of a controller (R720). -/
def addDevices : Nat → Nat → DevEntry → State → State
  | 0, _, _, s => s
  | n + 1, d, e, s => addDevices n (d + 1) { e with sub := e.sub + 1 } (s.setDev d e)

/-- The deck applied up to `*END`; a device whose level is not 0x14 to 0x23 is no record of R721 and is left
out. -/
def loadDeck : List (List Char) → State → State
  | [], s => s
  | c :: cs, s =>
    match parseRecord c with
    | none => loadDeck cs s
    | some .stop => s
    | some (.int xx r sub) => loadDeck cs (s.setInt xx ⟨BitVec.ofNat 4 r, BitVec.ofNat 4 sub⟩)
    | some (.dev xx f c il ca sa nn) =>
      loadDeck cs (if 0x14 ≤ il ∧ il ≤ 0x23 then
        addDevices nn xx ⟨BitVec.ofNat 4 f, BitVec.ofNat 4 c, BitVec.ofNat 7 il, BitVec.ofNat 8 ca,
          BitVec.ofNat 8 sa⟩ s
      else s)

/-! ### SYSTEM RESET and IPL -/

/-- SYSTEM RESET (R80, R821): memory, WCS, the Configuration RAM, the MAP, the switches and the other
scratchpad cells are kept (decision D20; log 41). -/
def systemReset (s : State) : State :=
  { (s.setStat 0x00000041).setCell s.cfg.mplCell (s.cfg.mplAddr.setWidth 32) with
    regs := Vector.replicate 8 0, priv := true, cc := ⟨false, false, false, false⟩, ext := false, hist := false,
    aexp := false, pc := 0, psd2 := 0, mode := .psd, bmtEn := false, psdTrapEn := false, mapActive := false,
    blocked := false, blockCount := 0, prot := Vector.replicate 16 0, enabled := 0, request := 0, active := 0,
    noIntNext := false, run := .halt, ecwcsArmed := none, haltReq := .none, lastBix := false,
    fetchParity := false, operandParity := false,
    panel := { s.panel with parityLight := false, intLight := false, stopLight := false } }

/-- The mode at IPL (R830, decision D74); `b` is the B-display. -/
def iplMode (c : Config) (b : Word) : Mode :=
  match c.modeJumper with
  | .psw => .psw
  | .psd => if bitAt b 16 ∨ bits b 8 8 = 0x55 then .psw else .psd

/-- The IPL device (R830). -/
def iplDevice (c : Config) (b : Word) : BitVec 15 := if bits b 17 15 = 0 then c.iplDefault else bits b 17 15

/-- INITIAL PROGRAM LOAD (R830 to R832): the mode, the image, the deck if one is read, the PSW; the CPU is left
in HALT (log 40). The PSW is loaded as R602 loads one, in PSD mode too: its bit 7 is ignored, AEXP, HIST and PSD2 stay, the
model's choice (R831 says nothing of them; log 40). A byte of the image for memory that is not installed is dropped (log 42). -/
def initialLoad (image : List (Addr × Byte)) (icl : List (List Char)) (psw : Word) (s : State) : State :=
  let b := s.panel.bDisplay
  let s := (s.setMode (iplMode s.cfg b)).send (.ipl (iplDevice s.cfg b))
  let s := storeAll image s
  let s := if icl.isEmpty then s
    else loadDeck icl { s with dev := Vector.replicate 128 none, int := Vector.replicate 128 none }
  (s.withPsw psw).setRun .halt

/-! ### The panel (R840 to R846) -/

/-- The A-display changed. -/
def State.showA (s : State) (v : Word) : State := { s with panel := { s.panel with aDisplay := v } }

/-- The B-display changed. -/
def State.showB (s : State) (v : Word) : State := { s with panel := { s.panel with bDisplay := v } }

/-- A fault of a panel operation: its digit in the rightmost digit of the B-display (R848; log 26). -/
def panelFault (d : BitVec 4) (s : State) : State := s.showB (bits s.panel.bDisplay 0 28 ++ d)

/-- The memory word at a real address shown in the B-display; error 4 for nonpresent memory (R843, R848). -/
def showWord (a : Addr) (s : State) : State :=
  if s.present a .word then s.showB (s.peek a.toNat .word) else panelFault 4 s

/-- A word stored by the panel; error 4 for nonpresent memory (R843, R848). -/
def storeWord (a : Addr) (v : Word) (s : State) : State :=
  if s.present a .word then s.poke a.toNat .word v else panelFault 4 s

/-- The memory word that the A-display addresses, a real address (decision D75). Its low two bits are dropped, here
and in WRITE MD and READ EA, the model's choice (log 26). -/
def panelRead (s : State) : State := showWord (wordAlign (addrOf s.panel.aDisplay)) s

/-- The B-display stored in the memory word that the A-display addresses (decision D75; log 26). -/
def panelWrite (s : State) : State := storeWord (wordAlign (addrOf s.panel.aDisplay)) s.panel.bDisplay s

/-- WRITE PSW: a plain register write; HIST and the display bits are not written (decisions D11, D75). -/
def panelPsw (s : State) : State :=
  let w := s.panel.bDisplay
  ({ s with priv := bitAt w 0, cc := ccOf w, ext := bitAt w 5, pc := bits w 13 18 }).setAexp (bitAt w 7)

/-- WRITE CSWS: switches 0-11, and the word at CSW_ADDR (conflict C12; log 36). -/
def panelCsw (s : State) : State :=
  let c : Half := bits s.panel.bDisplay 0 12 ++ bits s.csw 12 4
  storeWord s.cfg.cswAddr (c ++ (0 : Half)) { s with csw := c }

/-- How a word's address is formed, by the instruction that it holds: a branch reads its indirect words as a branch
(R120, R341), BIx has no index field (R351), BRI follows no chain (R603, decision D48), a floating-point
instruction's bit 12 is no F bit (R560, decision D46). Any other word has the form of R94. -/
def addressForm (w : Word) : Access × MemRef :=
  match decodeFetched w false with
  | .ok (.bu m) => (.branch, m)
  | .ok (.bct _ m) => (.branch, m)
  | .ok (.bcf _ m) => (.branch, m)
  | .ok (.bft m) => (.branch, m)
  | .ok (.bl m) => (.branch, m)
  | .ok (.bib _ i a) => (.branch, ⟨0, i, a⟩)
  | .ok (.bih _ i a) => (.branch, ⟨0, i, a⟩)
  | .ok (.biw _ i a) => (.branch, ⟨0, i, a⟩)
  | .ok (.bid _ i a) => (.branch, ⟨0, i, a⟩)
  | .ok (.bri m) => (.branch, { m with i := false })
  | .ok (.adfw _ m) => (.operand, floatRef m)
  | .ok (.adfd _ m) => (.operand, floatRef m)
  | .ok (.sufw _ m) => (.operand, floatRef m)
  | .ok (.sufd _ m) => (.operand, floatRef m)
  | .ok (.mpfw _ m) => (.operand, floatRef m)
  | .ok (.mpfd _ m) => (.operand, floatRef m)
  | .ok (.dvfw _ m) => (.operand, floatRef m)
  | .ok (.dvfd _ m) => (.operand, floatRef m)
  | _ => (.operand, memRefOf w)

/-- The panel's digit for an address that cannot be formed; none for a MAP fault and for a chain without an end, of
which R848 says nothing (log 26). -/
def faultDigit (e : Stop) : Option (BitVec 4) :=
  match e with
  | .trap (.nonpresent _) => some 4
  | .trap (.memoryParity _) => some 5
  | _ => none

/-- READ EA: the effective address, after indexing and indirection, of the instruction that the A-display addresses
(R843, R848; log 26). The B-display shows the 24-bit address in bits 8-31 and zeros in bits 0-7, and F of R100's record
is not shown, the model's choice: R843 says only that EA goes to the B-display (log 26). -/
def panelEa (s : State) : State :=
  let a := wordAlign (addrOf s.panel.aDisplay)
  if s.present a .word then
    let form := addressForm (s.peek a.toNat .word)
    match resolve form.1 form.2 { s with between := [] } with
    | .ok t _ => s.showB (t.ea.addr.setWidth 32)
    | .stop e _ => match faultDigit e with
      | some d => panelFault d s
      | none => s
  else panelFault 4 s

/-- READ CONV: the real address of the logical address in the A-display (R843), converted as an operand read converts it,
not as a fetch or a branch does (R120): the model's choice (log 26). Bits 0-7 of the B-display are zero (log 26). -/
def panelConv (s : State) : State :=
  match s.translate .operand false (addrOf s.panel.aDisplay) with
  | .ok pa => s.showB (pa.setWidth 32)
  | .error _ => s

/-- The RUN/HALT key (R840, R845). -/
def panelRunHalt (s : State) : State :=
  match s.run with
  | .halt => s.setGoing .none
  | .run =>
    if s.lastBix then { s with haltReq := if s.haltReq = .stop then .stop else .key }
    else { s with run := .halt, haltReq := .none }.showHalt
  | .wait => { s with run := .halt, haltReq := .none }.showHalt

/-- The keys that need an unlocked panel and a halted CPU (R821, R831, R841 to R843; log 26). -/
def haltedKey (k : PanelKey) (s : State) : State :=
  let b := s.panel.bDisplay
  match k with
  | .instrStep => s.setGoing .key
  | .systemReset => systemReset s
  | .ipl image icl psw => initialLoad image icl psw s
  | .instrStop on => { s with stops := { s.stops with addr := if on then addrOf b else s.stops.addr, instr := on } }
  | .readStop on => { s with stops := { s.stops with addr := if on then addrOf b else s.stops.addr, read := on } }
  | .writeStop on => { s with stops := { s.stops with addr := if on then addrOf b else s.stops.addr, write := on } }
  | .writeReg n => s.setReg n b
  | .readReg n => if n.getLsbD 0 then s.showB (s.reg n) else s.showA (s.reg n)
  | .writePsw => panelPsw s
  | .readPsw => s.showA s.displayPsd1
  | .writePc => s.setPc (bits b 13 18)
  | .readPc => s.showA (bits s.panel.aDisplay 0 13 ++ s.pc ++ (0 : BitVec 1))
  | .writeMd => panelWrite s
  | .readMd => panelRead s
  | .writeInc => (panelWrite s).showA (s.panel.aDisplay + 4)
  | .incRead => panelRead (s.showA (s.panel.aDisplay + 4))
  | .readEa => panelEa s
  | .writePsd2 => { s with psd2 := psd2Kept b }
  | .readPsd2 => s.showB s.psd2
  | .conv => if s.mode = .psd then panelConv s else s
  | .runHalt => s
  | .attention => s
  | .clockOverride => s
  | .lock _ => s
  | .enter _ => s
  | .writeMa => s
  | .writeCsw => s
  | .readCsw => s

/-- A key pressed (R840 to R846); operator fault 2 for one that the lock or the running CPU refuses (R848;
log 26). -/
def pressKey (k : PanelKey) (s : State) : State :=
  match k with
  | .attention => s.setRequest 0x13 true
  | .lock on => { s with panel := { s.panel with locked := on } }
  | .enter v => s.showB v
  | .writeCsw => panelCsw s
  | .readCsw => showWord s.cfg.cswAddr s
  | .runHalt => if s.panel.locked then panelFault 2 s else panelRunHalt s
  | .clockOverride =>
    if s.panel.locked then panelFault 2 s
    else { s with panel := { s.panel with clockOverride := !s.panel.clockOverride } }
  | .writeMa => if s.panel.locked then panelFault 2 s else s.showA s.panel.bDisplay
  | k => if s.panel.locked then panelFault 2 s else if s.run = .halt then haltedKey k s else panelFault 2 s

/-! ### Channels (R676) -/

/-- The TCW of an I/O channel (R678). -/
def tcwAddr (chan : BitVec 4) : Addr := 0x100 + 4 * chan.setWidth 24

/-- The size of a TCW's transfers, by F and C (R676). F = 0 with C = 10, code 010, is no row of Table 5-1; it
transfers a word, the model's choice (log 27). -/
def tcwSize (tcw : Word) : Size := if bitAt tcw 12 then .byte else if bitAt tcw 31 then .half else .word

/-- The real address of a transfer (R676). -/
def tcwTarget (tcw : Word) : Addr :=
  match tcwSize tcw with
  | .byte => (bits tcw 13 19).setWidth 24
  | .half => (bits tcw 13 18 ++ (0 : BitVec 1)).setWidth 24
  | .word => (bits tcw 13 17 ++ (0 : BitVec 2)).setWidth 24

/-- The TCW after a transfer: the address incremented in its unit's bit, the count decremented (R676; log 27:
no carry leaves the address field). -/
def tcwNext (tcw : Word) : Word :=
  let a : BitVec 19 := match tcwSize tcw with
    | .byte => bits tcw 13 19 + 1
    | .half => bits tcw 13 19 + 2
    | .word => bits tcw 13 19 + 4
  (bits tcw 0 12 - 1) ++ bits tcw 12 1 ++ a

/-- A transfer step from a device to memory (R676). Where the TCW's own word is not installed nothing happens, here
and in `transferOut`, the model's choice (log 27). -/
def transferIn (chan : BitVec 4) (v : Word) (s : State) : State :=
  if s.present (tcwAddr chan) .word then
    let tcw := s.peek (tcwAddr chan).toNat .word
    let s := if s.present (tcwTarget tcw) (tcwSize tcw) then s.poke (tcwTarget tcw).toNat (tcwSize tcw) v else s
    s.poke (tcwAddr chan).toNat .word (tcwNext tcw)
  else s

/-- A transfer step from memory to a device (R676; log 27). -/
def transferOut (chan : BitVec 4) (s : State) : State :=
  if s.present (tcwAddr chan) .word then
    let tcw := s.peek (tcwAddr chan).toNat .word
    (s.send (.transfer chan (if s.present (tcwTarget tcw) (tcwSize tcw) then
      s.peek (tcwTarget tcw).toNat (tcwSize tcw) else 0))).poke (tcwAddr chan).toNat .word (tcwNext tcw)
  else s

/-! ### Events -/

/-- A request on a level that exists (R760). A level of R731 with no hardware behind it in this installation takes
the request as the others do, the model's choice (log 21): only 0x02 to 0x11 do not exist. -/
def requestLevel (l : Level) (s : State) : State := if isLevel l then s.setRequest l true else s

/-- One event (R760); an asynchronous trap by `raiseAsync`. A byte stored at an address that is not installed is
dropped, the model's choice: R136 says nothing of it (log 42). -/
def applyEvent (s : State) (e : EnvEvent) : State :=
  match e with
  | .request l => requestLevel l s
  | .withdraw l => if s.isClassF l then s.setRequest l false else s
  | .clockTick => if s.panel.clockOverride then s else s.setRequest 0x28 true
  | .timerZero l => if s.panel.clockOverride then s else requestLevel l s
  | .powerFail => raiseAsync .powerFail s
  | .parityFetch => { s with fetchParity := true }
  | .parityOperand => { s with operandParity := true }
  | .busFailure b d => raiseAsync (Trap.of (d.bind s.devAt) (.machineCheck b)) s
  | .store a b => storeAll [(a, b)] s
  | .tcwIn c v => transferIn c v s
  | .tcwOut c => transferOut c s
  | .key k => pressKey k s

/-- A SelBUS failure. -/
def EnvEvent.isBusFailure : EnvEvent → Bool
  | .busFailure _ _ => true
  | _ => false

/-- The order in which a boundary's events take effect: as the environment lists them, but a SelBUS failure, Machine
Check 07, after the others, among them Power Fail 00 (R733; log 17). -/
def inOrder (es : List EnvEvent) : List EnvEvent :=
  (es.filter fun e => !e.isBusFailure) ++ es.filter EnvEvent.isBusFailure

/-- An instruction boundary: the events that the environment has for it (R760, R762). -/
def boundary (s : State) : State :=
  match s.inputs with
  | [] => s
  | es :: rest => (inOrder es).foldl applyEvent { s with inputs := rest }

end Sys2Proof.Machine
end

