-- ==== Sys2Proof/Machine/Fetch.lean ====
section
/-!
DEFINITION. Fetching and decoding the next instruction (spec/30_encoding.md R162; spec/20_memory.md R103, R110),
the address stop on it (spec/70_reset_and_hazards.md R842), the halt that waits for an instruction's end (R845),
and the placing of an instruction word where the next fetch reads.
-/

namespace Sys2Proof.Machine

/-- NR, the halfword selector of a pc (R34). -/
def nrOf (pc : HAddr) : Bool := pc.getLsbD 0

/-- An instruction stop at this pc (R842; log 25). -/
def State.instrStopHit (s : State) : Bool :=
  s.stops.instr && decide (bits s.stops.addr 0 5 = 0) && decide (bits s.stops.addr 5 18 = s.pc)

/-- The read of a fetched word, once the access has its turn: Nonpresent Memory and Memory Parity of the
instruction (R750, step 1). -/
def fetchNow (pa : Addr) (s : State) : Res Word :=
  if !s.present pa .word then trapNow (.nonpresent true) s
  else if s.fetchParity then trapNow (.memoryParity true) { s.lightParity with fetchParity := false }
  else .ok (s.peek pa.toNat .word) (s.askHalt s.instrStopHit)

/-- The fetched word (R162): MAP Fault first (R750, step 1). -/
def fetch (s : State) : Res Word :=
  match s.translate .fetch false (fetchAddr s.pc) with
  | .error t => trapNow t s
  | .ok pa => fetchNow pa s.interleave

/-- What the fetched word holds at the pc: the length and the instruction (R161, R162). -/
def decodeAt (w : Word) (pc : HAddr) : Len × Except DecodeError Instr :=
  (lenOf (fetchImage w (nrOf pc)), decodeFetched w (nrOf pc))

/-- A halt asked for takes effect at the end of an instruction that is no BIx: the displays show it, and the STOP
indicator where an address stop has asked for it (R841, R842, R845). A trap or an interrupt entered after a BIx does not
count as the next instruction, the model's choice (log 48). -/
def settle (s : State) : State :=
  if s.haltReq ≠ .none ∧ s.lastBix = false then
    { s with
      run := .halt, haltReq := .none,
      panel := { s.panel with stopLight := s.panel.stopLight || decide (s.haltReq = HaltReq.stop) } }.showHalt
  else s

/-- `settle` after a step that answers a next state. -/
def settleOutcome (o : Host.Outcome State Fault Refusal) : Host.Outcome State Fault Refusal :=
  match o with
  | .next s => .next (settle s)
  | .fault f => .fault f
  | .refused r => .refused r

/-- The level whose request is sensed at an instruction boundary (R660, R762). -/
def State.sensed (s : State) : Option Level :=
  if s.noIntNext then none else if decide (s.mode = .psd) && s.blocked then none else s.candidate

/-- A table word stored where the pc fetches; the state otherwise as it is (log 5). A 32-bit word needs
NR = 0. -/
def placeWord (s : State) (nbits w : Nat) : State :=
  match s.translate .fetch false (fetchAddr s.pc) with
  | .error _ => s
  | .ok pa =>
    if nbits ≤ 16 ∧ nrOf s.pc then s.poke (pa.toNat + 2) .half (BitVec.ofNat 32 w)
    else { s.poke pa.toNat .word (tableImage nbits w) with pc := bits s.pc 0 17 ++ (0 : BitVec 1) }

/-- `s` running, with no event at its next boundary, no store of others before its next fetch and no memory error
of that fetch. -/
def State.awake (s : State) : State :=
  { s with
    run := .run, fetchParity := false, inputs := if s.inputs.isEmpty then [] else [] :: s.inputs,
    between := if s.between.isEmpty then [] else [] :: s.between }

/-- `s` ready to run an instruction next: awake, and the pair of R660 set where an interrupt would come first. -/
def readied (s : State) : State := if s.awake.sensed.isSome then { s.awake with noIntNext := true } else s.awake

end Sys2Proof.Machine
end

