-- ==== Sys2Proof/Machine/Step.lean ====
section
/-!
DEFINITION. One step: the environment's events of this boundary, then an interrupt if one is sensed, else the
next instruction (spec/60_exceptions.md R762).
-/

namespace Sys2Proof.Machine

/-- Fetch, decode and execute (R162, R750). A fetch that fails stores the failing address (R751); a word that is
no instruction is Undefined Instruction with the length of R161. A halt asked for follows the trap entry (R841). -/
def runInstr (s : State) : Host.Outcome State Fault Refusal :=
  match fetch s with
  | .stop (.trap t) s' => .next (settle (raiseSync t s'))
  | .stop (.hold _) s' => .next s'
  | .stop (.halted _) s' => .next s'
  | .stop (.stuck f) _ => .fault f
  | .ok w s' =>
    match decodeAt w s.pc with
    | (len, .error _) => settleOutcome (perform len (trapNow (.undefined false)) s')
    | (_, .ok i) => settleOutcome (exec i s')

/-- One step of the machine (R762). -/
def step (s : State) : Host.Outcome State Fault Refusal :=
  let b := boundary s
  match b.run with
  | .halt => .next b
  | .wait =>
    match b.sensed with
    | some l => .next (takeInterrupt l b)
    | none => .next { b with noIntNext := false }
  | .run =>
    match b.sensed with
    | some l => .next (takeInterrupt l b)
    | none => runInstr { b with noIntNext := false }

/-- `s` with a table word stored where the next step fetches, running, with no event or interrupt before it
(log 5). -/
def State.withFetchWord (s : State) (nbits w : Nat) : State := readied (placeWord s nbits w)

end Sys2Proof.Machine
end

