-- ==== Sys2Proof/Safety.lean ====
section
/-!
DEFINITION. What the claims speak of: the effect of an instruction apart from the frame it runs in, how an
instruction ends when nothing is raised, what it leaves alone, the protected state, and the invariant of the
machine.
-/

namespace Sys2Proof.Machine

/-- The effect of an instruction, run by `perform` at the instruction's length. -/
def effectOf : Instr → State → Res Unit
  | .lb r m => opLb r m
  | .lh r m => opLh r m
  | .lw r m => opLw r m
  | .ld r m => opLd r m
  | .lmb r m => opLmb r m
  | .lmh r m => opLmh r m
  | .lmw r m => opLmw r m
  | .lmd r m => opLmd r m
  | .lnb r m => opLnb r m
  | .lnh r m => opLnh r m
  | .lnw r m => opLnw r m
  | .lnd r m => opLnd r m
  | .li r v => opLi r v
  | .lea r m => opLea r m
  | .lear r m => opLear r m
  | .la r m => opLa r m
  | .lem rd rs rz => opLem rd rs rz
  | .cema rd rs rz => opCema rd rs rz
  | .lf r m => opLf r m
  | .stb r m => opStb r m
  | .sth r m => opSth r m
  | .stw r m => opStw r m
  | .std r m => opStd r m
  | .stmb r m => opStmb r m
  | .stmh r m => opStmh r m
  | .stmw r m => opStmw r m
  | .stmd r m => opStmd r m
  | .stf r m => opStf r m
  | .sem rd rs rz => opSem rd rs rz
  | .zmb m => opZmb m
  | .zmh m => opZmh m
  | .zmw m => opZmw m
  | .zmd m => opZmd m
  | .zr r => opZr r
  | .tscr rd rs => opTscr rd rs
  | .trsc rd rs => opTrsc rd rs
  | .trr rd rs => opTrr rd rs
  | .trrm rd rs => opTrrm rd rs
  | .trn rd rs => opTrn rd rs
  | .trnm rd rs => opTrnm rd rs
  | .trc rd rs => opTrc rd rs
  | .trcm rd rs => opTrcm rd rs
  | .xcr rd rs => opXcr rd rs
  | .xcrm rd rs => opXcrm rd rs
  | .trp p r => opTrp p r
  | .tpr p r => opTpr p r
  | .trsw r => opTrsw r
  | .sea => opSea
  | .cea => opCea
  | .lmap r => opLmap r
  | .tmapr rd rs => opTmapr rd rs
  | .wwcs rd rs => opWwcs rd rs
  | .rwcs rd rs => opRwcs rd rs
  | .jwcs m => opJwcs m
  | .bu m => opBu m
  | .bct d m => opBct d m
  | .bcf d m => opBcf d m
  | .bft m => opBft m
  | .bl m => opBl m
  | .bib r i a => opBib r i a
  | .bih r i a => opBih r i a
  | .biw r i a => opBiw r i a
  | .bid r i a => opBid r i a
  | .camb r m => opCamb r m
  | .camh r m => opCamh r m
  | .camw r m => opCamw r m
  | .camd r m => opCamd r m
  | .car rd rs => opCar rd rs
  | .ci r v => opCi r v
  | .cmmb r m => opCmmb r m
  | .cmmh r m => opCmmh r m
  | .cmmw r m => opCmmw r m
  | .cmmd r m => opCmmd r m
  | .cmr rd rs => opCmr rd rs
  | .anmb r m => opAnmb r m
  | .anmh r m => opAnmh r m
  | .anmw r m => opAnmw r m
  | .anmd r m => opAnmd r m
  | .anr rd rs => opAnr rd rs
  | .ormb r m => opOrmb r m
  | .ormh r m => opOrmh r m
  | .ormw r m => opOrmw r m
  | .ormd r m => opOrmd r m
  | .orr rd rs => opOrr rd rs
  | .orrm rd rs => opOrrm rd rs
  | .eomb r m => opEomb r m
  | .eomh r m => opEomh r m
  | .eomw r m => opEomw r m
  | .eomd r m => opEomd r m
  | .eor rd rs => opEor rd rs
  | .eorm rd rs => opEorm rd rs
  | .nor r rc => opNor r rc
  | .nord r rc => opNord r rc
  | .scz r rc => opScz r rc
  | .sla r n => opSla r n
  | .sll r n => opSll r n
  | .slc r n => opSlc r n
  | .slad r n => opSlad r n
  | .slld r n => opSlld r n
  | .sra r n => opSra r n
  | .srl r n => opSrl r n
  | .src r n => opSrc r n
  | .srad r n => opSrad r n
  | .srld r n => opSrld r n
  | .sbm b m => opSbm b m
  | .zbm b m => opZbm b m
  | .abm b m => opAbm b m
  | .tbm b m => opTbm b m
  | .sbr b r y => opSbr b r y
  | .zbr b r y => opZbr b r y
  | .abr b r y => opAbr b r y
  | .tbr b r y => opTbr b r y
  | .admb r m => opAdmb r m
  | .admh r m => opAdmh r m
  | .admw r m => opAdmw r m
  | .admd r m => opAdmd r m
  | .adr rd rs => opAdr rd rs
  | .adrm rd rs => opAdrm rd rs
  | .adi r v => opAdi r v
  | .armb r m => opArmb r m
  | .armh r m => opArmh r m
  | .armw r m => opArmw r m
  | .armd r m => opArmd r m
  | .sumb r m => opSumb r m
  | .sumh r m => opSumh r m
  | .sumw r m => opSumw r m
  | .sumd r m => opSumd r m
  | .sur rd rs => opSur rd rs
  | .surm rd rs => opSurm rd rs
  | .sui r v => opSui r v
  | .es r => opEs r
  | .rnd r => opRnd r
  | .mpmb r m => opMpmb r m
  | .mpmh r m => opMpmh r m
  | .mpmw r m => opMpmw r m
  | .mpr rd rs => opMpr rd rs
  | .mpi r v => opMpi r v
  | .dvmb r m => opDvmb r m
  | .dvmh r m => opDvmh r m
  | .dvmw r m => opDvmw r m
  | .dvr rd rs => opDvr rd rs
  | .dvi r v => opDvi r v
  | .adfw r m => opAdfw r m
  | .adfd r m => opAdfd r m
  | .sufw r m => opSufw r m
  | .sufd r m => opSufd r m
  | .mpfw r m => opMpfw r m
  | .mpfd r m => opMpfd r m
  | .dvfw r m => opDvfw r m
  | .dvfd r m => opDvfd r m
  | .bri m => opBri m
  | .lpsd m => opLpsd m
  | .lpsdcm m => opLpsdcm m
  | .lcs r => opLcs r
  | .exr r => opExr r
  | .exrr r => opExrr r
  | .exm m => opExm m
  | .halt => opHalt
  | .wait => opWait
  | .nop => opNop
  | .calm flags => opCalm flags
  | .svc ind call => opSvc ind call
  | .setcpu r => opSetcpu r
  | .rdsts r => opRdsts r
  | .eae => opEae
  | .dae => opDae
  | .ei l => opEi l
  | .di l => opDi l
  | .ri l => opRi l
  | .ai l => opAi l
  | .dai l => opDai l
  | .eci r k => opEci r k
  | .dci r k => opDci r k
  | .aci r k => opAci r k
  | .daci r k => opDaci r k
  | .bei => opBei
  | .uei => opUei
  | .cd d c => opCd d c
  | .td d c => opTd d c
  | .sio r k => opSio r k
  | .tio r k => opTio r k
  | .stpio r k => opStpio r k
  | .rschnl r k => opRschnl r k
  | .hio r k => opHio r k
  | .grio r k => opGrio r k
  | .rsctl r k => opRsctl r k
  | .ecwcs r k => opEcwcs r k
  | .wcwcs r k => opWcwcs r k

/-- Nothing comes between this CPU's accesses to memory, and no Block Mode Timeout is due at the end of an
instruction that changes neither the mode, nor its enable, nor the blocking (R756, R853). -/
structure State.quiet (s : State) : Prop where
  alone : s.between = []
  noTimeout : s.mode = .psd → s.blocked = true → s.bmtEn = true → s.blockCount < 128

/-- The end of an instruction that goes on to the next one in sequence: the pc (R35), HIST and BLOCK_COUNT
(R751, R756), the BIx interlock (R845). -/
structure Ended (len : Len) (s t : State) : Prop where
  pc : t.pc = advance len s.pc
  hist : t.hist = histOf len s.pc
  lastBix : t.lastBix = false
  blockCount : t.blockCount = if t.blocked then (if s.blocked then s.blockCount + 1 else 0) else 0

/-- `t` differs from `s` in the general registers, the condition codes and what every instruction may change:
the pc, HIST, the BIx interlock, BLOCK_COUNT and a halt asked for by an address stop. All memory and every other
register is the same. -/
def onlyRegs (s t : State) : Prop :=
  t = { s with
    regs := t.regs, cc := t.cc, pc := t.pc, hist := t.hist, lastBix := t.lastBix, blockCount := t.blockCount,
    haltReq := t.haltReq }

/-- As `onlyRegs`, but memory may differ and no general register does. -/
def onlyMem (s t : State) : Prop :=
  t = { s with
    mem := t.mem, cc := t.cc, pc := t.pc, hist := t.hist, lastBix := t.lastBix, blockCount := t.blockCount,
    haltReq := t.haltReq }

/-- `t` differs from `s` at most in a halt asked for by an address stop (R842). -/
def onlyHalt (s t : State) : Prop := t = { s with haltReq := t.haltReq }

/-- The same of an effect before its end: BLOCK_COUNT and HIST are the same too. -/
def effectRegs (s u : State) : Prop :=
  u = { s with regs := u.regs, cc := u.cc, pc := u.pc, lastBix := u.lastBix, haltReq := u.haltReq }

/-- As `effectRegs`, but memory may differ and no general register does. -/
def effectMem (s u : State) : Prop :=
  u = { s with mem := u.mem, cc := u.cc, pc := u.pc, lastBix := u.lastBix, haltReq := u.haltReq }

/-- Every register but `r` is the same. -/
def regsBut (r : Reg) (s t : State) : Prop := ∀ q, q ≠ r → t.reg q = s.reg q

/-- Every register but the pair of `r` is the same. -/
def regsButPair (r : Reg) (s t : State) : Prop := ∀ q, q ≠ r → q ≠ r + 1 → t.reg q = s.reg q

/-- Every byte outside the `n` bytes from `a` on is the same. -/
def bytesBut (a n : Nat) (s t : State) : Prop := ∀ b, b < a ∨ a + n ≤ b → t.byte b = s.byte b

/-- The condition codes that report on a signed value, with CC1 given (R9, R37). -/
structure signCC {n : Nat} (c1 : Bool) (v : BitVec n) (c : CC) : Prop where
  cc1 : c.cc1 = c1
  cc2 : c.cc2 = true ↔ 0 < v.toInt
  cc3 : c.cc3 = true ↔ v.toInt < 0
  cc4 : c.cc4 = true ↔ v = 0

/-- A word put in register `r` and reported on; no other register changes. -/
structure wroteWord (r : Reg) (v : Word) (c1 : Bool) (s t : State) : Prop where
  value : t.reg r = v
  others : regsBut r s t
  cc : signCC c1 v t.cc

/-- A doubleword put in the pair of `r` and reported on; no other register changes. -/
structure wrotePair (r : Reg) (v : Dword) (c1 : Bool) (s t : State) : Prop where
  high : t.reg r = bits v 0 32
  low : t.reg (r + 1) = bits v 32 32
  others : regsButPair r s t
  cc : signCC c1 v t.cc

/-- What an unprivileged program cannot alter by an instruction of its own (R38): the privileged bit, the modes,
the masks, the MAP, the protect registers, the scratchpad, WCS, the interrupt levels but the request of 0x27
that CALM makes, the configuration. -/
structure ProtectedSame (s t : State) : Prop where
  priv : t.priv = s.priv
  aexp : t.aexp = s.aexp
  psd2 : t.psd2 = s.psd2
  mode : t.mode = s.mode
  bmtEn : t.bmtEn = s.bmtEn
  psdTrapEn : t.psdTrapEn = s.psdTrapEn
  scratch : t.scratch = s.scratch
  mapRegs : t.mapRegs = s.mapRegs
  mapActive : t.mapActive = s.mapActive
  blocked : t.blocked = s.blocked
  prot : t.prot = s.prot
  enabled : t.enabled = s.enabled
  active : t.active = s.active
  request : ∀ l : Level, l ≠ 0x27 → t.request.getLsbD l.toNat = s.request.getLsbD l.toNat
  noIntNext : t.noIntNext = s.noIntNext
  run : t.run = s.run
  wcs : t.wcs = s.wcs
  ecwcsArmed : t.ecwcsArmed = s.ecwcsArmed
  dev : t.dev = s.dev
  int : t.int = s.int
  csw : t.csw = s.csw
  stops : t.stops = s.stops
  cfg : t.cfg = s.cfg

/-- `s` with what every instruction may change taken from `t`: the pc, HIST, the BIx interlock, BLOCK_COUNT and
a halt asked for by an address stop. `t = { s.endedAs t with f := v }` says that `f` alone has changed besides. -/
def State.endedAs (s t : State) : State :=
  { s with pc := t.pc, hist := t.hist, lastBix := t.lastBix, blockCount := t.blockCount, haltReq := t.haltReq }

/-- The end of an instruction that has put `p` in the pc (R341): HIST, BLOCK_COUNT and the interlock as in
`Ended`. -/
structure Turned (len : Len) (p : HAddr) (s t : State) : Prop where
  pc : t.pc = p
  hist : t.hist = histOf len s.pc
  lastBix : t.lastBix = false
  blockCount : t.blockCount = if t.blocked then (if s.blocked then s.blockCount + 1 else 0) else 0

/-- The store of `n` bytes at the logical address `a` goes to the real address `pa` and is permitted (R111). -/
structure storesTo (s : State) (a : Addr) (n : Size) (pa : Addr) : Prop where
  real : s.translate .operand true a = .ok pa
  permitted : s.priv = true ∨ s.pageProtected pa = false
  present : s.present pa n = true

/-- The condition codes of a comparison of two signed values (R371). -/
structure compareCC (a b : Int) (c : CC) : Prop where
  cc1 : c.cc1 = false
  cc2 : c.cc2 = true ↔ b < a
  cc3 : c.cc3 = true ↔ a < b
  cc4 : c.cc4 = true ↔ a = b

/-- The words of an indirect chain in the order they are read: from the reference `m` in `s` to the reference
`e`, which has its indirect bit clear, in `t` (R99, R100). -/
def chainReads (k : Access) : List Word → MemRef → State → MemRef → State → Prop
  | [], m, s, e, t => m.i = false ∧ e = m ∧ t = s
  | w :: ws, m, s, e, t =>
    m.i = true ∧ ∃ u, memRead k (wordAlign (s.combine m).addr) .word s = .ok w u ∧ chainReads k ws (memRefOf w) u e t

/-- `w` is `v` with the bit of level `l` made `b`, every other level's as it was. -/
def levelSet (l : Level) (b : Bool) (v w : BitVec 128) : Prop :=
  ∀ k : Level, w.getLsbD k.toNat = if k = l then b else v.getLsbD k.toNat

/-- `l` is the highest priority level that is active (R603). -/
def State.highestActive (s : State) (l : Level) : Prop :=
  s.active.getLsbD l.toNat = true ∧ ∀ k : Level, k.toNat < l.toNat → s.active.getLsbD k.toNat = false

/-- The registers after a PSD of the words `w1` and `w2` was loaded, the MAP apart (R602): every field of PSD1 but
HIST, PSD2 with bits 47-49 zero, the mapping, the blocking, and the two mirrors in CPUSTAT. -/
structure LoadedPsd (w1 w2 : Word) (s t : State) : Prop where
  priv : t.priv = bitAt w1 0
  cc : t.cc = ⟨bitAt w1 1, bitAt w1 2, bitAt w1 3, bitAt w1 4⟩
  ext : t.ext = bitAt w1 5
  aexp : t.aexp = bitAt w1 7
  pc : t.pc = bits w1 13 18
  psd2 : t.psd2 = bits w2 0 15 ++ (0 : BitVec 3) ++ bits w2 18 14
  mapActive : t.mapActive = (bitAt w2 0 || bitAt w2 1)
  blocked : t.blocked = if bitAt w2 16 then s.blocked else bitAt w2 17
  stat : t.stat = putBitAt (putBitAt s.stat 24 (bitAt w1 7)) 26 t.blocked
  cells : ∀ c, c ≠ cpuStatCell → t.cell c = s.cell c

/-- `t` differs from `s` in what a PSD load writes, and in what every instruction may change. -/
def psdFrame (s t : State) : Prop :=
  t = { s.endedAs t with
    priv := t.priv, cc := t.cc, ext := t.ext, aexp := t.aexp, psd2 := t.psd2, mapActive := t.mapActive,
    blocked := t.blocked, scratch := t.scratch }

/-- A PSD2 whose load leaves the MAP registers alone: unmapped, or RETAIN MAP (R140). -/
def keepsMap (w2 : Word) : Prop := (bitAt w2 0 = false ∧ bitAt w2 1 = false) ∨ bitAt w2 15 = true

/-- `v` is `s` with the MAP that the load of the PSD2 `w2` asks for: as it is where the load keeps it, else as
`loadMap` leaves it (R140, R142, R602). -/
def mapFor (err : MemErr → Trap) (w2 : Word) (s v : State) : Prop :=
  (keepsMap w2 ∧ v = s) ∨ (¬keepsMap w2 ∧ ∃ n, loadMap err w2 s = .ok n v)

/-- The byte at `b` after the stores `l` of other agents: the last one to it, if memory is installed there
(R133). -/
def State.byteAfter (s : State) (l : List (Addr × Byte)) (b : Nat) : Byte :=
  ((l.filter fun p => decide (p.1.toNat = b) && s.present p.1 .byte).getLast?.map Prod.snd).getD (s.byte b)

/-- The displays of a CPU that has halted, `t` after `s`: PSD1 as displayed in the A-display, the instruction word at
the pc in the B-display (R841, R842, R844). -/
structure ShowsHalt (s t : State) : Prop where
  panel : t.panel = { s.panel with aDisplay := t.displayPsd1, bDisplay := t.panel.bDisplay }
  word : ∀ pa, t.translate .fetch false (fetchAddr t.pc) = .ok pa → t.present pa .word = true →
    t.panel.bDisplay = t.peek pa.toNat .word

/-- `s` with the Arithmetic Exception switched off in both modes (R749). -/
def State.arithOff (s : State) : State :=
  { s with aexp := false, enabled := s.enabled &&& ~~~BitVec.twoPow 128 0x29 }

/-- The result of a floating-point operation whose exact magnitude is `num / den` units of the fraction's last place
times 16 to the power `e`: it is cut to 7 digits and rounded to 6 (words), or cut to 14 digits (doublewords), then
checked for the range of exponents (R565 to R567, decision D44). -/
def FloatRounded (n : Nat) (neg : Bool) (e : Int) (num den : Nat) (x : FResult n) : Prop :=
  ∃ (k : Int) (h : Nat),
    let digits := if n = 32 then 7 else 14
    let guard := if n = 32 then 16 else 1
    h = num * guard * 16 ^ (-k).toNat / (den * 16 ^ k.toNat) ∧ 16 ^ (digits - 1) ≤ h ∧ h < 16 ^ digits ∧
    let f := if n = 32 then (h + 8) / 16 else h
    let carry := decide (f = 2 ^ (n - 8))
    let e' := e + k + (if carry then 1 else 0)
    x = if 63 < e' then (none, ⟨true, !neg, neg, true⟩)
      else if e' < -64 then (none, ⟨true, !neg, neg, false⟩)
      else (some (fEncode n ⟨neg, e', if carry then 2 ^ (n - 12) else f⟩), ⟨false, !neg, neg, false⟩)

/-- The page entries of one segment descriptor (R142, R143). -/
def segmentPages (msd : Word) : List Addr :=
  (List.range (msd.toNat / 2 ^ 24 % 64)).map fun j => addrOf msd + BitVec.ofNat 24 (2 * j)

/-- The addresses of the page entries that the MAP of a PSD2 is made of, in their order (R141 to R143). -/
def mapPages (psd2 : Word) (s : State) : List Addr :=
  let mpl := addrOf (s.cell s.cfg.mplCell)
  let mscd := s.peek (mpl + BitVec.ofNat 24 (psd2.toNat / 4 % 2 ^ 12 * 4)).toNat .word
  let own (n : Nat) : List Word :=
    (List.range n).map fun j => s.peek (addrOf mscd + BitVec.ofNat 24 (4 * j)).toNat .word
  let n := mscd.toNat / 2 ^ 24 % 64
  let segments : List Word :=
    if n = 0 then []
    else if bitAt mscd 0 then
      let other := s.peek (mpl + BitVec.ofNat 24 (psd2.toNat / 2 ^ 18 % 2 ^ 12 * 4)).toNat .word
      s.peek (addrOf other).toNat .word :: own (n - 1)
    else own n
  segments.flatMap segmentPages

/-- The instructions that need PSD1 bit 0 (R38, R601, R743). -/
def needsPriv : Instr → Bool
  | .lear _ _ | .lem _ _ _ | .cema _ _ _ | .sem _ _ _ => true
  | .tscr _ _ | .trsc _ _ | .trp _ _ => true
  | .lmap _ | .tmapr _ _ | .wwcs _ _ | .rwcs _ _ => true
  | .bri _ | .lpsd _ | .lpsdcm _ | .halt | .setcpu _ | .rdsts _ | .eae | .dae => true
  | .ei _ | .di _ | .ri _ | .ai _ | .dai _ | .bei | .uei => true
  | .cd _ _ | .td _ _ => true
  | .eci _ _ | .dci _ _ | .aci _ _ | .daci _ _ => true
  | .sio _ _ | .tio _ _ | .stpio _ _ | .rschnl _ _ | .hio _ _ | .grio _ _ | .rsctl _ _ | .ecwcs _ _ | .wcwcs _ _ => true
  | _ => false

/-- The instructions that exist in PSD mode only (R40, R601, R742). -/
def needsPsd : Instr → Bool
  | .lear _ _ | .la _ _ | .lem _ _ _ | .cema _ _ _ | .sem _ _ _ => true
  | .lmap _ | .tmapr _ _ => true
  | .lpsd _ | .lpsdcm _ | .svc _ _ | .rdsts _ | .eae | .dae | .bei | .uei => true
  | .eci _ _ | .dci _ _ | .aci _ _ | .daci _ _ => true
  | .sio _ _ | .tio _ _ | .stpio _ _ | .rschnl _ _ | .hio _ _ | .grio _ _ | .rsctl _ _ | .ecwcs _ _ | .wcwcs _ _ => true
  | _ => false

/-- No bit of a level that does not exist, 0x02 to 0x11 (R641, R731). -/
def levelsOnly (v : BitVec 128) : Bool := v &&& 0x3FFFC == 0

/-- Every configured device serves on a level 0x14 to 0x23 (R720). -/
def State.devLevels (s : State) : Bool :=
  s.dev.toList.all fun e => match e with
    | some d => decide (0x14 ≤ d.level.toNat) && decide (d.level.toNat ≤ 0x23)
    | none => true

/-- The invariant of the machine: the sparse stores canonical and inside what is installed (R60, R57), PSD2
bits 47-49 zero (R602), no mapping and no blocking in PSW mode (R617), BLOCK_COUNT zero while not blocked
(R756), no level that does not exist (R641), the configuration inside R720 and the parameters inside R7. -/
structure State.Inv (s : State) : Prop where
  mem : Memory.wf s.mem = true
  memInstalled : ∀ c ∈ s.mem, s.installed c.1 1 = true
  wcs : Sparse.wf (0 : Dword) s.wcs = true
  wcsInstalled : ∀ c ∈ s.wcs, c.1 < s.cfg.wcsWords
  psd2 : bits s.psd2 15 3 = 0
  pswMap : s.mode = .psw → s.mapActive = false
  pswBlocked : s.mode = .psw → s.blocked = false
  blockCount : s.blocked = false → s.blockCount = 0
  enabled : levelsOnly s.enabled = true
  request : levelsOnly s.request = true
  active : levelsOnly s.active = true
  devLevels : s.devLevels = true
  cfg : s.cfg.wf = true

end Sys2Proof.Machine
end

