-- ==== Sys2Proof/Certificates/Slice0/Obligations.lean ====
section
/-!
DEFINITION. The statements for the provers. `quiet` is the absence of other agents' stores and of a due Block Mode
Timeout, `Ended` the end of an instruction that goes on in sequence, `onlyRegs` and `onlyMem` the frames
(Sys2Proof/Safety.lean).

What holds for every statement with `quiet`, `Ended` or `endedAs`: that the pc wraps in its 18 bits is the spec's own
decision D13, BLOCK_COUNT its decision D70 (log 13), other agents' stores as lists before each access the model's
choice (logs 17, 31), and that an address stop asks for a halt and lets the instruction go on decision D75 (log 25).
-/

open Sys2Proof Sys2Proof.Machine

/-! ### Encoding, fetch and step -/

/-- Decoding the encoding of a well-formed instruction gives it back, every operand at every value. That the bits a
format leaves unassigned are ignored, hence no operands, is the spec's own decision D39 (log 34); EXRR's word is its
decision D47. -/
def Obligations.DecodeEncode : Prop := ∀ i : Instr, i.wf = true → decode (encode i) = .ok i

/-- Words written out from the encodings of the spec, one for each family. Where the manual's lists disagree the words
are the spec's resolution: TRRM is 2C08 by conflict C21. -/
def Obligations.DecodesSpecWords : Prop :=
  decode 0xAD281400 = .ok (.lb 2 ⟨1, false, 0x81400⟩) ∧
  decode 0xDE002100 = .ok (.stf 4 ⟨0, false, 0x02100⟩) ∧
  decode 0x2CA80000 = .ok (.trrm 1 2) ∧
  decode 0x2D1A0000 = .ok (.tmapr 2 1) ∧
  decode 0xEC101414 = .ok (.bu ⟨0, true, 0x01414⟩) ∧
  decode 0xC88571A2 = .ok (.ci 1 0x71A2) ∧
  decode 0x8600081A = .ok (.anmd 4 ⟨0, false, 0x0081A⟩) ∧
  decode 0x6F4C0000 = .ok (.sla 6 12) ∧
  decode 0x1B820000 = .ok (.sbr 7 0 2) ∧
  decode 0xBA009252 = .ok (.admd 4 ⟨0, false, 0x09252⟩) ∧
  decode 0x47200000 = .ok (.dvr 6 2) ∧
  decode 0xE1082002 = .ok (.adfd 2 ⟨0, false, 0x82002⟩) ∧
  decode 0xC8062123 = .ok (.svc 2 0x123) ∧
  decode 0xFD440000 = .ok (.dai 0x28) ∧
  decode 0xFC5F0800 = .ok (.wcwcs 0 0x0800)

/-- The words that are no instruction, and no others: unassigned operation codes, augmenting codes and Class F
sub-operations; and a word operation code at a right halfword. That a word code in the right halfword is no
instruction is the spec's own decision D12 (log 33), that unassigned bits do not matter its decision D39 (log 34). The
manual lists no unassigned codes: they are the complement of the assigned ones (N57), with the operation codes of
conflict C21. -/
def Obligations.UndefinedWords : Prop :=
  (∀ w : Word,
    let op := opOf w
    let aug := (f12 w).toNat
    (∃ e, decode w = .error e) ↔
      (0x12 ≤ op ∧ op ≤ 0x17) ∨
      (op = 0x00 ∧ aug = 0xA) ∨
      (op ∈ [0x01, 0x04, 0x05, 0x10, 0x11, 0x18, 0x19, 0x1A] ∧ aug ≠ 0) ∨
      (op ∈ [0x02, 0x03, 0x0E, 0x0F] ∧ aug ≠ 0 ∧ aug ≠ 8) ∨
      (op = 0x0B ∧ aug ∈ [1, 2, 6]) ∨
      (op = 0x32 ∧ 0xB ≤ aug) ∨
      (op = 0x3F ∧ aug % 8 = 7 ∧ (bits w 9 4).toNat ∈ [0x0, 0x1, 0xA])) ∧
  (∀ w : Word, isHalfLen (fetchImage w true) = false → decodeFetched w true = .error .wordInRightHalf) ∧
  (∀ w : Word, decodeFetched w false = decode w)

/-- A step with no event and no interrupt runs the instruction that the word at the pc decodes to, in the state itself
but for the pair of R660, an instruction stop, and what other agents have stored before the fetch; a halt that was
asked for takes effect after it. Where the words are not the manual's: that the instruction is fetched from memory
when it is executed is the spec's own decision D33 (R135 marks it); that the instruction which matches an address stop
still runs, and the halt follows it, is its decision D75 (R842 marks it), the address compared log 25, the displays of
that halt log 46; that other agents' stores come just before the fetch, one list for each access, is the model's
choice (logs 17, 31); that the pair of R660 is cleared as the instruction begins is log 35. -/
def Obligations.StepRunsDecoded : Prop :=
  ∀ (s : State) (pa : Addr) (i : Instr), s.inputs = [] → s.run = .run → s.sensed = none →
    s.translate .fetch false (fetchAddr s.pc) = .ok pa → s.present pa .word = true → s.fetchParity = false →
    let v := State.interleave { s with noIntNext := false }
    decodeFetched (v.peek pa.toNat .word) (nrOf s.pc) = .ok i →
    step s = settleOutcome (exec i (v.askHalt s.instrStopHit)) ∧
    (s.haltReq = .none → s.instrStopHit = false → ∀ t, exec i v = .next t → t.haltReq = .none → step s = .next t)

/-- A word that is no instruction raises Undefined Instruction, the pc past it by the length of R161. That the stored
pc is past the word is the spec's own decision D66, the length given to an unassigned code its decision D69; that a
word code in the right halfword counts as a word is log 33. The fetch from memory when the word is executed is D33, a
word code in the right halfword D12, the stores of others before the fetch logs 17 and 31. -/
def Obligations.StepTrapsUndefined : Prop :=
  ∀ (s : State) (pa : Addr) (e : DecodeError), s.inputs = [] → s.run = .run → s.sensed = none →
    s.translate .fetch false (fetchAddr s.pc) = .ok pa → s.present pa .word = true → s.fetchParity = false →
    s.haltReq = .none → s.instrStopHit = false →
    let v := State.interleave { s with noIntNext := false }
    decodeFetched (v.peek pa.toNat .word) (nrOf s.pc) = .error e →
    let len := lenOf (fetchImage (v.peek pa.toNat .word) (nrOf s.pc))
    step s = .next (settle (raise (.undefined false)
      ({ v with lastBix := false, pc := advance len s.pc, hist := histOf len s.pc })))

/-- While halted nothing runs and no interrupt is taken; while waiting only an interrupt ends the wait.

The level that is taken contends, no contending level is above it and no active one at or above it; and interrupts are
neither held off by the pair nor blocked.

Several events at once (R733): Power Fail before a trap of lower priority that it meets, and before a SelBUS failure
of the same boundary, in whatever order the environment lists them (log 17: which events coincide with an
instruction's trap is the model's choice). That the entry of an interrupt is a step of its own is the model's choice
(log 32); that a boundary of a waiting CPU clears the pair of R660 is the model's reading (log 35, DEDUCED); that a
power fail is an event is the spec's own decision D67. That traps come before the levels, and an asynchronous one by
its relative priority, R733 derives from R731; the constant enable of levels 0 and 1, part of what is enabled here, is
decision D59 (log 20). -/
def Obligations.InterruptPriority : Prop :=
  ((∀ s : State, s.inputs = [] → s.run = .halt → step s = .next s) ∧
   (∀ s : State, s.inputs = [] → s.run = .wait → s.sensed = none → step s = .next { s with noIntNext := false }) ∧
   (∀ (s : State) (l : Level), s.inputs = [] → s.run ≠ .halt → s.sensed = some l → step s = .next (takeInterrupt l s))) ∧
  (∀ (s : State) (l : Level), s.sensed = some l ↔
     s.noIntNext = false ∧ ¬(s.mode = .psd ∧ s.blocked = true) ∧
     s.enabledEff.getLsbD l.toNat = true ∧ s.request.getLsbD l.toNat = true ∧
     (∀ k : Level, k.toNat < l.toNat → ¬(s.enabledEff.getLsbD k.toNat = true ∧ s.request.getLsbD k.toNat = true)) ∧
     (∀ k : Level, k.toNat ≤ l.toNat → s.active.getLsbD k.toNat = false)) ∧
  ((∀ (s : State) (t : Trap) (a c : List EnvEvent) (rest : List (List EnvEvent)), s.mode = .psd → s.run ≠ .halt →
     (∀ e ∈ a ++ c, s.asyncTrap e = none) → t.priority ≠ 0 → s.inputs = (a ++ .powerFail :: c) :: rest →
     let p := raise .powerFail { s with inputs := (a ++ c) :: rest }
     raiseSync t s = if p.run = .halt then p else raise t p) ∧
   (∀ (s : State) (b : Word) (d : Option (BitVec 7)) (a c : List EnvEvent) (rest : List (List EnvEvent)),
     (∀ e ∈ c, ∀ b' d', e ≠ .busFailure b' d') →
     boundary { s with inputs := (a ++ .busFailure b d :: c) :: rest } =
       boundary { s with inputs := (a ++ c ++ [.busFailure b d]) :: rest }))

/-! ### Memory, translation, effective addresses -/

/-- A store of `n` bytes puts them in order, most significant first, leaves every other byte, and keeps the canonical
form; reading them back gives the low bytes of the value.

Write protection of 2,048-byte pages below 512 KB: register `pa / 32768`, bit 15 the first page. What is installed:
below MEM_BYTES and in no hole. The order of the checks of a store, protection before presence, is the spec's own
decision D31 (its note N62); that the page is picked by the address after translation is its decision D18. The
canonical form is the model's (log 1), the holes its parameter (log 3); that a store at the compare address only asks
for a halt is decision D75 (log 25). -/
def Obligations.MemoryWrites : Prop :=
  (∀ (s : State) (a : Nat) (n : Size) (v : Word), Memory.wf s.mem = true →
     Memory.wf (s.poke a n v).mem = true ∧
     (s.poke a n v).peek a n = BitVec.ofNat 32 (v.toNat % 2 ^ (8 * n.bytes)) ∧
     (∀ k < n.bytes, ((s.poke a n v).byte (a + k)).toNat = v.toNat / 2 ^ (8 * (n.bytes - 1 - k)) % 256) ∧
     bytesBut a n.bytes s (s.poke a n v)) ∧
  ((∀ (s : State) (pa : Addr), s.pageProtected pa = true ↔
     ∃ h : pa.toNat / 32768 < 16, (s.prot[pa.toNat / 32768]).getLsbD (pa.toNat / 2048 % 16) = true) ∧
   (∀ (s : State) (pa : Addr) (n : Size), s.present pa n = true ↔
     pa.toNat + n.bytes ≤ s.cfg.memBytes ∧
     ∀ h ∈ s.cfg.holes, pa.toNat + n.bytes ≤ h.base ∨ h.base + h.size ≤ pa.toNat) ∧
   (∀ (s : State) (a pa : Addr) (n : Size) (v : Word), s.between = [] → s.translate .operand true a = .ok pa →
     (s.priv = false → s.pageProtected pa = true → memWrite a n v s = .stop (.trap .privilege) s) ∧
     ((s.priv = true ∨ s.pageProtected pa = false) → s.present pa n = false →
       memWrite a n v s = .stop (.trap (.nonpresent false)) s) ∧
     ((s.priv = true ∨ s.pageProtected pa = false) → s.present pa n = true →
       ∃ t, memWrite a n v s = .ok () t ∧ onlyHalt (s.poke pa.toNat n v) t)))

/-- Translation, unmapped and mapped, in numbers: 32,768-byte pages, bit 0 of the entry VALID, bit 1 PROTECT, its low
nine bits the block. That the low nine bits are used is the spec's own decision D17 (conflict C4), the MAP Fault
beyond the 32 pages its decision D16. That PROTECT one means protected, and that the trap is Privilege Violation, is
the spec's identification (R124). -/
def Obligations.Translation : Prop :=
  ∀ (s : State) (k : Access) (w : Bool) (a : Addr),
    (s.mapActive = false → s.translate k w a = .ok a) ∧
    (s.mapActive = true →
      let page := if s.ext = true ∧ k = .operand then a.toNat / 32768 else a.toNat / 32768 % 16
      (32 ≤ page → s.translate k w a = .error .mapFault) ∧
      (∀ h : page < 32,
        let e := s.mapRegs[page]
        (e.toNat < 2 ^ 15 → s.translate k w a = .error .mapFault) ∧
        (2 ^ 15 ≤ e.toNat → w = true → s.priv = false → 2 ^ 14 ≤ e.toNat % 2 ^ 15 →
          s.translate k w a = .error .privilege) ∧
        (2 ^ 15 ≤ e.toNat → ¬(w = true ∧ s.priv = false ∧ 2 ^ 14 ≤ e.toNat % 2 ^ 15) →
          s.translate k w a = .ok (BitVec.ofNat 24 (e.toNat % 512 * 32768 + a.toNat % 32768)))))

/-- Indexing in numbers: a 20-bit sum whose carry reaches F in non-extended mode, a 24-bit sum in extended
mode, F apart.

The data type of F and C, and the byte address of each.

That F takes part in the 20-bit sum is the spec's own decision D15, that the extended sum wraps at 24 bits without a trap
its decision D76, that a doubleword ignores bit 29 of its address its decision D14: none is the manual's rule (log 30). -/
def Obligations.EffectiveAddress : Prop :=
  (∀ (s : State) (m : MemRef),
     let x : Nat := if m.x = 0 then 0 else (s.reg (m.x.setWidth 3)).toNat
     (s.ext = false →
       ((s.combine m).f = true ↔ 2 ^ 19 ≤ (m.a.toNat + x) % 2 ^ 20) ∧
       (s.combine m).addr.toNat = (m.a.toNat + x) % 2 ^ 19) ∧
     (s.ext = true →
       ((s.combine m).f = true ↔ 2 ^ 19 ≤ m.a.toNat) ∧
       (s.combine m).addr.toNat = (m.a.toNat % 2 ^ 19 + x) % 2 ^ 24)) ∧
  ((∀ e : EA,
     (e.width = .byte ↔ e.f = true) ∧
     (e.width = .half ↔ e.f = false ∧ e.addr.toNat % 2 = 1) ∧
     (e.width = .word ↔ e.f = false ∧ e.addr.toNat % 4 = 0) ∧
     (e.width = .dword ↔ e.f = false ∧ e.addr.toNat % 4 = 2)) ∧
   (∀ a : Addr,
     (operandAddr .byte a).toNat = a.toNat ∧
     (operandAddr .half a).toNat = a.toNat / 2 * 2 ∧
     (operandAddr .word a).toNat = a.toNat / 4 * 4 ∧
     (operandAddr .dword a).toNat = a.toNat / 8 * 8 ∧
     (wordAlign a).toNat = a.toNat / 4 * 4 ∧
     (dwordAlign a).toNat = a.toNat / 8 * 8))

/-- An indirect chain that ends gives the indexed address of its last word, in the state its reads leave.

The one fault of the model: no finite chain begins at the reference. That a chain without an end stops the model by a
fault, after so many words, is the model's way to say stuck (log 9; R99, U1). -/
def Obligations.IndirectChain : Prop :=
  (∀ (k : Access) (m e : MemRef) (ws : List Word) (s t : State), ws.length ≤ 2 ^ 22 → chainReads k ws m s e t →
     resolve k m s = .ok ⟨t.combine e, ws.getLast?, e.x⟩ t) ∧
  (∀ (k : Access) (m : MemRef) (s u : State) (f : Fault), resolve k m s = .stop (.stuck f) u →
     ∀ (ws : List Word) (e : MemRef) (t : State), ¬chainReads k ws m s e t)

/-- A memory operand as the bytes of memory: each width, big-endian, the doubleword from two words.

An operand outside installed memory or behind an invalid MAP register raises its trap, an operand read that meets a
memory error Memory Parity; of a doubleword the least significant word is read first. That a memory error injected by
the environment meets the next operand read, once, and is then gone is the model's choice (log 29). That a doubleword
ignores bit 29 of its address is the spec's own decision D14; the holes are the model's parameter (log 3). That a
doubleword is two transfers, the least significant word first, R130 derives from LD and STD. -/
def Obligations.OperandReads : Prop :=
  (∀ (s u : State) (m : MemRef) (x : Target) (pa : Addr), s.between = [] → resolve .operand m s = .ok x u →
     u.translate .operand false (operandAddr x.ea.width x.ea.addr) = .ok pa → u.operandParity = false →
     (x.ea.width = .byte → s.installed pa.toNat 1 = true →
       ∃ v, operand m s = .ok (.byte (s.byte pa.toNat)) v ∧ onlyHalt s v) ∧
     (x.ea.width = .half → s.installed pa.toNat 2 = true →
       ∃ v, operand m s = .ok (.half (s.byte pa.toNat ++ s.byte (pa.toNat + 1))) v ∧ onlyHalt s v) ∧
     (x.ea.width = .word → s.installed pa.toNat 4 = true →
       ∃ v, operand m s = .ok (.word (s.peek pa.toNat .word)) v ∧ onlyHalt s v) ∧
     (x.ea.width = .dword → s.installed pa.toNat 8 = true →
       ∃ v, operand m s = .ok (.dword (s.peek pa.toNat .word ++ s.peek (pa.toNat + 4) .word)) v ∧ onlyHalt s v)) ∧
  (∀ (s u : State) (m : MemRef) (x : Target), s.between = [] → resolve .operand m s = .ok x u →
     let a := operandAddr x.ea.width x.ea.addr
     let n : Nat := if x.ea.width = .byte then 1 else if x.ea.width = .half then 2 else 4
     (∀ e, u.translate .operand false a = .error e → operand m s = .stop (.trap e) u) ∧
     (x.ea.width ≠ .dword →
       (∀ pa, u.translate .operand false a = .ok pa → s.installed pa.toNat n = false →
         operand m s = .stop (.trap (.nonpresent false)) u) ∧
       (∀ pa, u.translate .operand false a = .ok pa → s.installed pa.toNat n = true → u.operandParity = true →
         ∃ v, operand m s = .stop (.trap (.memoryParity false)) v ∧ v.operandParity = false)) ∧
     (x.ea.width = .dword → ∀ pa, u.translate .operand false a = .ok pa →
       (s.installed (pa.toNat + 4) 4 = false → operand m s = .stop (.trap (.nonpresent false)) u) ∧
       (s.installed (pa.toNat + 4) 4 = true → u.operandParity = true →
         ∃ v, operand m s = .stop (.trap (.memoryParity false)) v ∧ v.operandParity = false) ∧
       (s.installed (pa.toNat + 4) 4 = true → u.operandParity = false → s.installed pa.toNat 4 = false →
         ∃ v, operand m s = .stop (.trap (.nonpresent false)) v ∧ onlyHalt u v)))

/-- Other agents store between this CPU's accesses to memory: of their stores to a place the last one stays; an access
of this CPU sees what is stored before it, each of a doubleword's two reads its own, the least significant word first.
Nothing comes between the read and the write of SBM, ZBM and ABM.

That there is one order of all accesses, this CPU's in program order, is the spec's own decision D30 (R133 marks it),
that no other instruction locks its decision D32, the byte place of SBM, ZBM and ABM whatever F is its decision D40.
That the stores come as one list before each access is the model's choice (logs 17, 31), and that a store to memory
that is not installed is dropped too (log 42). That an aligned access is one transfer and a doubleword two, R130
derives (R90, LD, STD). -/
def Obligations.InterleavedStores : Prop :=
  (∀ (l : List (Addr × Byte)) (s : State), Memory.wf s.mem = true →
     storeAll l s = { s with mem := (storeAll l s).mem } ∧ Memory.wf (storeAll l s).mem = true ∧
     ∀ b, (storeAll l s).byte b = s.byteAfter l b) ∧
  (∀ (s : State) (k : Access) (a pa : Addr) (n : Size) (l : List (Addr × Byte)) (rest : List (List (Addr × Byte))),
     s.translate k false a = .ok pa → s.present pa n = true → s.operandParity = false → s.between = l :: rest →
     let u := storeAll l { s with between := rest }
     ∃ t, memRead k a n s = .ok (u.peek pa.toNat n) t ∧ onlyHalt u t) ∧
  (∀ (s : State) (k : Access) (a p q : Addr) (l l' : List (Addr × Byte)) (rest : List (List (Addr × Byte))),
     s.translate k false a = .ok p → s.translate k false (a + 4) = .ok q → s.present p .word = true →
     s.present q .word = true → s.operandParity = false → s.between = l :: l' :: rest →
     let u := storeAll l { s with between := l' :: rest }
     let v := storeAll l' { u with between := rest }
     ∃ t, readDword k a s = .ok (v.peek p.toNat .word ++ u.peek q.toNat .word) t ∧ onlyHalt v t) ∧
  (∀ (s : State) (b : BitVec 3) (m : MemRef) (pa : Addr) (l : List (Addr × Byte)) (rest : List (List (Addr × Byte))),
     (s.mode = .psd → s.blocked = true → s.bmtEn = true → s.blockCount < 128) → Memory.wf s.mem = true →
     s.operandParity = false → m.i = false → s.between = l :: rest →
     let u := storeAll l { s with between := rest }
     let a := (s.combine m).addr
     (storesTo s a .byte pa → ∀ p ∈ [(Instr.sbm b m, true), (.zbm b m, false)], ∃ t,
       exec p.1 s = .next t ∧ t.between = rest ∧ onlyMem u t ∧ Ended .word s t ∧ bytesBut pa.toNat 1 u t ∧
       (t.byte pa.toNat).getLsbD (7 - b.toNat) = p.2 ∧
       ∀ q, q ≠ 7 - b.toNat → (t.byte pa.toNat).getLsbD q = (u.byte pa.toNat).getLsbD q) ∧
     (storesTo s (wordAlign a) .word pa →
       let v := (u.peek pa.toNat .word).toInt + 2 ^ (31 - (8 * (a.toNat % 4) + b.toNat))
       (v < -2 ^ 31 ∨ 2 ^ 31 ≤ v → s.arithEnabled = false) → ∃ t,
       exec (.abm b m) s = .next t ∧ t.between = rest ∧ onlyMem u t ∧ Ended .word s t ∧
       t.peek pa.toNat .word = BitVec.ofInt 32 v ∧ bytesBut pa.toNat 4 u t))

/-! ### Loads and stores -/

/-- LB, LH, LW, LD: the operand, a byte zero-extended and a halfword sign-extended, with CC1 zero.

LMB, LMH, LMW, LMD: the same under the mask R4, both words of a doubleword under the R4 of before (LMD with R4 as a
destination: the spec's own decision D24).

LI, ZR, LCS, ES: a word that names no memory. The pair of an odd register is its decision D10; that LCS reads the
register CSW and not the word at CSW_ADDR is log 36. That there are sixteen control switches to load is conflict C12.
-/
def Obligations.Loads : Prop :=
  (∀ (s : State) (r : Reg) (m : MemRef) (o : Operand) (u : State), s.quiet →
     operand m (s.start .word) = .ok o u →
     ∀ i ∈ [Instr.lb r m, .lh r m, .lw r m, .ld r m], ∃ t,
       exec i s = .next t ∧ onlyRegs s t ∧ Ended .word s t ∧
       match o with
       | .byte v => wroteWord r (v.setWidth 32) false s t
       | .half v => wroteWord r (v.signExtend 32) false s t
       | .word v => wroteWord r v false s t
       | .dword v => wrotePair r v false s t) ∧
  (∀ (s : State) (r : Reg) (m : MemRef) (o : Operand) (u : State), s.quiet →
     operand m (s.start .word) = .ok o u →
     ∀ i ∈ [Instr.lmb r m, .lmh r m, .lmw r m, .lmd r m], ∃ t,
       exec i s = .next t ∧ onlyRegs s t ∧ Ended .word s t ∧
       match o with
       | .byte v => wroteWord r (v.setWidth 32 &&& s.reg 4) false s t
       | .half v => wroteWord r (v.signExtend 32 &&& s.reg 4) false s t
       | .word v => wroteWord r (v &&& s.reg 4) false s t
       | .dword v => wrotePair r (v &&& (s.reg 4 ++ s.reg 4)) false s t) ∧
  (∀ (s : State) (r : Reg) (v : Half), s.quiet →
     ∀ p ∈ [(Instr.li r v, Len.word, v.signExtend 32), (.zr r, .half, 0), (.lcs r, .half, s.csw ++ (0 : Half)),
         (.es r, .half, if 2 ^ 31 ≤ (s.reg (r + 1)).toNat then 0xFFFFFFFF else 0)], ∃ t,
       exec p.1 s = .next t ∧ onlyRegs s t ∧ Ended p.2.1 s t ∧ wroteWord r p.2.2 false s t)

/-- LNB, LNH, LNW, LND: zero less the operand; CC1 for the most negative word or doubleword alone, and then only where
the Arithmetic Exception is disabled does the instruction complete. The pair of an odd register is the spec's own
decision D10. -/
def Obligations.LoadsNegative : Prop :=
  ∀ (s : State) (r : Reg) (m : MemRef) (o : Operand) (u : State), s.quiet →
    operand m (s.start .word) = .ok o u →
    let c1 : Bool := match o with
      | .word v => decide (v = 0x80000000)
      | .dword v => decide (v = 0x8000000000000000)
      | _ => false
    (c1 = true → s.arithEnabled = false) →
    ∀ i ∈ [Instr.lnb r m, .lnh r m, .lnw r m, .lnd r m], ∃ t,
      exec i s = .next t ∧ onlyRegs s t ∧ Ended .word s t ∧
      match o with
      | .byte v => wroteWord r (BitVec.ofInt 32 (-(v.toNat : Int))) c1 s t
      | .half v => wroteWord r (BitVec.ofInt 32 (-v.toInt)) c1 s t
      | .word v => wroteWord r (BitVec.ofInt 32 (-v.toInt)) c1 s t
      | .dword v => wrotePair r (BitVec.ofInt 64 (-v.toInt)) c1 s t

/-- LEA, LA, LEAR: the address as each mode forms it; the condition codes and memory stay, the operand is not read.
The layout of LEAR's result is the spec's own decision D23, bits 0 and 1 of LEA's in PSD or extended mode its decision
D25. That the second form of the page is the indexed one is conflict C35, that LA is of PSD mode only conflict C36. -/
def Obligations.LoadsOfAddresses : Prop :=
  ∀ (s : State) (r : Reg) (m : MemRef) (x : Target) (u : State), s.quiet →
    resolve .operand m (s.start .word) = .ok x u →
    let field : Addr := if s.ext then x.ea.addr else (0 : BitVec 4) ++ BitVec.ofBool x.ea.f ++ bits x.ea.addr 5 19
    let last : Word := x.last.getD (encode (.lea r m))
    (∃ t, exec (.lea r m) s = .next t ∧ onlyRegs s t ∧ Ended .word s t ∧ t.cc = s.cc ∧ regsBut r s t ∧
      t.reg r = if s.mode = .psw ∧ s.ext = false then last + (if x.x = 0 then 0 else s.reg (x.x.setWidth 3))
        else bits last 0 2 ++ (0 : BitVec 6) ++ field) ∧
    (s.mode = .psd → ∃ t, exec (.la r m) s = .next t ∧ onlyRegs s t ∧ Ended .word s t ∧ t.cc = s.cc ∧
      regsBut r s t ∧ t.reg r = (0 : BitVec 8) ++ field) ∧
    (s.mode = .psd → s.priv = true → ∀ pa, u.translate .operand false x.ea.addr = .ok pa →
      ∃ t, exec (.lear r m) s = .next t ∧ onlyRegs s t ∧ Ended .word s t ∧ t.cc = s.cc ∧ regsBut r s t ∧
        t.reg r = (0 : BitVec 7) ++ BitVec.ofBool x.ea.f ++ pa)

/-- LF and STF: the registers from R to R7 and the words of one 32-byte block, the word number counted modulo 8
(the model's reading of an address that would leave the block: spec R243, decision D27). -/
def Obligations.Files : Prop :=
  ∀ (s : State) (r : Reg) (m : MemRef) (x : Target) (u : State), s.quiet → s.cfg.wf = true →
    resolve .operand m (s.start .word) = .ok x u →
    let block : Addr := BitVec.ofNat 24 (x.ea.addr.toNat / 32 * 32)
    let first : Nat := x.ea.addr.toNat / 4 % 8
    (∀ pa, u.translate .operand false block = .ok pa → s.installed pa.toNat 32 = true → s.operandParity = false →
      ∃ t, exec (.lf r m) s = .next t ∧ onlyRegs s t ∧ Ended .word s t ∧ t.cc = s.cc ∧
        (∀ q : Reg, q.toNat < r.toNat → t.reg q = s.reg q) ∧
        (∀ q : Reg, r.toNat ≤ q.toNat →
          t.reg q = s.peek (pa.toNat + 4 * ((first + (q.toNat - r.toNat)) % 8)) .word)) ∧
    (∀ pa, storesTo u block .word pa → s.installed pa.toNat 32 = true → Memory.wf s.mem = true →
      ∃ t, exec (.stf r m) s = .next t ∧ onlyMem s t ∧ Ended .word s t ∧ t.cc = s.cc ∧ Memory.wf t.mem = true ∧
        (∀ q : Reg, r.toNat ≤ q.toNat →
          t.peek (pa.toNat + 4 * ((first + (q.toNat - r.toNat)) % 8)) .word = s.reg q) ∧
        (∀ b, (∀ q : Reg, r.toNat ≤ q.toNat →
            b < pa.toNat + 4 * ((first + (q.toNat - r.toNat)) % 8) ∨
            pa.toNat + 4 * ((first + (q.toNat - r.toNat)) % 8) + 4 ≤ b) → t.byte b = s.byte b))

/-- The stores: the register or the pair, plain, under the mask, or zero; one place in memory changes and nothing else
but the pc. The pair of an odd register is the spec's own decision D10. That a doubleword ignores bit 29 of its
address is decision D14. -/
def Obligations.Stores : Prop :=
  ∀ (s : State) (r : Reg) (m : MemRef) (x : Target) (u : State) (pa : Addr), s.quiet → Memory.wf s.mem = true →
    resolve .operand m (s.start .word) = .ok x u →
    let w := x.ea.width
    let a := operandAddr w x.ea.addr
    (match w with
      | .byte => storesTo u a .byte pa
      | .half => storesTo u a .half pa
      | .word => storesTo u a .word pa
      | .dword => storesTo u a .word pa ∧ s.installed pa.toNat 8 = true) →
    let masked : Dword := (s.reg r &&& s.reg 4) ++ (s.reg (r + 1) &&& s.reg 4)
    ∀ p ∈ [(Instr.stb r m, s.reg r ++ s.reg (r + 1)), (.sth r m, s.reg r ++ s.reg (r + 1)),
        (.stw r m, s.reg r ++ s.reg (r + 1)), (.std r m, s.reg r ++ s.reg (r + 1)),
        (.stmb r m, masked), (.stmh r m, masked), (.stmw r m, masked), (.stmd r m, masked),
        (.zmb m, 0), (.zmh m, 0), (.zmw m, 0), (.zmd m, 0)], ∃ t,
      exec p.1 s = .next t ∧ onlyMem s t ∧ Ended .word s t ∧ t.cc = s.cc ∧ Memory.wf t.mem = true ∧
      match w with
      | .byte => t.byte pa.toNat = bits p.2 24 8 ∧ bytesBut pa.toNat 1 s t
      | .half => t.peek pa.toNat .half = (bits p.2 16 16).setWidth 32 ∧ bytesBut pa.toNat 2 s t
      | .word => t.peek pa.toNat .word = bits p.2 0 32 ∧ bytesBut pa.toNat 4 s t
      | .dword => t.peek pa.toNat .word = bits p.2 0 32 ∧ t.peek (pa.toNat + 4) .word = bits p.2 32 32 ∧
          bytesBut pa.toNat 8 s t

/-! ### Registers, arithmetic, logic -/

/-- The word operations between registers: the result, CC1 zero, CC2 to CC4 its sign.

XCR and XCRM: both registers take the other's value, masked in XCRM; the condition codes report on what was in the
first. That TRRM is 2C08 is conflict C21, the positive report of ORRM conflict C26; that both masks of XCRM use the R4
of before is derived (R292, R180). -/
def Obligations.RegisterWordOps : Prop :=
  (∀ (s : State) (rd rs : Reg), s.quiet →
     let a := s.reg rd
     let b := s.reg rs
     let k := s.reg 4
     ∀ p ∈ [(Instr.trr rd rs, b), (.trrm rd rs, b &&& k), (.trc rd rs, ~~~b), (.trcm rd rs, ~~~b &&& k),
         (.anr rd rs, b &&& a), (.orr rd rs, b ||| a), (.orrm rd rs, (b ||| a) &&& k),
         (.eor rd rs, b ^^^ a), (.eorm rd rs, (b ^^^ a) &&& k)], ∃ t,
       exec p.1 s = .next t ∧ onlyRegs s t ∧ Ended .half s t ∧ wroteWord rd p.2 false s t) ∧
  (∀ (s : State) (rd rs : Reg), s.quiet →
     ∀ p ∈ [(Instr.xcr rd rs, s.reg rd, s.reg rs), (.xcrm rd rs, s.reg rd &&& s.reg 4, s.reg rs &&& s.reg 4)], ∃ t,
       exec p.1 s = .next t ∧ onlyRegs s t ∧ Ended .half s t ∧
       t.reg rs = p.2.1 ∧ (rs ≠ rd → t.reg rd = p.2.2) ∧ (∀ q, q ≠ rd → q ≠ rs → t.reg q = s.reg q) ∧
       signCC false p.2.1 t.cc) ∧
  (∀ rd rs : Reg,
     let word (op : Half) : Word := (op ||| rd.setWidth 16 <<< 7 ||| rs.setWidth 16 <<< 4) ++ (0 : Half)
     (∀ p ∈ [(Instr.trr rd rs, (0x2C00 : Half)), (.trrm rd rs, 0x2C08), (.trc rd rs, 0x2C03), (.trcm rd rs, 0x2C0B),
         (.xcr rd rs, 0x2C05), (.xcrm rd rs, 0x2C0D), (.anr rd rs, 0x0400), (.orr rd rs, 0x0800),
         (.orrm rd rs, 0x0808), (.eorm rd rs, 0x0C08)], decode (word p.2) = .ok p.1) ∧
     decode (word 0x0C00) = .ok (if rd = rs then .zr rd else .eor rd rs))

/-- The fixed-point word operations on registers: the exact integer result wrapped to 32 bits and, in the masked
forms, masked; CC1 exactly when the integer is no signed 32-bit number, and then only where the Arithmetic Exception
is disabled does the instruction complete. That the arithmetic exception of the pages is signed overflow is derived
(R491); the pair whose low word RND reads is, for an odd register, decision D10. -/
def Obligations.FixedPointRegister : Prop :=
  ∀ (s : State) (rd rs : Reg) (v : Half) (b : BitVec 3) (y : BitVec 2), s.quiet →
    let d := (s.reg rd).toInt
    let r := (s.reg rs).toInt
    let all : Word := 0xFFFFFFFF
    let round : Int := if (s.reg (rd + 1)).toInt < 0 then 1 else 0
    ∀ p ∈ [(Instr.adr rd rs, Len.half, d + r, all), (.adrm rd rs, .half, d + r, s.reg 4),
        (.adi rd v, .word, d + v.toInt, all), (.sur rd rs, .half, d - r, all), (.surm rd rs, .half, d - r, s.reg 4),
        (.sui rd v, .word, d - v.toInt, all), (.trn rd rs, .half, -r, all), (.trnm rd rs, .half, -r, s.reg 4),
        (.abr b rd y, .half, d + 2 ^ (31 - (8 * y.toNat + b.toNat)), all), (.rnd rd, .half, d + round, all)],
      let c1 := decide (p.2.2.1 < -2 ^ 31 ∨ 2 ^ 31 ≤ p.2.2.1)
      (c1 = true → s.arithEnabled = false) → ∃ t,
        exec p.1 s = .next t ∧ onlyRegs s t ∧ Ended p.2.1 s t ∧
        wroteWord rd (BitVec.ofInt 32 p.2.2.1 &&& p.2.2.2) c1 s t

/-- ADMB to ADMD, SUMB to SUMD: the same with a memory operand, a doubleword on the pair. The pair of an odd register
is the spec's own decision D10. That the arithmetic exception of the pages is signed overflow is derived (R491). -/
def Obligations.FixedPointMemory : Prop :=
  ∀ (s : State) (r : Reg) (m : MemRef) (o : Operand) (u : State) (sub : Bool), s.quiet →
    operand m (s.start .word) = .ok o u →
    let sign : Int := if sub then -1 else 1
    let x : Int := match o with
      | .byte v => (s.reg r).toInt + sign * v.toNat
      | .half v => (s.reg r).toInt + sign * v.toInt
      | .word v => (s.reg r).toInt + sign * v.toInt
      | .dword v => (s.reg r ++ s.reg (r + 1)).toInt + sign * v.toInt
    let c1 : Bool := match o with
      | .dword _ => decide (x < -2 ^ 63 ∨ 2 ^ 63 ≤ x)
      | _ => decide (x < -2 ^ 31 ∨ 2 ^ 31 ≤ x)
    (c1 = true → s.arithEnabled = false) →
    ∀ i ∈ (if sub then [Instr.sumb r m, .sumh r m, .sumw r m, .sumd r m]
        else [.admb r m, .admh r m, .admw r m, .admd r m]), ∃ t,
      exec i s = .next t ∧ onlyRegs s t ∧ Ended .word s t ∧
      match o with
      | .dword _ => wrotePair r (BitVec.ofInt 64 x) c1 s t
      | _ => wroteWord r (BitVec.ofInt 32 x) c1 s t

/-- ARMB to ARMD: the sum goes to the place the operand came from. For a byte or a halfword CC1 to CC3 are undefined
in the spec and nothing is said of them.

ABM: one added at a bit of the addressed byte, on the whole word as a signed number. That nothing is said of those
three is U12 against decision D42 (log 6); that ABM's byte place does not depend on F is the spec's own decision D40,
the pair of an odd register its decision D10. That the arithmetic exception of the pages is signed overflow is derived
(R491); that a doubleword ignores bit 29 of its address is decision D14. -/
def Obligations.AddToMemory : Prop :=
  (∀ (s : State) (r : Reg) (m : MemRef) (x : Target) (u : State) (pa : Addr), s.quiet → Memory.wf s.mem = true →
     s.operandParity = false → resolve .operand m (s.start .word) = .ok x u →
     let w := x.ea.width
     let a := operandAddr w x.ea.addr
     ∀ i ∈ [Instr.armb r m, .armh r m, .armw r m, .armd r m],
       match w with
       | .byte => storesTo u a .byte pa →
         let v := (s.reg r).toNat + (s.byte pa.toNat).toNat
         ∃ t, exec i s = .next t ∧ onlyMem { s with freeCount := t.freeCount } t ∧ Ended .word s t ∧
           (t.byte pa.toNat).toNat = v % 256 ∧ bytesBut pa.toNat 1 s t ∧ (t.cc.cc4 = true ↔ v % 2 ^ 32 = 0)
       | .half => storesTo u a .half pa →
         let v := (s.reg r).toNat + (s.peek pa.toNat .half).toNat
         ∃ t, exec i s = .next t ∧ onlyMem { s with freeCount := t.freeCount } t ∧ Ended .word s t ∧
           (t.peek pa.toNat .half).toNat = v % 65536 ∧ bytesBut pa.toNat 2 s t ∧ (t.cc.cc4 = true ↔ v % 65536 = 0)
       | .word => storesTo u a .word pa →
         let v := (s.reg r).toInt + (s.peek pa.toNat .word).toInt
         let c1 := decide (v < -2 ^ 31 ∨ 2 ^ 31 ≤ v)
         (c1 = true → s.arithEnabled = false) →
         ∃ t, exec i s = .next t ∧ onlyMem s t ∧ Ended .word s t ∧ t.peek pa.toNat .word = BitVec.ofInt 32 v ∧
           bytesBut pa.toNat 4 s t ∧ signCC c1 (BitVec.ofInt 32 v) t.cc
       | .dword => storesTo u a .word pa → s.installed pa.toNat 8 = true →
         let v := (s.reg r ++ s.reg (r + 1)).toInt + (s.peek pa.toNat .word ++ s.peek (pa.toNat + 4) .word).toInt
         let c1 := decide (v < -2 ^ 63 ∨ 2 ^ 63 ≤ v)
         (c1 = true → s.arithEnabled = false) →
         ∃ t, exec i s = .next t ∧ onlyMem s t ∧ Ended .word s t ∧
           t.peek pa.toNat .word ++ t.peek (pa.toNat + 4) .word = BitVec.ofInt 64 v ∧
           bytesBut pa.toNat 8 s t ∧ signCC c1 (BitVec.ofInt 64 v) t.cc) ∧
  (∀ (s : State) (b : BitVec 3) (m : MemRef) (x : Target) (u : State) (pa : Addr), s.quiet →
     Memory.wf s.mem = true → s.operandParity = false → resolve .operand m (s.start .word) = .ok x u →
     storesTo u (wordAlign x.ea.addr) .word pa →
     let v := (s.peek pa.toNat .word).toInt + 2 ^ (31 - (8 * (x.ea.addr.toNat % 4) + b.toNat))
     let c1 := decide (v < -2 ^ 31 ∨ 2 ^ 31 ≤ v)
     (c1 = true → s.arithEnabled = false) → ∃ t,
       exec (.abm b m) s = .next t ∧ onlyMem s t ∧ Ended .word s t ∧ t.peek pa.toNat .word = BitVec.ofInt 32 v ∧
       bytesBut pa.toNat 4 s t ∧ Memory.wf t.mem = true ∧ signCC c1 (BitVec.ofInt 32 v) t.cc)

/-- CAMB to CAMD, CAR, CI: the true signed values compared; nothing but the condition codes changes.

CMMB to CMMD, CMR: CC4 when the masked exclusive OR is zero, CC1 to CC3 zero. The pair of an odd register is the
spec's own decision D10. -/
def Obligations.Compares : Prop :=
  ((∀ (s : State) (r : Reg) (m : MemRef) (o : Operand) (u : State), s.quiet →
     operand m (s.start .word) = .ok o u →
     ∀ i ∈ [Instr.camb r m, .camh r m, .camw r m, .camd r m], ∃ t,
       exec i s = .next t ∧ t = { s.endedAs t with cc := t.cc } ∧ Ended .word s t ∧
       match o with
       | .byte v => compareCC (s.reg r).toInt v.toNat t.cc
       | .half v => compareCC (s.reg r).toInt v.toInt t.cc
       | .word v => compareCC (s.reg r).toInt v.toInt t.cc
       | .dword v => compareCC (s.reg r ++ s.reg (r + 1)).toInt v.toInt t.cc) ∧
   (∀ (s : State) (rd rs : Reg) (v : Half), s.quiet →
     ∀ p ∈ [(Instr.car rd rs, Len.half, (s.reg rs).toInt), (.ci rd v, .word, v.toInt)], ∃ t,
       exec p.1 s = .next t ∧ t = { s.endedAs t with cc := t.cc } ∧ Ended p.2.1 s t ∧
       compareCC (s.reg rd).toInt p.2.2 t.cc)) ∧
  ((∀ (s : State) (r : Reg) (m : MemRef) (o : Operand) (u : State), s.quiet →
     operand m (s.start .word) = .ok o u →
     let k := s.reg 4
     let z : Bool := match o with
       | .byte v => decide ((s.reg r ^^^ v.setWidth 32) &&& k = 0)
       | .half v => decide ((s.reg r ^^^ v.signExtend 32) &&& k = 0)
       | .word v => decide ((s.reg r ^^^ v) &&& k = 0)
       | .dword v => decide ((s.reg r ^^^ bits v 0 32) &&& k = 0 ∧ (s.reg (r + 1) ^^^ bits v 32 32) &&& k = 0)
     ∀ i ∈ [Instr.cmmb r m, .cmmh r m, .cmmw r m, .cmmd r m], ∃ t,
       exec i s = .next t ∧ t = { s.endedAs t with cc := ⟨false, false, false, z⟩ } ∧ Ended .word s t) ∧
   (∀ (s : State) (rd rs : Reg), s.quiet → ∃ t,
     exec (.cmr rd rs) s = .next t ∧ Ended .half s t ∧
     t = { s.endedAs t with cc := ⟨false, false, false, decide ((s.reg rd ^^^ s.reg rs) &&& s.reg 4 = 0)⟩ }))

/-- ANMB to ANMD: a byte or a halfword is ANDed into its end of the register and reported on as an unsigned number, a
word or a doubleword as a signed one.

ORMB to ORMD and EOMB to EOMD: a byte or halfword operates on its end of the register, the rest unchanged; the
condition codes report on the whole register or pair. The pair of an odd register is the spec's own decision D10. -/
def Obligations.LogicalMemory : Prop :=
  (∀ (s : State) (r : Reg) (m : MemRef) (o : Operand) (u : State), s.quiet →
     operand m (s.start .word) = .ok o u →
     ∀ i ∈ [Instr.anmb r m, .anmh r m, .anmw r m, .anmd r m], ∃ t,
       exec i s = .next t ∧ onlyRegs s t ∧ Ended .word s t ∧
       match o with
       | .byte v => regsBut r s t ∧ t.reg r = s.reg r &&& ((0xFFFFFF : BitVec 24) ++ v : Word) ∧
           t.cc = ⟨false, !decide (v &&& bits (s.reg r) 24 8 = 0), false, decide (v &&& bits (s.reg r) 24 8 = 0)⟩
       | .half v => regsBut r s t ∧ t.reg r = s.reg r &&& ((0xFFFF : BitVec 16) ++ v : Word) ∧
           t.cc = ⟨false, !decide (v &&& bits (s.reg r) 16 16 = 0), false, decide (v &&& bits (s.reg r) 16 16 = 0)⟩
       | .word v => wroteWord r (v &&& s.reg r) false s t
       | .dword v => wrotePair r (v &&& (s.reg r ++ s.reg (r + 1))) false s t) ∧
  (∀ (s : State) (r : Reg) (m : MemRef) (o : Operand) (u : State), s.quiet →
     operand m (s.start .word) = .ok o u →
     (∀ i ∈ [Instr.ormb r m, .ormh r m, .ormw r m, .ormd r m], ∃ t,
       exec i s = .next t ∧ onlyRegs s t ∧ Ended .word s t ∧
       match o with
       | .byte v => wroteWord r (s.reg r ||| v.setWidth 32) false s t
       | .half v => wroteWord r (s.reg r ||| v.setWidth 32) false s t
       | .word v => wroteWord r (s.reg r ||| v) false s t
       | .dword v => wrotePair r ((s.reg r ++ s.reg (r + 1)) ||| v) false s t) ∧
     (∀ i ∈ [Instr.eomb r m, .eomh r m, .eomw r m, .eomd r m], ∃ t,
       exec i s = .next t ∧ onlyRegs s t ∧ Ended .word s t ∧
       match o with
       | .byte v => wroteWord r (s.reg r ^^^ v.setWidth 32) false s t
       | .half v => wroteWord r (s.reg r ^^^ v.setWidth 32) false s t
       | .word v => wroteWord r (s.reg r ^^^ v) false s t
       | .dword v => wrotePair r ((s.reg r ++ s.reg (r + 1)) ^^^ v) false s t))

/-! ### Shifts and bits -/

/-- The word shifts that report nothing, in numbers: logical, circular, right arithmetic; and their words. -/
def Obligations.Shifts : Prop :=
  ∀ (s : State) (r : Reg) (n : BitVec 5), s.quiet →
    let word (op : Half) : Word := (op ||| r.setWidth 16 <<< 7 ||| n.setWidth 16) ++ (0 : Half)
    let v := s.reg r
    let p := 2 ^ n.toNat
    ∀ x ∈ [(Instr.sll r n, (0x7040 : Half), v.toNat * p % 2 ^ 32), (.srl r n, 0x7000, v.toNat / p),
        (.slc r n, 0x7440, v.toNat * p % 2 ^ 32 + v.toNat / 2 ^ (32 - n.toNat)),
        (.src r n, 0x7400, v.toNat / p + v.toNat * 2 ^ (32 - n.toNat) % 2 ^ 32),
        (.sra r n, 0x6C00, ((v.toInt / (p : Int)) % 2 ^ 32).toNat)],
      decode (word x.2.1) = .ok x.1 ∧ ∃ t,
      exec x.1 s = .next t ∧ onlyRegs s t ∧ Ended .half s t ∧ t.cc = s.cc ∧ regsBut r s t ∧
      (t.reg r).toNat = x.2.2

/-- SLLD, SRLD, SRAD: the pair shifted as one number, nothing reported. SLA and SLAD: the sign stays, the other bits
shift; CC1 exactly when the number times the power of two is out of range, and then only where the Arithmetic
Exception is disabled does the instruction complete. The pair of an odd register is the spec's own decision D10. -/
def Obligations.ShiftsOfPairs : Prop :=
  ∀ (s : State) (r : Reg) (n : BitVec 5), s.quiet →
    (let d := s.reg r ++ s.reg (r + 1)
      let p := 2 ^ n.toNat
      ∀ x ∈ [(Instr.slld r n, d.toNat * p % 2 ^ 64), (.srld r n, d.toNat / p),
        (.srad r n, ((d.toInt / (p : Int)) % 2 ^ 64).toNat)], ∃ t,
      exec x.1 s = .next t ∧ onlyRegs s t ∧ Ended .half s t ∧ t.cc = s.cc ∧ regsButPair r s t ∧
      (t.reg r ++ t.reg (r + 1)).toNat = x.2) ∧
    (let v := s.reg r
      let x := v.toInt * 2 ^ n.toNat
      let c1 := decide (x < -2 ^ 31 ∨ 2 ^ 31 ≤ x)
      (c1 = true → s.arithEnabled = false) → ∃ t,
        exec (.sla r n) s = .next t ∧ onlyRegs s t ∧ Ended .half s t ∧ t.cc = ⟨c1, false, false, false⟩ ∧
        regsBut r s t ∧ (t.reg r).toNat = v.toNat / 2 ^ 31 * 2 ^ 31 + v.toNat * 2 ^ n.toNat % 2 ^ 31 ∧
        (c1 = false → (t.reg r).toInt = x)) ∧
    (let v := s.reg r ++ s.reg (r + 1)
      let x := v.toInt * 2 ^ n.toNat
      let c1 := decide (x < -2 ^ 63 ∨ 2 ^ 63 ≤ x)
      (c1 = true → s.arithEnabled = false) → ∃ t,
        exec (.slad r n) s = .next t ∧ onlyRegs s t ∧ Ended .half s t ∧ t.cc = ⟨c1, false, false, false⟩ ∧
        regsButPair r s t ∧
        (t.reg r ++ t.reg (r + 1)).toNat = v.toNat / 2 ^ 63 * 2 ^ 63 + v.toNat * 2 ^ n.toNat % 2 ^ 63 ∧
        (c1 = false → (t.reg r ++ t.reg (r + 1)).toInt = x))

/-- NOR and NORD: the number times the power of 16 that leaves bits 0 to 4 neither all zeros nor all ones, and 40
(hex) less the exponent of that power; zero for zero. The count is written last.

SCZ: the zeros before the first one bit, that bit shifted out; CC4 for a register of zeros. Where a negative number
stops is the spec's own decision D38; the pair of an odd register its decision D10. That bits 6 to 8 name the register
shifted and bits 9 to 11 the one that gets the count is conflict C27. -/
def Obligations.Normalizes : Prop :=
  (∀ (s : State) (r rc : Reg), s.quiet →
     (∃ t x k, exec (.nor r rc) s = .next t ∧ onlyRegs s t ∧ Ended .half s t ∧ t.cc = s.cc ∧
       (∀ q, q ≠ r → q ≠ rc → t.reg q = s.reg q) ∧ (r ≠ rc → t.reg r = x) ∧
       if s.reg r = 0 then x = 0 ∧ t.reg rc = 0
       else k ≤ 7 ∧ x.toInt = (s.reg r).toInt * 16 ^ k ∧ ¬(-2 ^ 27 ≤ x.toInt ∧ x.toInt < 2 ^ 27) ∧
         (t.reg rc).toNat = 0x40 - k) ∧
     (∃ t x k, exec (.nord r rc) s = .next t ∧ onlyRegs s t ∧ Ended .half s t ∧ t.cc = s.cc ∧
       (∀ q, q ≠ r → q ≠ r + 1 → q ≠ rc → t.reg q = s.reg q) ∧
       (r ≠ rc → t.reg r = bits x 0 32) ∧ (r + 1 ≠ rc → t.reg (r + 1) = bits x 32 32) ∧
       if s.reg r = 0 ∧ s.reg (r + 1) = 0 then x = (0 : Dword) ∧ t.reg rc = 0
       else k ≤ 15 ∧ x.toInt = (s.reg r ++ s.reg (r + 1)).toInt * 16 ^ k ∧
         ¬(-2 ^ 59 ≤ x.toInt ∧ x.toInt < 2 ^ 59) ∧ (t.reg rc).toNat = 0x40 - k)) ∧
  (∀ (s : State) (r rc : Reg), s.quiet →
     ∃ t x c, exec (.scz r rc) s = .next t ∧ onlyRegs s t ∧ Ended .half s t ∧
       (∀ q, q ≠ r → q ≠ rc → t.reg q = s.reg q) ∧ (r ≠ rc → (t.reg r).toNat = x) ∧ (t.reg rc).toNat = c ∧
       t.cc = ⟨false, false, false, decide (s.reg r = 0)⟩ ∧
       if s.reg r = 0 then x = 0 ∧ c = 0
       else c ≤ 31 ∧ 2 ^ (31 - c) ≤ (s.reg r).toNat ∧ (s.reg r).toNat < 2 ^ (32 - c) ∧
         x = (s.reg r).toNat * 2 ^ (c + 1) % 2 ^ 32)

/-- SBR, ZBR, TBR: bit `8y + b` of the register goes to CC1, CC1 to CC3 move to CC2 to CC4, and the bit alone
becomes one, zero, or stays. The words are those of the operation codes 1800, 1C00, 2400 (hex). -/
def Obligations.RegisterBits : Prop :=
  ∀ (s : State) (r : Reg) (b : BitVec 3) (y : BitVec 2), s.quiet →
    let word (op : Half) : Word := (op ||| b.setWidth 16 <<< 7 ||| r.setWidth 16 <<< 4 ||| y.setWidth 16) ++ (0 : Half)
    let j := 31 - (8 * y.toNat + b.toNat)
    let cc : CC := ⟨(s.reg r).getLsbD j, s.cc.cc1, s.cc.cc2, s.cc.cc3⟩
    ∀ p ∈ [(Instr.sbr b r y, (0x1800 : Half), true), (.zbr b r y, 0x1C00, false), (.tbr b r y, 0x2400, (s.reg r).getLsbD j)],
      decode (word p.2.1) = .ok p.1 ∧ ∃ t,
      exec p.1 s = .next t ∧ onlyRegs s t ∧ Ended .half s t ∧ t.cc = cc ∧ regsBut r s t ∧
      (t.reg r).getLsbD j = p.2.2 ∧ ∀ q, q ≠ j → (t.reg r).getLsbD q = (s.reg r).getLsbD q

/-- SBM, ZBM, TBM: the same on a bit of a byte in memory; one byte at most changes, whatever F is. That F does not
matter is the spec's own decision D40. -/
def Obligations.MemoryBits : Prop :=
  ∀ (s : State) (b : BitVec 3) (m : MemRef) (x : Target) (u : State) (pa : Addr), s.quiet →
    Memory.wf s.mem = true → s.operandParity = false → resolve .operand m (s.start .word) = .ok x u →
    let old := s.byte pa.toNat
    let j := 7 - b.toNat
    let cc : CC := ⟨old.getLsbD j, s.cc.cc1, s.cc.cc2, s.cc.cc3⟩
    (storesTo u x.ea.addr .byte pa → ∀ p ∈ [(Instr.sbm b m, true), (.zbm b m, false)], ∃ t,
      exec p.1 s = .next t ∧ onlyMem s t ∧ Ended .word s t ∧ t.cc = cc ∧ bytesBut pa.toNat 1 s t ∧
      Memory.wf t.mem = true ∧
      (t.byte pa.toNat).getLsbD j = p.2 ∧ ∀ q, q ≠ j → (t.byte pa.toNat).getLsbD q = old.getLsbD q) ∧
    (u.translate .operand false x.ea.addr = .ok pa → s.present pa .byte = true → ∃ t,
      exec (.tbm b m) s = .next t ∧ Ended .word s t ∧ t = { s.endedAs t with cc := cc })

/-! ### Multiply, divide, floating point -/

/-- The multiplications: the signed product of the operand and R+1 in the pair of R.

The divisions: a quotient that fits 32 bits goes to R+1 and the remainder, of the dividend's sign, to R; else CC1, and
no register changes. That an overflow and a zero divisor set CC1 and change no register is the spec's own decision D41
(its note U14; log 30), the word read for a doubleword operand of MPMx and DVMx its decision D43. The pair of an odd
register is its decision D10. That CC2 to CC4 of a division without a result report on the unchanged R+1 is D41 too.
-/
def Obligations.MultipliesAndDivides : Prop :=
  ((∀ (s : State) (r : Reg) (m : MemRef) (v : Word) (u : State), s.quiet →
     operandNoDword m (s.start .word) = .ok v u →
     ∀ i ∈ [Instr.mpmb r m, .mpmh r m, .mpmw r m], ∃ t, exec i s = .next t ∧ onlyRegs s t ∧ Ended .word s t ∧
       wrotePair r (BitVec.ofInt 64 (v.toInt * (s.reg (r + 1)).toInt)) false s t) ∧
   (∀ (s : State) (rd rs : Reg) (v : Half), s.quiet →
     ∀ p ∈ [(Instr.mpr rd rs, Len.half, (s.reg rs).toInt), (.mpi rd v, .word, v.toInt)], ∃ t,
       exec p.1 s = .next t ∧ onlyRegs s t ∧ Ended p.2.1 s t ∧
       wrotePair rd (BitVec.ofInt 64 (p.2.2 * (s.reg (rd + 1)).toInt)) false s t) ∧
   (∀ a b : Word, (BitVec.ofInt 64 (a.toInt * b.toInt)).toInt = a.toInt * b.toInt)) ∧
  (∀ (s : State) (r rs : Reg) (m : MemRef) (h : Half) (w : Word), s.quiet →
     ∀ p ∈ [(Instr.dvmb r m, Len.word, w), (.dvmh r m, .word, w), (.dvmw r m, .word, w),
         (.dvr r rs, .half, s.reg rs), (.dvi r h, .word, h.signExtend 32)],
       (p.1 ∈ [Instr.dvmb r m, .dvmh r m, .dvmw r m] → ∃ u, operandNoDword m (s.start .word) = .ok w u) →
       let d := (s.reg r ++ s.reg (r + 1)).toInt
       let v := p.2.2.toInt
       ((v ≠ 0 → ∀ q e : Int, d = v * q + e → e.natAbs < v.natAbs → (0 < d → 0 ≤ e) → (d < 0 → e ≤ 0) →
           -2 ^ 31 ≤ q → q < 2 ^ 31 → ∃ t,
         exec p.1 s = .next t ∧ onlyRegs s t ∧ Ended p.2.1 s t ∧ regsButPair r s t ∧
         t.reg r = BitVec.ofInt 32 e ∧ t.reg (r + 1) = BitVec.ofInt 32 q ∧
         signCC false (BitVec.ofInt 32 q) t.cc) ∧
       ((v = 0 ∨ d.natAbs / v.natAbs ≥ 2 ^ 31 ∧ d.tdiv v ≠ -2 ^ 31) → s.arithEnabled = false → ∃ t,
         exec p.1 s = .next t ∧ onlyRegs s t ∧ Ended p.2.1 s t ∧ t.regs = s.regs ∧
         signCC true (s.reg (r + 1)) t.cc)))

/-- The floating-point instructions put the result of their operation on the decoded numbers in the register or pair,
none on overflow, underflow or division by zero; the width is C bit 30's of the final address, whatever the mnemonic.
That no register changes on overflow, underflow or division by zero is the spec's own decision D45 (its note U13; log
30), the address and the width its decision D46. The pair of an odd register is its decision D10. The number format
and the table of condition codes, which `fDecode` and the operations follow, are rebuilt from damaged text (N34, N35),
the algorithm decision D44. -/
def Obligations.FloatInstructions : Prop :=
  ∀ (s : State) (r : Reg) (m : MemRef) (o : Operand) (u : State), s.quiet →
    floatOperand m (s.start .word) = .ok o u →
    ∀ p ∈ [(Instr.adfw r m, 0), (.adfd r m, 0), (.sufw r m, 1), (.sufd r m, 1), (.mpfw r m, 2), (.mpfd r m, 2),
        (.dvfw r m, 3), (.dvfd r m, 3)],
      let f {n : Nat} (a b : FNum) : FResult n :=
        if p.2 = 0 then fAdd a b else if p.2 = 1 then fAdd a { b with neg := !b.neg }
        else if p.2 = 2 then fMul a b else fDiv a b
      match o with
      | .word v =>
        let x : FResult 32 := f (fDecode (s.reg r)) (fDecode v)
        (x.2.cc1 = true → s.arithEnabled = false) → ∃ t,
          exec p.1 s = .next t ∧ onlyRegs s t ∧ Ended .word s t ∧ t.cc = x.2 ∧ regsBut r s t ∧
          t.reg r = x.1.getD (s.reg r)
      | .dword v =>
        let x : FResult 64 := f (fDecode (s.reg r ++ s.reg (r + 1))) (fDecode v)
        (x.2.cc1 = true → s.arithEnabled = false) → ∃ t,
          exec p.1 s = .next t ∧ onlyRegs s t ∧ Ended .word s t ∧ t.cc = x.2 ∧ regsButPair r s t ∧
          t.reg r ++ t.reg (r + 1) = x.1.getD (s.reg r ++ s.reg (r + 1))
      | _ => False

/-- A pattern that a floating-point operation leaves: normalized, of the sign and in the range of exponents that the
condition codes report; what has no pattern is an overflow or an underflow.

A normalized number is its own sum with zero, product with one and quotient by one; subtracted from itself it is zero;
and encoding it decodes to it.

The product and the quotient of two normalized numbers are the exact ones, cut to 7 digits and rounded to 6 (words) or
cut to 14 digits (doublewords); the sum is that of the larger and of the other one shifted to its exponent, with the
digits beyond the guard digit lost. The guard digit, the rounding and truncation on magnitudes and a zero fraction as
zero are the spec's own decision D44; that a zero divisor leaves no result is its decision D45 (U13; log 30). The
number format is rebuilt from the prose (N34), the table of condition codes from a flattened one (N35). -/
def Obligations.FloatResults : Prop :=
  (∀ (n : Nat) (neg : Bool) (e : Int) (g : Nat), n = 32 ∨ n = 64 → 0 < g → g < 2 ^ (n + 40) →
     (∀ w c, fFinish n neg e g = (some w, c) →
       c = ⟨false, !neg, neg, false⟩ ∧ (fDecode w).neg = neg ∧ -64 ≤ (fDecode w).exp ∧ (fDecode w).exp ≤ 63 ∧
       2 ^ (n - 12) ≤ (fDecode w).frac ∧ (fDecode w).frac < 2 ^ (n - 8)) ∧
     (∀ c, fFinish n neg e g = (none, c) → c.cc1 = true ∧ c.cc2 = !neg ∧ c.cc3 = neg)) ∧
  (∀ (n : Nat) (x : FNum), n = 32 ∨ n = 64 → -64 ≤ x.exp → x.exp ≤ 63 → 2 ^ (n - 12) ≤ x.frac → x.frac < 2 ^ (n - 8) →
     let one : FNum := ⟨false, 1, 2 ^ (n - 12)⟩
     let same : FResult n := (some (fEncode n x), ⟨false, !x.neg, x.neg, false⟩)
     fDecode (fEncode n x) = x ∧
     fAdd x (fDecode (0 : BitVec n)) = same ∧
     fAdd (fDecode (0 : BitVec n)) x = same ∧
     fMul x one = same ∧
     fDiv x one = same ∧
     fSub x x = ((some 0, ⟨false, false, false, true⟩) : FResult n) ∧
     fDiv x (fDecode (0 : BitVec n)) = ((none, ⟨true, false, false, false⟩) : FResult n)) ∧
  (∀ (n : Nat) (x y : FNum), n = 32 ∨ n = 64 → -64 ≤ x.exp → x.exp ≤ 63 → -64 ≤ y.exp → y.exp ≤ 63 →
     2 ^ (n - 12) ≤ x.frac → x.frac < 2 ^ (n - 8) → 2 ^ (n - 12) ≤ y.frac → y.frac < 2 ^ (n - 8) →
     let unit := if n = 32 then 16 else 1
     let limit := if n = 32 then 6 else 13
     let d := (x.exp - y.exp).toNat
     let shifted : Nat := if limit < d then 0 else y.frac * unit / 16 ^ d
     let sum : Int := (if x.neg then -1 else 1) * ((x.frac * unit : Nat) : Int) + (if y.neg then -1 else 1) * (shifted : Int)
     FloatRounded n (x.neg != y.neg) (x.exp + y.exp) (x.frac * y.frac) (2 ^ (n - 8)) (fMul x y) ∧
     FloatRounded n (x.neg != y.neg) (x.exp - y.exp) (x.frac * 2 ^ (n - 8)) y.frac (fDiv x y) ∧
     (y.exp ≤ x.exp → sum ≠ 0 → FloatRounded n (decide (sum < 0)) x.exp sum.natAbs unit (fAdd x y)) ∧
     (y.exp ≤ x.exp → sum = 0 → fAdd x y = ((some 0, ⟨false, false, false, true⟩) : FResult n)) ∧
     (fAdd x y : FResult n) = fAdd y x)

/-! ### Branches -/

/-- BU, BCT, BCF, BFT, BL: a branch taken goes to bits 13-30 of the effective address, with bits 1-4 of the last
indirect word where there is one; one not taken changes nothing and follows no chain. BL links PSD1. That a branch not
taken follows no chain is the spec's own decision D37; the link's HIST and zeros are read from the stored PSD (log
10). That the display bits are not in the link is decision D11. That condition 7 of BCT and BCF counts CC3 in is the
spec's reading (R343, conflict C24: BCT's entry is printed without it); which bit of R4 BFT tests is recovered from
one example (R345, N33); that a BFT coded indirect takes bits 1-4 and 13-30 of the last word, as every branch does, is
conflict C25. -/
def Obligations.Branches : Prop :=
  ∀ (s : State) (m : MemRef), s.quiet →
    let c := s.cc
    let index := 8 * c.cc1.toNat + 4 * c.cc2.toNat + 2 * c.cc3.toNat + c.cc4.toNat
    let conds : List (BitVec 3 × Bool) := [(1, c.cc1), (2, c.cc2), (3, c.cc3), (4, c.cc4), (5, c.cc2 || c.cc4),
      (6, c.cc3 || c.cc4), (7, c.cc1 || c.cc2 || c.cc3 || c.cc4)]
    let cases : List (Instr × Bool) := [(.bu m, true), (.bft m, (s.reg 4).getLsbD (15 - index))] ++
      conds.map (fun d => (.bct d.1 m, d.2)) ++ conds.map (fun d => (.bcf d.1 m, !d.2))
    (∀ p ∈ cases, p.2 = false → ∃ t, exec p.1 s = .next t ∧ Ended .word s t ∧ t = s.endedAs t) ∧
    (∀ (x : Target) (u : State), resolve .branch m (s.start .word) = .ok x u →
      let target : HAddr := BitVec.ofNat 18 (x.ea.addr.toNat / 2)
      let cc : CC := match x.last with
        | none => c
        | some w => ⟨bitAt w 1, bitAt w 2, bitAt w 3, bitAt w 4⟩
      (∀ p ∈ cases, p.2 = true → ∃ t, exec p.1 s = .next t ∧ Turned .word target s t ∧
        t = { s.endedAs t with cc := cc }) ∧
      (∃ t, exec (.bl m) s = .next t ∧ Turned .word target s t ∧
        t = { s.endedAs t with cc := cc, regs := t.regs } ∧ regsBut 0 s t ∧
        t.reg 0 = BitVec.ofBool s.priv ++ BitVec.ofBool c.cc1 ++ BitVec.ofBool c.cc2 ++ BitVec.ofBool c.cc3 ++
          BitVec.ofBool c.cc4 ++ BitVec.ofBool s.ext ++ BitVec.ofBool s.hist ++ BitVec.ofBool s.aexp ++
          (0 : BitVec 5) ++ (s.pc + 2) ++ (0 : BitVec 1)))

/-- BIB, BIH, BIW, BID: the register goes up by 1, 2, 4 or 8 and the branch is taken unless it is then zero.

No halt of the panel falls between a BIx and the next instruction (R845): the RUN/HALT key then only asks for the
halt, where after another instruction it halts at once; and a halt asked for, by the key, a stop or a step, takes
effect at the end of an instruction that is no BIx. The address stops (R842): an instruction fetched from the compare
address asks for the halt that lights the STOP indicator, and so does an operand read or stored there.

Where the words are the model's: what the displays show at each of these halts is log 46 (DEDUCED; R841 and R842 say
it of a step and of a stop alone), that a key that sets the CPU going puts the STOP indicator out is log 47, the
address compared log 25, the register increased before the branch address is formed log 14, a trap or an interrupt
entered after a BIx not yet the next instruction log 48; that the matching instruction completes is the spec's own
decision D75. A BIx that traps while forming its address, of which nothing is said here, holds off no halt (logs 14,
48). -/
def Obligations.BranchesIncrementing : Prop :=
  (∀ (s : State) (r : Reg) (i : Bool) (a : BitVec 20), s.quiet →
    ∀ p ∈ [(Instr.bib r i a, 1), (.bih r i a, 2), (.biw r i a, 4), (.bid r i a, 8)],
      let v : Word := s.reg r + p.2
      (v = 0 → ∃ t, exec p.1 s = .next t ∧ onlyRegs s t ∧ t.cc = s.cc ∧ t.reg r = 0 ∧ regsBut r s t ∧
        t.pc = s.pc + 2 ∧ t.lastBix = true) ∧
      (v ≠ 0 → ∀ (x : Target) (u : State), resolve .branch ⟨0, i, a⟩ ((s.start .word).setReg r v) = .ok x u →
        ∃ t, exec p.1 s = .next t ∧ onlyRegs s t ∧ t.reg r = v ∧ regsBut r s t ∧
          t.pc = BitVec.ofNat 18 (x.ea.addr.toNat / 2) ∧ t.lastBix = true ∧
          t.cc = match x.last with
            | none => s.cc
            | some w => ⟨bitAt w 1, bitAt w 2, bitAt w 3, bitAt w 4⟩)) ∧
  (∀ s : State, s.run = .run → s.panel.locked = false → s.inputs = [[.key .runHalt]] →
    (s.lastBix = true → s.haltReq ≠ .stop → step s = step { s with inputs := [], haltReq := .key }) ∧
    (s.lastBix = true → s.haltReq = .stop → step s = step { s with inputs := [] }) ∧
    (s.lastBix = false → ∃ t, step s = .next t ∧ ShowsHalt s t ∧
      t = { s with inputs := [], run := .halt, haltReq := .none, panel := t.panel })) ∧
  (∀ (s : State) (k : PanelKey), s.run = .halt → s.panel.locked = false → s.inputs = [[.key k]] →
    let go (h : HaltReq) : State :=
      { s with inputs := [], run := .run, haltReq := h, panel := { s.panel with stopLight := false } }
    (k = .instrStep → step s = step (go .key)) ∧ (k = .runHalt → step s = step (go .none))) ∧
  (∀ s t : State, s.inputs = [] → s.run = .run → s.sensed = none → s.haltReq ≠ .none → step s = .next t →
    if t.lastBix then t.haltReq ≠ .none ∧ (s.haltReq = .stop → t.haltReq = .stop)
    else t.run = .halt ∧ t.haltReq = .none ∧ t.panel.aDisplay = t.displayPsd1 ∧
      (s.haltReq = .stop → t.panel.stopLight = true)) ∧
  (∀ (s t : State) (pa : Addr), s.inputs = [] → s.run = .run → s.sensed = none →
    s.translate .fetch false (fetchAddr s.pc) = .ok pa → s.present pa .word = true → s.fetchParity = false →
    s.stops.instr = true → s.stops.addr.toNat / 2 = s.pc.toNat → step s = .next t →
    if t.lastBix then t.haltReq = .stop
    else t.run = .halt ∧ t.haltReq = .none ∧ t.panel.stopLight = true) ∧
  (∀ (s t : State) (a pa : Addr) (n : Size) (v : Word), s.translate .operand true a = .ok pa →
    let touched : Prop := pa.toNat ≤ s.stops.addr.toNat ∧ s.stops.addr.toNat < pa.toNat + n.bytes
    memWrite a n v s = .ok () t →
      (s.stops.write = true ∧ touched → t.haltReq = .stop) ∧
      (¬(s.stops.write = true ∧ touched) → t.haltReq = s.haltReq)) ∧
  (∀ (s t : State) (k : Access) (a pa : Addr) (n : Size) (v : Word), s.translate k false a = .ok pa →
    let touched : Prop := pa.toNat ≤ s.stops.addr.toNat ∧ s.stops.addr.toNat < pa.toNat + n.bytes
    memRead k a n s = .ok v t →
      (s.stops.read = true ∧ touched → t.haltReq = .stop) ∧
      (¬(s.stops.read = true ∧ touched) → t.haltReq = s.haltReq))

/-! ### Special registers, MAP, WCS -/

/-- The transfers between general and special registers: scratchpad, protect registers, the PSW fields, EXT. That TRP
and TPR are halfword instructions, the pc going up by 2, is log 24 (DEDUCED, against the printed examples); that TRP
is privileged and TPR is not is the spec's own decision D28. The fields of TRP and TPR are recovered from the text and
their examples (N31), and that TPR clears bits 0-15 is derived from its example (R286); that TRSC writes every cell
alike is the spec's treatment of cells of which the manual says nothing (U8). -/
def Obligations.SpecialTransfers : Prop :=
  ∀ (s : State) (rd rs : Reg) (p : BitVec 4), s.quiet →
    (s.priv = true → ∃ t, exec (.tscr rd rs) s = .next t ∧ onlyRegs s t ∧ Ended .half s t ∧ t.cc = s.cc ∧
      regsBut rd s t ∧ t.reg rd = s.cell (bits (s.reg rs) 8 8)) ∧
    (s.priv = true → ∃ t, exec (.trsc rd rs) s = .next t ∧ Ended .half s t ∧
      t = { s.endedAs t with scratch := t.scratch } ∧ t.cell (bits (s.reg rd) 8 8) = s.reg rs ∧
      ∀ c, c ≠ bits (s.reg rd) 8 8 → t.cell c = s.cell c) ∧
    (s.priv = true → ∃ t, exec (.trp p rs) s = .next t ∧ Ended .half s t ∧
      t = { s.endedAs t with prot := t.prot } ∧ t.protReg p = bits (s.reg rs) 16 16 ∧
      ∀ q, q ≠ p → t.protReg q = s.protReg q) ∧
    (∃ t, exec (.tpr p rs) s = .next t ∧ onlyRegs s t ∧ Ended .half s t ∧ t.cc = s.cc ∧ regsBut rs s t ∧
      t.reg rs = (0 : Half) ++ s.protReg p) ∧
    (∃ t, exec (.trsw rs) s = .next t ∧ Turned .half (bits (s.reg rs) 13 18) s t ∧
      t = { s.endedAs t with cc := ⟨bitAt (s.reg rs) 1, bitAt (s.reg rs) 2, bitAt (s.reg rs) 3, bitAt (s.reg rs) 4⟩ }) ∧
    (∃ t, exec .sea s = .next t ∧ Ended .half s t ∧ t = { s.endedAs t with ext := true }) ∧
    (∃ t, exec .cea s = .next t ∧ Ended .half s t ∧ t = { s.endedAs t with ext := false })

/-- Loading the MAP: the page entries of the segments one after the other, from MAP register 0 up, at most 32; the
registers beyond them keep their contents and nothing else changes.

LMAP and TMAPR, unmapped: the MAP of the PSD a register addresses; a pair of MAP registers.

The descriptors' layouts and the registers not reached are the spec's own decision D19, the offsets D17, LMAP of a
PSD2 that says unmapped D34, the halves of TMAPR's result D35; that an SDC of zero loads nothing is log 28. That LMAP
is a halfword instruction, the pc going up by 2, is conflict C23 (R312, against the page's note 6); the MAP entry and
the index fields are conflicts C4 and C5, the descriptors' figures lost (N52), which bits of R_S name TMAPR's pair
read from one sentence (N32). -/
def Obligations.MapLoading : Prop :=
  (∀ (err : MemErr → Trap) (psd2 : Word) (s u : State) (n : Nat), s.between = [] → loadMap err psd2 s = .ok n u →
     u = { s with mapRegs := u.mapRegs } ∧ n = (mapPages psd2 s).length ∧ n ≤ 32 ∧
     (∀ (k : BitVec 5) (a : Addr), (mapPages psd2 s)[k.toNat]? = some a →
       (u.mapReg k).setWidth 32 = s.peek a.toNat .half) ∧
     (∀ k : BitVec 5, n ≤ k.toNat → u.mapReg k = s.mapReg k)) ∧
  (∀ (s : State) (rd rs : Reg), s.quiet → s.mode = .psd → s.priv = true → s.mapActive = false →
     (∀ (n : Nat) (u : State), let pa := addrOf (s.reg rd) + 4
       s.present pa .word = true → s.operandParity = false →
       loadMap (switchErr false) (s.peek pa.toNat .word) (s.start .half) = .ok n u →
       ∃ t, exec (.lmap rd) s = .next t ∧ Ended .half s t ∧ t = { s.endedAs t with mapRegs := u.mapRegs }) ∧
     (∃ t, exec (.tmapr rd rs) s = .next t ∧ onlyRegs s t ∧ Ended .half s t ∧ t.cc = s.cc ∧ regsBut rd s t ∧
       let k := (s.reg rs).toNat / 2 % 16
       t.reg rd = s.mapReg (BitVec.ofNat 5 (2 * k)) ++ s.mapReg (BitVec.ofNat 5 (2 * k + 1))))

/-- Translation through the map of another PSD: its own MAP is as it was after it.

LEM, CEMA, SEM: the operand at the external address, of the width of bits 7 and 30-31 of R_Z; CC1 stays. The layout of
CEMA's result is the spec's own decision D23, the sign extension of LEM's halfword its decision D26; that the MAP
registers are as before afterwards is the model's reading (log 22). The widths of the MAP entry and of the offsets are
its decision D17. The pair of an odd R_D in LEM and SEM is its decision D10; that only MAP MODE zero is the
granularity of zero is conflict C6; that PROTECT is not tested R244 derives; the layout of the descriptors that the
map is read through is decision D19. -/
def Obligations.ExternalAccesses : Prop :=
  (∀ (s u : State) (psd : Addr) (la : BitVec 20) (n : Nat),
     let psd2 := s.peek (psd + 4).toNat .word
     s.between = [] → s.present (psd + 4) .word = true → s.operandParity = false →
     (bitAt psd2 0 = false → bitAt psd2 1 = false → extTranslate psd la s = .stop (.trap .mapFault) s) ∧
     ((bitAt psd2 0 = true ∨ bitAt psd2 1 = true) → loadMap (switchErr false) psd2 s = .ok n u →
       let page := la.toNat / 32768
       let e := u.mapReg (BitVec.ofNat 5 page)
       (n ≤ page → extTranslate psd la s = .stop (.trap (.systemCheck (statBit 16))) s) ∧
       (page < n → e.toNat < 2 ^ 15 → extTranslate psd la s = .stop (.trap .mapFault) s) ∧
       (page < n → 2 ^ 15 ≤ e.toNat →
         extTranslate psd la s = .ok (BitVec.ofNat 24 (e.toNat % 512 * 32768 + la.toNat % 32768)) s))) ∧
  (∀ (s : State) (rd rs rz : Reg) (pa : Addr) (u : State), s.quiet → s.mode = .psd → s.priv = true →
     extTranslate (addrOf (s.reg rs)) (bits (s.reg rz) 12 20) (s.start .word) = .ok pa u →
     let z := s.reg rz
     let w : Width := if bitAt z 7 then .byte else if z.toNat % 2 = 1 then .half
       else if z.toNat % 4 = 2 then .dword else .word
     let a := (operandAddr w pa).toNat
     let n : Nat := match w with
       | .byte => 1
       | .half => 2
       | .word => 4
       | .dword => 8
     (∃ t, exec (.cema rd rs rz) s = .next t ∧ onlyRegs s t ∧ Ended .word s t ∧ t.cc = s.cc ∧ regsBut rd s t ∧
       t.reg rd = (0 : BitVec 7) ++ BitVec.ofBool (bitAt z 7) ++ pa) ∧
     (s.installed a n = true → s.operandParity = false → ∃ t, exec (.lem rd rs rz) s = .next t ∧ onlyRegs s t ∧
       Ended .word s t ∧
       match w with
       | .byte => wroteWord rd ((s.byte a).setWidth 32) s.cc.cc1 s t
       | .half => wroteWord rd ((s.byte a ++ s.byte (a + 1)).signExtend 32) s.cc.cc1 s t
       | .word => wroteWord rd (s.peek a .word) s.cc.cc1 s t
       | .dword => wrotePair rd (s.peek a .word ++ s.peek (a + 4) .word) s.cc.cc1 s t) ∧
     (s.installed a n = true → Memory.wf s.mem = true → ∃ t, exec (.sem rd rs rz) s = .next t ∧ onlyMem s t ∧
       Ended .word s t ∧ t.cc = s.cc ∧ Memory.wf t.mem = true ∧
       match w with
       | .byte => t.byte a = bits (s.reg rd) 24 8 ∧ bytesBut a 1 s t
       | .half => t.peek a .half = (bits (s.reg rd) 16 16).setWidth 32 ∧ bytesBut a 2 s t
       | .word => t.peek a .word = s.reg rd ∧ bytesBut a 4 s t
       | .dword => t.peek a .word = s.reg rd ∧ t.peek (a + 4) .word = s.reg (rd + 1) ∧ bytesBut a 8 s t))

/-- WWCS and RWCS where the location is installed: two memory words to one WCS location, and back; the second word's
address is the first one's plus 4 in its own width. That an address between the installed size and 4095 is out of
range is the spec's own decision D29, the width of the memory address in extended mode, hence where the second one
wraps, its decision D36.

JWCS hands the low six bits of the effective address to the microcode; what the routine leaves, registers, condition
codes and stores, is the environment's, and with no reply nothing but the pc changes (the model's choice, log 19).
That a routine's store to memory that is not installed is dropped is the model's choice too (log 42), and so is that
the words of JWCS's chain are read as operands (log 44). That WWCS and RWCS write all four condition codes, against
the text on their family, is conflict C22; the microcode itself is not in the manual (N60, U10). -/
def Obligations.ControlStore : Prop :=
  (∀ (s : State) (rd rs : Reg) (pa pb : Addr), s.quiet → s.priv = true → Sparse.wf (0 : Dword) s.wcs = true →
     let space : Nat := if s.ext then 2 ^ 24 else 2 ^ 19
     let at24 (w : Word) : Addr := BitVec.ofNat 24 (w.toNat % space / 4 * 4)
     let after4 (w : Word) : Addr := BitVec.ofNat 24 ((w.toNat % space / 4 * 4 + 4) % space)
     ((s.reg rd).toNat ≤ 4095 → (s.reg rd).toNat < s.cfg.wcsWords → s.operandParity = false →
       s.translate .operand false (at24 (s.reg rs)) = .ok pa →
       s.translate .operand false (after4 (s.reg rs)) = .ok pb →
       s.present pa .word = true → s.present pb .word = true →
       ∃ t, exec (.wwcs rd rs) s = .next t ∧ Ended .half s t ∧
         t = { s.endedAs t with wcs := t.wcs, cc := ⟨false, false, false, false⟩ } ∧
         t.wcsAt (s.reg rd).toNat = s.peek pa.toNat .word ++ s.peek pb.toNat .word ∧
         ∀ a, a ≠ (s.reg rd).toNat → t.wcsAt a = s.wcsAt a) ∧
     ((s.reg rs).toNat ≤ 4095 → (s.reg rs).toNat < s.cfg.wcsWords → Memory.wf s.mem = true →
       storesTo s (at24 (s.reg rd)) .word pa → storesTo s (after4 (s.reg rd)) .word pb →
       ∃ t, exec (.rwcs rd rs) s = .next t ∧ onlyMem s t ∧ Ended .half s t ∧ t.cc = ⟨false, false, false, false⟩ ∧
         t.peek pa.toNat .word ++ t.peek pb.toNat .word = s.wcsAt (s.reg rs).toNat ∧
         ∀ b, (b < pa.toNat ∨ pa.toNat + 4 ≤ b) → (b < pb.toNat ∨ pb.toNat + 4 ≤ b) → t.byte b = s.byte b)) ∧
  (∀ (s : State) (m : MemRef) (x : Target) (u : State), s.quiet → s.cfg.wcsWords ≠ 0 →
     resolve .operand m (s.start .word) = .ok x u →
     let entry : BusMessage := .wcs (BitVec.ofNat 6 x.ea.addr.toNat)
     (s.wcsReplies = [] → ∃ t, exec (.jwcs m) s = .next t ∧ Ended .word s t ∧
       t = { s.endedAs t with sent := entry :: s.sent }) ∧
     (∀ regs cc stores rest, s.wcsReplies = ⟨regs, cc, stores⟩ :: rest → Memory.wf s.mem = true → ∃ t,
       exec (.jwcs m) s = .next t ∧ Ended .word s t ∧ Memory.wf t.mem = true ∧
       t = { s.endedAs t with mem := t.mem, sent := entry :: s.sent, regs := regs, cc := cc, wcsReplies := rest } ∧
       ∀ b, t.byte b = s.byteAfter stores b))

/-! ### Control and interrupt instructions -/

/-- NOP, HALT, WAIT, CALM, EAE, DAE, BEI, UEI: one piece of state each, in the modes that allow them; HALT of a
running CPU shows the halt (log 46). That the pc stays at the WAIT is the spec's own decision D54. That BLOCK_COUNT
goes on where BEI finds the CPU already blocked is log 13. That EAE and DAE act on bit 7, where their pages say bit 6,
is conflict C28; that the pc after a HALT addresses the next instruction R612 derives. -/
def Obligations.PlainControls : Prop :=
  ∀ (s : State) (flags : BitVec 10), s.quiet →
    (∃ t, exec .nop s = .next t ∧ Ended .half s t ∧ t = s.endedAs t) ∧
    (s.priv = true → ∃ t, exec .halt s = .next t ∧ Ended .half s t ∧
      t = { s.endedAs t with run := .halt, panel := t.panel } ∧
      (s.run ≠ .halt → ShowsHalt s t) ∧ (s.run = .halt → t.panel = s.panel)) ∧
    (¬(s.mode = .psd ∧ s.blocked = true) → ∃ t, exec .wait s = .next t ∧ t.pc = s.pc ∧ t.haltReq = s.haltReq ∧
      t = { s.endedAs t with run := .wait }) ∧
    (∃ t, exec (.calm flags) s = .next t ∧ Ended .half s t ∧ t = { s.endedAs t with request := t.request } ∧
      levelSet 0x27 true s.request t.request) ∧
    (s.mode = .psd → s.priv = true →
      (∀ p ∈ [(Instr.eae, true), (.dae, false)], ∃ t, exec p.1 s = .next t ∧ Ended .half s t ∧
        t = { s.endedAs t with aexp := p.2, scratch := t.scratch } ∧
        (∀ c, c ≠ cpuStatCell → t.cell c = s.cell c) ∧
        ∀ j < 32, t.stat.getLsbD j = if j = 7 then p.2 else s.stat.getLsbD j) ∧
      (∀ p ∈ [(Instr.bei, true), (.uei, false)], ∃ t, exec p.1 s = .next t ∧ Ended .half s t ∧
        t = { s.endedAs t with blocked := p.2, scratch := t.scratch } ∧
        (∀ c, c ≠ cpuStatCell → t.cell c = s.cell c) ∧
        ∀ j < 32, t.stat.getLsbD j = if j = 5 then p.2 else s.stat.getLsbD j))

/-- SETCPU and RDSTS, where the jumper allows them: the mode, the two enables and their mirrors; the status word read
and its bits 0 to 23 cleared. That SETCPU to PSW mode switches mapping and blocking off is the spec's own decision
D51, CC1 zero after RDSTS its decision D52. That the jumper is MODE_JUMPER is the spec's identification (R617), the
register field of SETCPU in bits 9-11 its inference (N38), and that the bits of SETCPU's operand that must be zero are
ignored its decision D51 (U4). -/
def Obligations.CpuModeAndStatus : Prop :=
  ∀ (s : State) (r : Reg), s.priv = true → s.cfg.modeJumper = .psd → (s.blocked = true → s.blockCount < 128) →
    (∃ t, exec (.setcpu r) s = .next t ∧ Ended .half s t ∧
      let v := s.reg r
      let psd := bitAt v 19
      t = { s.endedAs t with
        mode := if psd then .psd else .psw, bmtEn := bitAt v 14, psdTrapEn := bitAt v 15,
        mapActive := psd && s.mapActive, blocked := psd && s.blocked, scratch := t.scratch } ∧
      (∀ c, c ≠ cpuStatCell → t.cell c = s.cell c) ∧
      ∀ j < 32, t.stat.getLsbD j = if j = 0 then psd else if j = 5 then psd && s.blocked
        else if j = 6 then !bitAt v 15 else s.stat.getLsbD j) ∧
    (s.mode = .psd → ∃ t, exec (.rdsts r) s = .next t ∧ Ended .half s t ∧
      t = { s.endedAs t with regs := t.regs, cc := t.cc, scratch := t.scratch } ∧ regsBut r s t ∧ t.reg r = s.stat ∧
      t.cc = ⟨false, true, s.blocked, decide (s.stat.toNat < 256)⟩ ∧
      t.stat = s.stat &&& 0xFF ∧ ∀ c, c ≠ cpuStatCell → t.cell c = s.cell c)

/-- LPSD, and LPSDCM with a PSD that keeps or that loads the MAP: the doubleword's fields, no interrupt level reset.
That bits 6, 8, 9 and 31 of a loaded PSD1 are ignored is the spec's own decision D11, its bits 10-12 U4; that every
MAP MODE but zero means mapped is conflict C6, the bits of the PSD2 that a MAP load uses C5 and D17, its descriptors
D19. -/
def Obligations.LoadsOfPsd : Prop :=
  ∀ (s : State) (m : MemRef) (x : Target) (u : State) (pa : Addr), s.quiet → s.mode = .psd → s.priv = true →
    s.operandParity = false → resolve .operand m (s.start .word) = .ok x u →
    u.translate .operand false (dwordAlign x.ea.addr) = .ok pa → s.installed pa.toNat 8 = true →
    let w1 := s.peek pa.toNat .word
    let w2 := s.peek (pa.toNat + 4) .word
    (∃ t, exec (.lpsd m) s = .next t ∧ LoadedPsd w1 w2 s t ∧ psdFrame s t) ∧
    (∀ v : State, mapFor (switchErr false) w2 s v →
      ∃ t, exec (.lpsdcm m) s = .next t ∧ LoadedPsd w1 w2 s t ∧ psdFrame { s with mapRegs := v.mapRegs } t)

/-- BRI: a direct one branches and changes no status, an indirect one loads a PSW or a PSD, and with a PSD the MAP it
asks for; each deactivates the active level of highest priority and tells its Class F channel. That the word fetched
through the indirect bit is the PSW or PSD itself, and which level is reset, is the spec's own decision D48. That bits
6, 8, 9 and 31 of a loaded PSW or PSD1 are ignored is decision D11; that every MAP MODE but zero means mapped is
conflict C6; the load of the MAP is D17 and D19. -/
def Obligations.BranchAndResetInterrupt : Prop :=
  ∀ (s : State) (m : MemRef) (pa : Addr), s.quiet → s.priv = true →
    let e := s.combine m
    let deactivates (s t : State) : Prop :=
      (s.active = 0 → t.active = 0 ∧ t.sent = s.sent) ∧
      (∀ l, s.highestActive l → levelSet l false s.active t.active ∧
        t.sent = if s.isClassF l then .deactivate l :: s.sent else s.sent)
    (m.i = false → ∃ t, exec (.bri m) s = .next t ∧ t.pc = BitVec.ofNat 18 (e.addr.toNat / 2) ∧
      t = { s.endedAs t with active := t.active, sent := t.sent } ∧ deactivates s t) ∧
    (m.i = true → s.mode = .psw → s.operandParity = false → s.translate .operand false (wordAlign e.addr) = .ok pa →
      s.present pa .word = true →
      let w := s.peek pa.toNat .word
      ∃ t, exec (.bri m) s = .next t ∧ t.pc = bits w 13 18 ∧
        t = { s.endedAs t with
          active := t.active, sent := t.sent, priv := bitAt w 0,
          cc := ⟨bitAt w 1, bitAt w 2, bitAt w 3, bitAt w 4⟩, ext := bitAt w 5 } ∧ deactivates s t) ∧
    (m.i = true → s.mode = .psd → s.operandParity = false → s.translate .operand false (dwordAlign e.addr) = .ok pa →
      s.installed pa.toNat 8 = true → ∀ v : State, mapFor (switchErr false) (s.peek (pa.toNat + 4) .word) s v →
      ∃ t, exec (.bri m) s = .next t ∧ LoadedPsd (s.peek pa.toNat .word) (s.peek (pa.toNat + 4) .word) s t ∧
        psdFrame { s with active := t.active, sent := t.sent, mapRegs := v.mapRegs } t ∧ deactivates s t)

/-- Execute: the target's effect in the address and the length of the Execute instruction; a target that is no
instruction, an Execute, or of PSD mode only is undefined.

EXR, EXRR and EXM of a register instruction complete: TRR as the target, from a register and from memory. That a
target of PSD mode only traps is the spec's own decision D53, EXRR's word and a word code in the right halfword with a
zero second half its decision D47. That the trap is Undefined Instruction, where the Execute pages say Unimplemented
Instruction, is conflict C29; that EXRR differs from EXR at all is not in the manual (N36). -/
def Obligations.Executes : Prop :=
  (∀ (s : State) (r : Reg) (m : MemRef),
     let does (i : Instr) (image : Word) (v : State) : Prop :=
       (∀ j, decode image = .ok j → needsPsd j = false → (∀ q m', j ≠ .exr q ∧ j ≠ .exrr q ∧ j ≠ .exm m') →
         effectOf i (s.start .word) = effectOf j v ∧
         (∀ t, s.quiet → effectOf j v = .ok () t → effectRegs v t → exec i s = .next (finish .word s t))) ∧
       (∀ j, decode image = .ok j → (needsPsd j = true ∨ ∃ q m', j = .exr q ∨ j = .exrr q ∨ j = .exm m') →
         effectOf i (s.start .word) = .stop (.trap (.undefined false)) v) ∧
       (∀ e, decode image = .error e → effectOf i (s.start .word) = .stop (.trap (.undefined false)) v)
     does (.exr r) (s.reg r) (s.start .word) ∧
     does (.exrr r) (s.reg r <<< 16) (s.start .word) ∧
     (∀ (x : Target) (u : State) (w : Word) (v : State), resolve .operand m (s.start .word) = .ok x u →
       memRead .operand (wordAlign x.ea.addr) .word u = .ok w v →
       does (.exm m) (if x.ea.addr.toNat / 2 % 2 = 1 then w <<< 16 else w) v)) ∧
  (∀ (s : State) (r rd rs : Reg) (m : MemRef), s.quiet →
     let image := encode (.trr rd rs)
     let runs (i : Instr) : Prop := ∃ t,
       exec i s = .next t ∧ onlyRegs s t ∧ Ended .word s t ∧ wroteWord rd (s.reg rs) false s t
     (s.reg r = image → runs (.exr r)) ∧
     (s.reg r <<< 16 = image → runs (.exrr r)) ∧
     (∀ (x : Target) (u : State) (w : Word) (v : State), resolve .operand m (s.start .word) = .ok x u →
       memRead .operand (wordAlign x.ea.addr) .word u = .ok w v →
       (if x.ea.addr.toNat / 2 % 2 = 1 then w <<< 16 else w) = image → runs (.exm m)))

/-- EI, DI, RI, AI, DAI on a level with an RTOM or IOM behind it and no Class F channel: the one bit; on any other
level nothing; levels 0 and 1 keep a jumper's enable. That a level without hardware is no operation is the spec's own
decision D58, the jumper of levels 0 and 1 its decision D59, and that DI then keeps the request too is log 20. -/
def Obligations.LevelCommands : Prop :=
  ∀ (s : State) (l : Level), s.quiet → s.priv = true →
    let acts : Bool := isLevel l && !s.isClassF l && s.isWired l
    let fixed : Bool := decide (s.cfg.level01 = .constant ∧ l.toNat < 2)
    (acts = false → ∀ i ∈ [Instr.ei l, .di l, .ri l, .ai l, .dai l], ∃ t,
      exec i s = .next t ∧ Ended .word s t ∧ t = s.endedAs t) ∧
    (acts = true →
      (∃ t, exec (.ei l) s = .next t ∧ Ended .word s t ∧ t = { s.endedAs t with enabled := t.enabled } ∧
        if fixed then t.enabled = s.enabled else levelSet l true s.enabled t.enabled) ∧
      (∃ t, exec (.di l) s = .next t ∧ Ended .word s t ∧
        t = { s.endedAs t with enabled := t.enabled, request := t.request } ∧
        if fixed then t.enabled = s.enabled ∧ t.request = s.request
        else levelSet l false s.enabled t.enabled ∧ levelSet l false s.request t.request) ∧
      (∃ t, exec (.ri l) s = .next t ∧ Ended .word s t ∧ t = { s.endedAs t with request := t.request } ∧
        levelSet l true s.request t.request) ∧
      (∃ t, exec (.ai l) s = .next t ∧ Ended .word s t ∧ t = { s.endedAs t with active := t.active } ∧
        levelSet l true s.active t.active) ∧
      (∃ t, exec (.dai l) s = .next t ∧ Ended .word s t ∧
        t = { s.endedAs t with active := t.active, noIntNext := s.noIntNext || decide (s.mode = .psd) } ∧
        levelSet l false s.active t.active))

/-! ### Input and output -/

/-- CD and TD: on a device that is no Class F channel what goes on the bus and the answer; on an absent one CC4 for
TD; on a Class F channel nothing for CD and the codes of TD in PSW mode, a System Check in PSD mode. That CD to an
absent device is no operation is the spec's own decision D60, the codes of TD on a Class F channel its decision D61;
that the System Check carries the device, whose words a trap halt stores, is log 45, the answers as data log 18. That
TD's test code is bits 16-31 is conflict C34; which CPUSTAT bit is bit 0 is the spec's reading of an unnumbered list
(N12). That CD changes no memory, the emulation IOCD neither, is the model's choice (log 49; R678, N43). -/
def Obligations.DeviceCommands : Prop :=
  ∀ (s : State) (d : BitVec 7) (c : Half), s.quiet → s.priv = true →
    (s.devAt d = none →
      (∃ t, exec (.cd d c) s = .next t ∧ Ended .word s t ∧ t = s.endedAs t) ∧
      (∃ t, exec (.td d c) s = .next t ∧ Ended .word s t ∧
        t = { s.endedAs t with cc := ⟨false, false, false, true⟩ })) ∧
    (∀ e, s.devAt d = some e → e.cls ≠ 0xF →
      (∃ t, exec (.cd d c) s = .next t ∧ Ended .word s t ∧
        t = { s.endedAs t with sent := .command d c :: s.sent }) ∧
      (∀ a rest, s.devReplies = some a :: rest → ∃ t, exec (.td d c) s = .next t ∧ Ended .word s t ∧
        t = { s.endedAs t with sent := .test d c :: s.sent, devReplies := rest, cc := a }) ∧
      (∀ rest, s.devReplies = none :: rest → ∃ t, exec (.td d c) s = .next t ∧ Ended .word s t ∧
        t = { s.endedAs t with
          sent := .test d c :: s.sent, devReplies := rest,
          cc := ⟨false, false, false, true⟩ })) ∧
    (∀ e, s.devAt d = some e → e.cls = 0xF →
      (s.mode = .psw → (∃ t, exec (.cd d c) s = .next t ∧ Ended .word s t ∧ t = s.endedAs t) ∧
        (∃ t, exec (.td d c) s = .next t ∧ Ended .word s t ∧
          t = { s.endedAs t with
            cc := if c = 0x2000 then ⟨false, true, false, false⟩ else ⟨false, false, true, false⟩ })) ∧
      (s.mode = .psd → ∀ i ∈ [Instr.cd d c, .td d c],
        effectOf i (s.start .word) = .stop (.trap (.ofDevice e (.systemCheck (statBit 0)))) (s.start .word)))

/-- The Class F instructions that the channel accepts: the message with the computed channel and subaddress, the IOCLA
with SIO and WCWCS, the condition codes, and what each operation does to its level and to the interlock. The computed
channel is the spec's own decision D62, its device table D63, the interlock of each channel D64; the answers as data
are log 18. That an accepted ECWCS replaces an arming of another channel follows R699 (log 18). That the IOCLA is in
word 5 of the ICB, at 16, is conflict C31, that its address is bits 8-31 of it the spec's (R701, N53); that RSCHNL
leaves the enable bit is its own too (R686, N44). -/
def Obligations.ChannelInstructions : Prop :=
  ∀ (s : State) (r : Reg) (k : Half) (d : DevEntry) (a : ChanAnswer) (status : Addr) (rest : List (Option ChanReply)),
    s.quiet → s.mode = .psd → s.priv = true → s.operandParity = false →
    let w : Nat := (k.toNat + (if r = 0 then 0 else (s.reg r).toNat)) % 65536
    let chan : BitVec 7 := BitVec.ofNat 7 (w / 256)
    let sub : Byte := BitVec.ofNat 8 w
    s.devAt chan = some d → d.cls = 0xF → s.chanReplies = some ⟨a, status⟩ :: rest →
    (a = .activated ∨ a = .queued) → s.present (ivlOf d.level) .word = true →
    let icb := addrOf (s.peek (ivlOf d.level).toNat .word)
    let l := d.level
    let disarmed := if s.ecwcsArmed = some chan then none else s.ecwcsArmed
    let cc : CC := ⟨decide (a = .queued), false, false, false⟩
    let plain (op : ChanOp) (s t : State) : Prop :=
      t = { s.endedAs t with
          chanReplies := rest, sent := .channel op chan sub none :: s.sent, cc := cc,
          ecwcsArmed := disarmed }
    (∀ p ∈ [(Instr.tio r k, ChanOp.tio), (.stpio r k, .stpio), (.hio r k, .hio), (.grio r k, .grio),
        (.rsctl r k, .rsctl)], ∃ t, exec p.1 s = .next t ∧ Ended .word s t ∧ plain p.2 s t) ∧
    (s.present (icb + 16) .word = true →
      let list := some (addrOf (s.peek (icb + 16).toNat .word))
      ∀ p ∈ [(Instr.sio r k, ChanOp.sio), (.wcwcs r k, .wcwcs)], (p.2 = .wcwcs → s.ecwcsArmed = some chan) →
        ∃ t, exec p.1 s = .next t ∧ Ended .word s t ∧
          t = { s.endedAs t with
          chanReplies := rest, sent := .channel p.2 chan sub list :: s.sent, cc := cc,
          ecwcsArmed := disarmed }) ∧
    (∃ t, exec (.ecwcs r k) s = .next t ∧ Ended .word s t ∧
      t = { s.endedAs t with
          chanReplies := rest, sent := .channel .ecwcs chan sub none :: s.sent, cc := cc,
          ecwcsArmed := some chan }) ∧
    (∃ t, exec (.rschnl r k) s = .next t ∧ Ended .word s t ∧
      plain .rschnl { s with request := t.request, active := t.active } t ∧
      levelSet l false s.request t.request ∧ levelSet l false s.active t.active) ∧
    (∃ t, exec (.eci r k) s = .next t ∧ Ended .word s t ∧ plain .eci { s with enabled := t.enabled } t ∧
      levelSet l true s.enabled t.enabled) ∧
    (∃ t, exec (.dci r k) s = .next t ∧ Ended .word s t ∧ plain .dci { s with enabled := t.enabled } t ∧
      levelSet l false s.enabled t.enabled) ∧
    (∃ t, exec (.aci r k) s = .next t ∧ Ended .word s t ∧
      plain .aci { s with request := t.request, active := t.active } t ∧
      levelSet l false s.request t.request ∧ levelSet l true s.active t.active) ∧
    (∃ t, exec (.daci r k) s = .next t ∧ Ended .word s t ∧
      plain .daci { s with active := t.active, noIntNext := true } t ∧ levelSet l false s.active t.active)

/-- A Class F instruction that is not carried out: no such channel or no answer, a device of another class, WCWCS
without ECWCS before it; and one that the channel does not accept, with the condition codes of its answer, the status
address in word 6 of the ICB where status was stored, and ECWCS left unarmed. The computed channel is the spec's own
decision D62, its device table D63, the interlock of each channel D64. That the arming stays as it was where there is
no channel or no answer is the model's choice (log 18), that the traps carry the device, whose words a trap halt
stores, is log 45. That ECWCS is left unarmed also where another channel had been armed follows R699 against the words
of R700 and D64 on other channels: the model's choice (log 18). That the IOCLA is in word 5 and the status address in
word 6 of the ICB is conflict C31. -/
def Obligations.ChannelRefusals : Prop :=
  ∀ (s : State) (r : Reg) (k : Half), s.quiet → s.mode = .psd → s.priv = true →
    let w : Nat := (k.toNat + (if r = 0 then 0 else (s.reg r).toNat)) % 65536
    let chan : BitVec 7 := BitVec.ofNat 7 (w / 256)
    let sub : Byte := BitVec.ofNat 8 w
    let all := [(Instr.sio r k, ChanOp.sio), (.tio r k, .tio), (.stpio r k, .stpio), (.rschnl r k, .rschnl), (.hio r k, .hio),
      (.grio r k, .grio), (.rsctl r k, .rsctl), (.ecwcs r k, .ecwcs), (.eci r k, .eci), (.dci r k, .dci),
      (.aci r k, .aci), (.daci r k, .daci), (.wcwcs r k, .wcwcs)]
    let disarmed := if s.ecwcsArmed = some chan then none else s.ecwcsArmed
    (s.devAt chan = none → ∀ p ∈ all, ∃ t, exec p.1 s = .next t ∧ Ended .word s t ∧
      t = { s.endedAs t with cc := ⟨false, false, true, false⟩ }) ∧
    (∀ d, s.devAt chan = some d → d.cls ≠ 0xF → ∀ p ∈ all,
      effectOf p.1 (s.start .word) = .stop (.trap (.ofDevice d (.undefined false))) (s.start .word)) ∧
    (∀ d, s.devAt chan = some d → d.cls = 0xF → s.ecwcsArmed ≠ some chan →
      effectOf (.wcwcs r k) (s.start .word) = .stop (.trap (.ofDevice d (.systemCheck (statBit 15)))) (s.start .word)) ∧
    (∀ d rest, s.devAt chan = some d → d.cls = 0xF → s.chanReplies = none :: rest → ∀ p ∈ all, p.2 ≠ .wcwcs → ∃ t,
      exec p.1 s = .next t ∧ Ended .word s t ∧
      t = { s.endedAs t with cc := ⟨false, false, true, false⟩, chanReplies := rest }) ∧
    (∀ d status rest, s.devAt chan = some d → d.cls = 0xF → s.operandParity = false → Memory.wf s.mem = true →
      s.present (ivlOf d.level) .word = true →
      let icb := addrOf (s.peek (ivlOf d.level).toNat .word)
      s.present (icb + 16) .word = true → s.present (icb + 20) .word = true →
      ∀ a ∈ [(ChanAnswer.busy, CC.mk false false false true), (.inoperable, ⟨false, false, true, false⟩),
          (.subBusy, ⟨false, false, true, true⟩), (.statusStored, ⟨false, true, false, false⟩),
          (.unsupported, ⟨false, true, false, true⟩)],
        s.chanReplies = some ⟨a.1, status⟩ :: rest → ∀ p ∈ all, (p.2 = .wcwcs → s.ecwcsArmed = some chan) → ∃ t,
        exec p.1 s = .next t ∧ Ended .word s t ∧
        t = { s.endedAs t with
          mem := t.mem, chanReplies := rest, cc := a.2,
          sent := .channel p.2 chan sub (if p.2 = .sio ∨ p.2 = .wcwcs then
            some (addrOf (s.peek (icb + 16).toNat .word)) else none) :: s.sent,
          ecwcsArmed := if p.2 = .ecwcs then none else disarmed } ∧
        (a.1 ≠ .statusStored → t.mem = s.mem) ∧
        (a.1 = .statusStored → t.peek (icb + 20).toNat .word = status.setWidth 32 ∧ bytesBut (icb + 20).toNat 4 s t))

/-! ### Traps and interrupts -/

/-- The checks that come first: an instruction of PSD mode is undefined in PSW mode, a privileged one violates
privilege without PSD1 bit 0, SETCPU and RDSTS are undefined without the jumper. Nothing else has changed.

The instructions whose effect is to trap, or that trap for want of WCS: SVC in PSD mode; JWCS, WWCS, RWCS without the
option, with CC1 set; WAIT in the blocked state, the pc at the WAIT.

The mode check before the privilege check is the spec's own decision D55, the WCS addresses beyond what is installed
D29, that TRP is privileged D28, the pc past the instruction D66, the pc at a WAIT D54; that JWCS leaves CC2 to CC4 is
log 44, and that the condition codes stay set where PSW mode drops the trap is log 39. That LA is of PSD mode only is
conflict C36, that WWCS and RWCS write all condition codes C22, that the jumper of SETCPU and RDSTS is MODE_JUMPER the
spec's identification (R617). -/
def Obligations.TrappingInstructions : Prop :=
  (∀ (i : Instr) (s : State),
     let u := { s.start i.len with hist := histOf i.len s.pc }
     (needsPsd i = true → s.mode = .psw → exec i s = .next (raiseSync (.undefined false) u)) ∧
     (needsPriv i = true → s.priv = false → (needsPsd i = true → s.mode = .psd) →
       exec i s = .next (raiseSync .privilege u)) ∧
     (∀ r, (i = .setcpu r ∨ i = .rdsts r ∧ s.mode = .psd) → s.priv = true → s.cfg.modeJumper = .psw →
       exec i s = .next (raiseSync (.undefined false) u))) ∧
  (∀ (s : State) (ind : BitVec 4) (call : BitVec 12) (m : MemRef) (rd rs : Reg),
     let after (len : Len) : State := { s.start len with hist := histOf len s.pc }
     (s.mode = .psd → exec (.svc ind call) s = .next (raiseSync (.svc ind call) (after .word))) ∧
     (s.cfg.wcsWords = 0 → exec (.jwcs m) s = .next (raiseSync (.undefined true) { after .word with cc := { s.cc with cc1 := true } })) ∧
     (s.priv = true → (s.cfg.wcsWords ≤ (s.reg rd).toNat ∨ 4095 < (s.reg rd).toNat) →
       exec (.wwcs rd rs) s = .next (raiseSync (.undefined true) { after .half with cc := ⟨true, false, false, false⟩ })) ∧
     (s.priv = true → (s.cfg.wcsWords ≤ (s.reg rs).toNat ∨ 4095 < (s.reg rs).toNat) →
       exec (.rwcs rd rs) s = .next (raiseSync (.undefined true) { after .half with cc := ⟨true, false, false, false⟩ })) ∧
     (s.mode = .psd → s.blocked = true → exec .wait s = .next (raiseSync .blockTimeout { after .half with pc := s.pc })))

/-- The PSD and the PSW as they are stored: every bit; and PSD1 as the panel shows it, with the three display bits
(what bits 47 to 49 of a stored PSD2 hold is the spec's own decision D49). That the display bits are not stored, and
HIST is bit 6, is decision D11. HIST in bit 6 is conflict C10, the pc in bits 13-30 with bits 10-12 zero C39, Blocked
in bit 31 of the display C41. -/
def Obligations.StoredStatus : Prop :=
  ∀ s : State,
    let p := s.storedPsd1
    let q := s.storedPsd2
    let w := s.storedPsw
    let v := s.displayPsd1
    (bitAt p 0 = s.priv ∧ bitAt p 1 = s.cc.cc1 ∧ bitAt p 2 = s.cc.cc2 ∧ bitAt p 3 = s.cc.cc3 ∧ bitAt p 4 = s.cc.cc4 ∧
      bitAt p 5 = s.ext ∧ bitAt p 6 = s.hist ∧ bitAt p 7 = s.aexp ∧ bits p 8 5 = 0 ∧ bits p 13 18 = s.pc ∧
      bitAt p 31 = false) ∧
    (bits q 0 15 = bits s.psd2 0 15 ∧ bitAt q 15 = false ∧ bitAt q 16 = false ∧ bitAt q 17 = s.blocked ∧
      bits q 18 14 = bits s.psd2 18 14) ∧
    (bits w 0 7 = bits p 0 7 ∧ bits w 7 6 = 0 ∧ bits w 13 19 = bits p 13 19) ∧
    (bitAt v 8 = decide (s.mode = .psd) ∧ bitAt v 9 = ((bitAt s.psd2 0 || bitAt s.psd2 1) && s.mapActive) ∧
      bitAt v 31 = s.blocked ∧ ∀ j : Nat, j < 31 → j ≠ 8 → j ≠ 9 → bitAt v j = bitAt p j)

/-- Trap entry in PSD mode: through the vector, for SVC through the secondary vector, to the ICB; the old PSD in its
words 1 and 2, the status word or the call number in word 5; the new PSD from words 3 and 4, and the MAP that it asks
for. No interrupt level changes, no general register, no other byte. That the call number is right-justified in word 5
is the spec's own (N37); that Power Fail and Block Mode Timeout enter without the PSD traps enabled is its decision
D72; that a WAIT is left is read from the rules (log 11). That SVC leaves the caller's condition codes in the old PSD
is decision D50, that HIST is not loaded D11, bits 47 to 49 of the stored PSD2 D49, the CPUSTAT bit of Undefined
Instruction D73 and none for a cause without a named bit D71. That SVC does not arm the trap halt R616 derives; that
every MAP MODE but zero means mapped is conflict C6, the load of the MAP D17 and D19; which CPUSTAT bits are 0 to 9 is
N12. -/
def Obligations.TrapEntry : Prop :=
  ∀ (t : Trap) (s : State), s.mode = .psd → (t.arms = true → s.psdTrapEn = true) → s.cfg.wf = true → s.between = [] →
    Memory.wf s.mem = true → s.operandParity = false → s.present t.ivl .word = true →
    let v := addrOf (s.peek t.ivl.toNat .word)
    let second (ind : BitVec 4) : Addr := v + BitVec.ofNat 24 (4 * ind.toNat)
    (∀ ind call, t = .svc ind call → s.present (second ind) .word = true) →
    let stat := s.stat ||| t.statBits .psd
    let icb : Addr := match t with
      | .svc ind _ => addrOf (s.peek (second ind).toNat .word)
      | _ => v
    let word5 : Word := match t with
      | .svc _ call => call.setWidth 32
      | _ => stat
    s.installed icb.toNat 20 = true →
    let n1 := s.peek (icb.toNat + 8) .word
    let n2 := s.peek (icb.toNat + 12) .word
    let stored := (((s.setCell cpuStatCell stat).poke icb.toNat .word s.storedPsd1).poke (icb.toNat + 4) .word
      s.storedPsd2).poke (icb.toNat + 16) .word word5
    ∀ v : State, mapFor (switchErr false) n2 stored v →
    let r := raise t s
    r.peek icb.toNat .word = s.storedPsd1 ∧ r.peek (icb.toNat + 4) .word = s.storedPsd2 ∧
    r.peek (icb.toNat + 16) .word = word5 ∧
    (∀ b, b < icb.toNat ∨ icb.toNat + 20 ≤ b ∨ (icb.toNat + 8 ≤ b ∧ b < icb.toNat + 16) → r.byte b = s.byte b) ∧
    LoadedPsd n1 n2 (s.setCell cpuStatCell stat) r ∧
    psdFrame { s with mem := r.mem, mapRegs := v.mapRegs, run := if s.run = .wait then .run else s.run } r ∧
    r.hist = s.hist

/-- Without the PSD traps enabled an arming trap halts the CPU: the save area at 530 to 543 (hex), the pc at the
vector, the Interrupt Active light, the displays. HIST is free afterwards, and so are the two words of a device that
the trap involves (log 45: a constant of the device); zero without one, and which traps arm, is the spec's own
decision D72. That every other register of the CPU is kept, where the manual says any value (U9), is log 7; what the
displays show at a trap halt is log 46 (DEDUCED). The CPUSTAT bits are decisions D71 and D73. That the halfword
indicator is bit 6 is conflict C10; which CPUSTAT bits are 0 to 9 is N12. -/
def Obligations.TrapHalts : Prop :=
  ∀ (t : Trap) (s : State), s.mode = .psd → t.arms = true → s.psdTrapEn = false → s.between = [] →
    s.installed 0x530 20 = true → Memory.wf s.mem = true →
    let stat := s.stat ||| t.statBits .psd
    let r := raise t s
    r.run = .halt ∧ r.pc = BitVec.ofNat 18 (t.ivl.toNat / 2) ∧ r.interruptLight = true ∧
    ShowsHalt { s with panel := { s.panel with intLight := true } } r ∧
    r.peek 0x530 .word = s.storedPsd1 ∧ r.peek 0x534 .word = s.storedPsd2 ∧ r.peek 0x538 .word = stat ∧
    r.peek 0x53C .word = (match t.device with
      | none => 0
      | some d => Config.deviceWord d) ∧
    r.peek 0x540 .word = (match t.device with
      | none => 0
      | some d => Config.interruptWord d) ∧ bytesBut 0x530 20 s r ∧ r.stat = stat ∧
    (∀ c, c ≠ cpuStatCell → r.cell c = s.cell c) ∧
    r = { s with
      mem := r.mem, run := r.run, pc := r.pc, panel := r.panel, hist := r.hist, freeCount := r.freeCount,
      scratch := r.scratch }

/-- Traps in PSW mode: with the level enabled and neither it nor a higher one active or a higher one requesting, the
interrupt of that level; else the condition is dropped and the machine goes on where the pc is.

Interrupt entry in PSW mode: the PSW stored where the vector points, the new PSW from the next word, the level active
and its request cleared; the first instruction of the handler is not interrupted. Where the PSW is stored and where
the new one is read is the spec's own decision D57 (R767, N39), the second address plus 4 in 24 bits the model's
choice (log 23); that a dropped condition changes nothing but CPUSTAT is log 39. The CPUSTAT bits are decisions D71
and D73. That bits 6, 8, 9 and 31 of the new PSW are ignored is decision D11, the constant enable of levels 0 and 1
D59. -/
def Obligations.PswInterrupts : Prop :=
  (∀ (t : Trap) (l : Level) (s : State), s.mode = .psw → t.pswLevel = some l →
     let s1 := s.setCell cpuStatCell (s.stat ||| t.statBits .psw)
     let clear : Prop := s.enabledEff.getLsbD l.toNat = true ∧ s.active.getLsbD l.toNat = false ∧
       ∀ k : Level, k.toNat < l.toNat → s.active.getLsbD k.toNat = false ∧ s.request.getLsbD k.toNat = false
     (¬clear → raise t s = s1) ∧ (clear → raise t s = takeInterrupt l { s1 with request := s1.request ||| BitVec.twoPow 128 l.toNat })) ∧
  (∀ (l : Level) (s : State), s.mode = .psw → s.between = [] → Memory.wf s.mem = true → s.operandParity = false →
     s.present (ivlOf l) .word = true →
     let a : Nat := (s.peek (ivlOf l).toNat .word).toNat % 2 ^ 19 / 4 * 4
     s.installed a 8 = true →
     let w := s.peek (a + 4) .word
     let r := takeInterrupt l s
     r.peek a .word = s.storedPsw ∧ bytesBut a 4 s r ∧
     levelSet l false s.request r.request ∧ levelSet l true s.active r.active ∧
     r = { s with
       mem := r.mem, request := r.request, active := r.active, priv := bitAt w 0,
       cc := ⟨bitAt w 1, bitAt w 2, bitAt w 3, bitAt w 4⟩, ext := bitAt w 5, pc := bits w 13 18, noIntNext := true,
       run := if s.run = .wait then .run else s.run })

/-- Interrupt entry in PSD mode: as a trap's, but with word 5 untouched, the request cleared and the level active
unless the new PSD blocks without activating; a Class F channel's status address in word 6, a free value where the
environment gives none (log 8). A vector in memory that is not installed raises Machine Check, with CPUSTAT bit 0 for
the Class F. Codes 10 and 11 of the new PSD are the spec's own decision D65. Bits 47 to 49 of the stored PSD2 are its
decision D49; which device a level's error involves is log 45. The status address in word 6 is conflict C31; that bits
6, 8, 9 and 31 of the new PSD1 are ignored is D11, that every MAP MODE but zero means mapped C6, the load of the MAP
D17 and D19; which CPUSTAT bits are 0 and 1 is the spec's reading of an unnumbered list (N12). -/
def Obligations.InterruptEntryPsd : Prop :=
  (∀ (l : Level) (s : State), s.mode = .psd → s.cfg.wf = true → s.between = [] → Memory.wf s.mem = true →
    s.operandParity = false → s.present (ivlOf l) .word = true →
    let icb := (addrOf (s.peek (ivlOf l).toNat .word)).toNat
    s.installed icb 24 = true →
    let n1 := s.peek (icb + 8) .word
    let n2 := s.peek (icb + 12) .word
    let a : Addr := s.ackReplies.headD (Config.freeAddr s.freeCount)
    let base := if s.isClassF l then s.poke (icb + 20) .word (a.setWidth 32) else s
    ∀ v : State, mapFor (intErr s l) n2 ((base.poke icb .word s.storedPsd1).poke (icb + 4) .word s.storedPsd2) v →
    let without := bitAt n2 16 = false ∧ bitAt n2 17 = true
    let r := takeInterrupt l s
    r.peek icb .word = s.storedPsd1 ∧ r.peek (icb + 4) .word = s.storedPsd2 ∧ LoadedPsd n1 n2 s r ∧
    levelSet l false s.request r.request ∧ (without → r.active = s.active) ∧
    (¬without → levelSet l true s.active r.active) ∧
    psdFrame { s with
      mem := r.mem, mapRegs := v.mapRegs, request := r.request, active := r.active, sent := r.sent,
      ackReplies := r.ackReplies, freeCount := r.freeCount, noIntNext := true,
      run := if s.run = .wait then .run else s.run } r ∧
    (s.isClassF l = false → r.sent = s.sent ∧ r.ackReplies = s.ackReplies ∧ r.freeCount = s.freeCount ∧
      ∀ b, b < icb ∨ icb + 8 ≤ b → r.byte b = s.byte b) ∧
    (s.isClassF l = true → r.ackReplies = s.ackReplies.tail ∧ r.peek (icb + 20) .word = a.setWidth 32 ∧
      (∀ b, b < icb ∨ (icb + 8 ≤ b ∧ b < icb + 20) ∨ icb + 24 ≤ b → r.byte b = s.byte b) ∧
      (¬without → r.sent = .acknowledge l :: s.sent) ∧
      (without → r.sent = .deactivate l :: .acknowledge l :: s.sent))) ∧
  (∀ (l : Level) (s : State), s.mode = .psd → s.between = [] → s.present (ivlOf l) .word = false → ∃ t : Trap,
    takeInterrupt l s = raiseSync t s ∧ t.priority = 0x07 ∧ t.ivl = 0x184 ∧
    t.statBits .psd = statBit 10 ||| statBit 1 ||| (if s.isClassF l then statBit 0 else 0))

/-- The Arithmetic Exception is raised exactly where an instruction has left CC1 set by its own arithmetic with the
exception enabled, its result already written: AEXP in PSD mode, the enable of level 29 (hex) in PSW mode.

For every arithmetic form: what it leaves with the exception switched off, it leaves with it on, and then the trap is
raised if CC1 is set and not otherwise. (ARMB to ARMD on a byte or a halfword leave CC1 undefined and raise nothing:
log 6.) A sum that overflows and a division by zero are written out. What a division by zero leaves is the spec's own
decision D41. That a floating-point range error changes no register is its decision D45, the pc past the instruction
D66. That the arithmetic exception of the pages is signed overflow is derived (R491). -/
def Obligations.ArithmeticException : Prop :=
  (∀ (i : Instr) (s u : State), effectOf i s = .stop (.trap .arithmetic) u → u.cc.cc1 = true ∧
    ((u.mode = .psd ∧ u.aexp = true) ∨ (u.mode = .psw ∧ u.enabledEff.getLsbD 0x29 = true))) ∧
  (∀ (s u : State) (r rs : Reg) (m : MemRef) (h : Half) (b : BitVec 3) (y : BitVec 2) (n : BitVec 5),
    ∀ i ∈ [Instr.lnb r m, .lnh r m, .lnw r m, .lnd r m, .trn r rs, .trnm r rs, .adr r rs, .adrm r rs, .adi r h,
        .sur r rs, .surm r rs, .sui r h, .admb r m, .admh r m, .admw r m, .admd r m, .sumb r m, .sumh r m, .sumw r m,
        .sumd r m, .abr b r y, .abm b m, .rnd r, .sla r n, .slad r n, .dvmb r m, .dvmh r m, .dvmw r m, .dvr r rs,
        .dvi r h, .adfw r m, .adfd r m, .sufw r m, .sufd r m, .mpfw r m, .mpfd r m, .dvfw r m, .dvfd r m] ++
        [Instr.armb r m, .armh r m, .armw r m, .armd r m],
      (i ∈ [Instr.armb r m, .armh r m, .armw r m, .armd r m] → ∃ x v,
        resolve .operand m (s.start .word) = .ok x v ∧ (x.ea.width = .word ∨ x.ea.width = .dword)) →
      effectOf i (s.arithOff.start i.len) = .ok () u →
      let v := { u with aexp := s.aexp, enabled := s.enabled }
      (u.cc.cc1 = true → s.arithEnabled = true →
        exec i s = .next (raiseSync .arithmetic { v with hist := histOf i.len s.pc })) ∧
      (u.cc.cc1 = false ∨ s.arithEnabled = false → effectOf i (s.start i.len) = .ok () v)) ∧
  (∀ (s : State) (rd rs : Reg), s.arithEnabled = true →
    let x := (s.reg rd).toInt + (s.reg rs).toInt
    (x < -2 ^ 31 ∨ 2 ^ 31 ≤ x) → ∃ u, exec (.adr rd rs) s = .next (raiseSync .arithmetic u) ∧
      onlyRegs s u ∧ u.pc = s.pc + 1 ∧ u.hist = histOf .half s.pc ∧ wroteWord rd (BitVec.ofInt 32 x) true s u) ∧
  (∀ (s : State) (r rs : Reg), s.arithEnabled = true → s.reg rs = 0 → ∃ u,
    exec (.dvr r rs) s = .next (raiseSync .arithmetic u) ∧ onlyRegs s u ∧ u.pc = s.pc + 1 ∧ u.regs = s.regs ∧
      u.cc.cc1 = true)

/-- The Block Mode Timeout: the instruction that brings the count past 128 has its effect, and then the trap is raised
with the count at zero. That the count starts after the instruction that blocks is the spec's own decision D70 (log
13). -/
def Obligations.BlockModeTimeout : Prop :=
  ∀ (i : Instr) (s u : State), effectOf i (s.start i.len) = .ok () u → u.mode = .psd → u.run ≠ .halt →
    u.bmtEn = true → s.blocked = true → u.blocked = true → u.blockCount = s.blockCount →
    (s.blockCount < 128 → exec i s = .next { u with hist := histOf i.len s.pc, blockCount := s.blockCount + 1 }) ∧
    (128 ≤ s.blockCount →
      exec i s = .next (raiseSync .blockTimeout { u with hist := histOf i.len s.pc, blockCount := 0 }))

/-- Where each level and each trap has its vector. That Block Mode Timeout's is 0E4 is the spec's own reading of the
tables (R731, N5). That MAP Fault's is 18C and Arithmetic Exception's 1A4 is conflict C47. -/
def Obligations.Vectors : Prop :=
  (∀ l : Level, isLevel l = true → (ivlOf l).toNat =
    if l.toNat = 0 then 0xF0 else if l.toNat = 1 then 0xF8 else if l.toNat < 0x14 then 0xE8 + 4 * (l.toNat - 0x12)
    else if l.toNat < 0x24 then 0x140 + 4 * (l.toNat - 0x14) else 0x190 + 4 * (l.toNat - 0x24)) ∧
  [Trap.blockTimeout, .memoryParity true, .memoryParity false, .powerFail, .systemOverride, .svc 0 0, .machineCheck 0,
    .systemCheck 0, .mapFault, .nonpresent true, .nonpresent false, .undefined true, .undefined false, .privilege,
    .arithmetic].map Trap.ivl =
    [0xE4, 0xE8, 0xE8, 0xF4, 0xFC, 0x180, 0x184, 0x188, 0x18C, 0x190, 0x190, 0x194, 0x194, 0x198, 0x1A4]

/-! ### Reset, the invariant, protection -/

/-- What the manual gives after SYSTEM RESET: the general registers and the page protect registers zero, privileged,
PSD mode, the MPL address in its cell.

SYSTEM RESET pressed in HALT on an unlocked panel: the state of R80, with the spec's own choices (decision D20) for
what the manual leaves open; memory, WCS, the Configuration RAM, the MAP and the other cells are kept. What neither
names and is kept, and the values right after reset that the model chose, are logs 2 to 4 and 41. -/
def Obligations.SystemReset : Prop :=
  ((∀ r : Reg, State.reset.reg r = 0) ∧ (∀ p : BitVec 4, State.reset.protReg p = 0) ∧ State.reset.priv = true ∧
   State.reset.mode = .psd ∧ State.reset.cell State.reset.cfg.mplCell = State.reset.cfg.mplAddr.setWidth 32) ∧
  (∀ s : State, s.run = .halt → s.panel.locked = false → s.inputs = [[.key .systemReset]] →
     ∃ t, step s = .next t ∧
       (∀ r : Reg, t.reg r = 0) ∧ (∀ p : BitVec 4, t.protReg p = 0) ∧ t.priv = true ∧ t.mode = .psd ∧
       (s.cfg.mplCell ≠ cpuStatCell → t.stat = 0x41) ∧ t.cell s.cfg.mplCell = s.cfg.mplAddr.setWidth 32 ∧
       (∀ c, c ≠ cpuStatCell → c ≠ s.cfg.mplCell → t.cell c = s.cell c) ∧
       t.cc = ⟨false, false, false, false⟩ ∧ t.ext = false ∧ t.aexp = false ∧ t.pc = 0 ∧ t.psd2 = 0 ∧
       t.mapActive = false ∧ t.blocked = false ∧ t.enabled = 0 ∧ t.request = 0 ∧ t.active = 0 ∧ t.bmtEn = false ∧
       t.psdTrapEn = false ∧ t.ecwcsArmed = none ∧ t.noIntNext = false ∧ t.run = .halt ∧
       t.mem = s.mem ∧ t.wcs = s.wcs ∧ t.dev = s.dev ∧ t.int = s.int ∧ t.mapRegs = s.mapRegs ∧ t.csw = s.csw)

/-- The invariant holds right after reset. It covers values that the model chose (logs 1 to 4). -/
def Obligations.ResetInv : Prop := State.reset.Inv

/-- Every step of every state that meets the invariant leads to a state that meets it. The canonical forms and the
bounds on the configuration are the model's (logs 1, 3, 42); no mapping and no blocking in PSW mode is decision D51,
BLOCK_COUNT zero while not blocked log 13. -/
def Obligations.StepKeepsInv : Prop := ∀ s t : State, s.Inv → step s = .next t → t.Inv

/-- No instruction that completes in the unprivileged state changes the privileged bit, the modes and masks, the MAP,
the protect registers, the scratchpad, WCS, the configuration, or an interrupt level but the request that CALM makes.
That TRP is privileged is the spec's own decision D28, and which instructions are by the list its decision D55. -/
def Obligations.UnprivilegedKeepsProtected : Prop :=
  ∀ (i : Instr) (s t : State), s.priv = false → effectOf i s = .ok () t → ProtectedSame s t

/-- An unprivileged instruction changes no byte of a protected page, no byte of a block that the MAP reaches through
entries with PROTECT alone, and no byte outside installed memory, whatever its outcome; what a WCS routine and other
agents store is not the instruction's. That a protected page is picked by the address after translation is the spec's
own decision D18. That PROTECT one means protected is the spec's identification (R124), the low nine bits of the entry
its decision D17 (C4). -/
def Obligations.UnprivilegedKeepsPages : Prop :=
  ∀ (i : Instr) (s : State) (a : Addr), s.priv = false → s.wcsReplies = [] → s.between = [] →
    (s.pageProtected a = true ∨ s.installed a.toNat 1 = false ∨
      s.mapActive = true ∧ ∀ p : BitVec 5, bitAt (s.mapReg p) 0 = true → bits (s.mapReg p) 7 9 = bits a 0 9 →
        bitAt (s.mapReg p) 1 = true) →
    (∀ t, effectOf i s = .ok () t → t.byte a.toNat = s.byte a.toNat) ∧
    (∀ e t, effectOf i s = .stop e t → t.byte a.toNat = s.byte a.toNat)
end

