-- ==== Sys2Proof/Laws/Sparse.lean ====
section
/-!
SUPPORT. Sparse stores: a read after a write, and the canonical form that every write keeps.
-/

namespace Sys2Proof.Sparse

variable {α : Type} [DecidableEq α]

theorem wfFrom_mono (d : α) {lo lo' : Nat} (h : lo' ≤ lo) : ∀ {l : Sparse α}, wfFrom d lo l = true → wfFrom d lo' l = true
  | [], _ => rfl
  | (k, v) :: t, hw => by
    simp only [wfFrom, Bool.and_eq_true, decide_eq_true_eq] at hw ⊢
    exact ⟨⟨by omega, hw.1.2⟩, hw.2⟩

theorem get_of_wfFrom (d : α) {lo a : Nat} (ha : a < lo) : ∀ {l : Sparse α}, wfFrom d lo l = true → get d l a = d
  | [], _ => rfl
  | (k, v) :: t, hw => by
    simp only [wfFrom, Bool.and_eq_true, decide_eq_true_eq] at hw
    rw [get, if_neg (by omega)]
    exact get_of_wfFrom d (by omega) hw.2

/-- Another address reads as before, in any list. -/
theorem get_set_ne (d : α) {a b : Nat} (v : α) (h : b ≠ a) : ∀ l : Sparse α, get d (set d l a v) b = get d l b
  | [] => by simp only [set, cons]; split <;> simp [get, h]
  | (k, w) :: t => by
    simp only [set, cons]
    split
    · split
      · rfl
      · rw [get, if_neg h]
    · split
      · subst_vars
        split <;> simp [get, h]
      · simp only [get, get_set_ne d v h t]

/-- The address written reads as what was written. -/
theorem get_set_same (d : α) {a lo : Nat} (v : α) : ∀ {l : Sparse α}, wfFrom d lo l = true → get d (set d l a v) a = v
  | [], _ => by simp only [set, cons]; split <;> simp_all [get]
  | (k, w) :: t, hw => by
    simp only [wfFrom, Bool.and_eq_true, decide_eq_true_eq] at hw
    simp only [set, cons]
    split
    · next hlt =>
      split
      · next hv =>
        rw [get, if_neg (by omega), hv]
        exact get_of_wfFrom d (by omega) hw.2
      · simp [get]
    · split
      · next hk =>
        subst hk
        split
        · next hv =>
          rw [hv]
          exact get_of_wfFrom d (Nat.lt_succ_self _) hw.2
        · simp [get]
      · next hne =>
        rw [get, if_neg hne]
        exact get_set_same d v hw.2

theorem get_set (d : α) {a b : Nat} (v : α) {l : Sparse α} (hw : wf d l = true) :
    get d (set d l a v) b = if b = a then v else get d l b := by
  split
  · next h => rw [h]; exact get_set_same d v hw
  · next h => exact get_set_ne d v h l

/-- A write keeps the canonical form. -/
theorem wfFrom_set (d : α) (a : Nat) (v : α) :
    ∀ {lo : Nat} {l : Sparse α}, lo ≤ a → wfFrom d lo l = true → wfFrom d lo (set d l a v) = true
  | lo, [], ha, _ => by
    simp only [set, cons]
    split <;> simp_all [wfFrom]
  | lo, (k, w) :: t, ha, hw => by
    simp only [wfFrom, Bool.and_eq_true, decide_eq_true_eq] at hw
    simp only [set, cons]
    split
    · split
      · simp_all [wfFrom]
      · simp_all only [wfFrom, Bool.and_eq_true, decide_eq_true_eq, ne_eq, not_false_eq_true, and_true, true_and]
        omega
    · split
      · next hk =>
        subst hk
        split
        · exact wfFrom_mono d (by omega) hw.2
        · simp_all [wfFrom]
      · next hne =>
        simp only [wfFrom, Bool.and_eq_true, decide_eq_true_eq]
        exact ⟨hw.1, wfFrom_set d a v (by omega) hw.2⟩

theorem wf_set (d : α) (a : Nat) (v : α) {l : Sparse α} (hw : wf d l = true) : wf d (set d l a v) = true :=
  wfFrom_set d a v (Nat.zero_le a) hw

/-- A write lists nothing new but its own address. -/
theorem mem_set (d : α) (a : Nat) (v : α) : ∀ {l : Sparse α} {c : Nat × α}, c ∈ set d l a v → c.1 = a ∨ c ∈ l
  | [], c, h => by
    simp only [set, cons] at h
    split at h <;> simp_all
  | (k, w) :: t, c, h => by
    simp only [set, cons] at h
    split at h
    · split at h
      · exact .inr h
      · rcases List.mem_cons.mp h with h | h
        · exact .inl (by rw [h])
        · exact .inr h
    · split at h
      · split at h
        · exact .inr (List.mem_cons_of_mem _ h)
        · rcases List.mem_cons.mp h with h | h
          · exact .inl (by rw [h])
          · exact .inr (List.mem_cons_of_mem _ h)
      · rcases List.mem_cons.mp h with h | h
        · exact .inr (by rw [h]; exact List.mem_cons_self)
        · rcases mem_set d a v h with h | h
          · exact .inl h
          · exact .inr (List.mem_cons_of_mem _ h)

end Sys2Proof.Sparse
end

