-- ==== Sys2Proof/Laws/State.lean ====
section
/-!
SUPPORT. One lemma for each field and each named update of State: what a read of the field gives after the
update. All are true by definition.
-/

namespace Sys2Proof.Machine.State

@[simp] theorem setReg_regs (s : State) (r : Reg) (v : Word) : (s.setReg r v).regs = s.regs.set r.toNat v r.isLt := rfl
@[simp] theorem setReg_priv (s : State) (r : Reg) (v : Word) : (s.setReg r v).priv = s.priv := rfl
@[simp] theorem setReg_cc (s : State) (r : Reg) (v : Word) : (s.setReg r v).cc = s.cc := rfl
@[simp] theorem setReg_ext (s : State) (r : Reg) (v : Word) : (s.setReg r v).ext = s.ext := rfl
@[simp] theorem setReg_hist (s : State) (r : Reg) (v : Word) : (s.setReg r v).hist = s.hist := rfl
@[simp] theorem setReg_aexp (s : State) (r : Reg) (v : Word) : (s.setReg r v).aexp = s.aexp := rfl
@[simp] theorem setReg_pc (s : State) (r : Reg) (v : Word) : (s.setReg r v).pc = s.pc := rfl
@[simp] theorem setReg_psd2 (s : State) (r : Reg) (v : Word) : (s.setReg r v).psd2 = s.psd2 := rfl
@[simp] theorem setReg_mode (s : State) (r : Reg) (v : Word) : (s.setReg r v).mode = s.mode := rfl
@[simp] theorem setReg_bmtEn (s : State) (r : Reg) (v : Word) : (s.setReg r v).bmtEn = s.bmtEn := rfl
@[simp] theorem setReg_psdTrapEn (s : State) (r : Reg) (v : Word) : (s.setReg r v).psdTrapEn = s.psdTrapEn := rfl
@[simp] theorem setReg_scratch (s : State) (r : Reg) (v : Word) : (s.setReg r v).scratch = s.scratch := rfl
@[simp] theorem setReg_mapRegs (s : State) (r : Reg) (v : Word) : (s.setReg r v).mapRegs = s.mapRegs := rfl
@[simp] theorem setReg_mapActive (s : State) (r : Reg) (v : Word) : (s.setReg r v).mapActive = s.mapActive := rfl
@[simp] theorem setReg_blocked (s : State) (r : Reg) (v : Word) : (s.setReg r v).blocked = s.blocked := rfl
@[simp] theorem setReg_blockCount (s : State) (r : Reg) (v : Word) : (s.setReg r v).blockCount = s.blockCount := rfl
@[simp] theorem setReg_prot (s : State) (r : Reg) (v : Word) : (s.setReg r v).prot = s.prot := rfl
@[simp] theorem setReg_enabled (s : State) (r : Reg) (v : Word) : (s.setReg r v).enabled = s.enabled := rfl
@[simp] theorem setReg_request (s : State) (r : Reg) (v : Word) : (s.setReg r v).request = s.request := rfl
@[simp] theorem setReg_active (s : State) (r : Reg) (v : Word) : (s.setReg r v).active = s.active := rfl
@[simp] theorem setReg_noIntNext (s : State) (r : Reg) (v : Word) : (s.setReg r v).noIntNext = s.noIntNext := rfl
@[simp] theorem setReg_csw (s : State) (r : Reg) (v : Word) : (s.setReg r v).csw = s.csw := rfl
@[simp] theorem setReg_run (s : State) (r : Reg) (v : Word) : (s.setReg r v).run = s.run := rfl
@[simp] theorem setReg_wcs (s : State) (r : Reg) (v : Word) : (s.setReg r v).wcs = s.wcs := rfl
@[simp] theorem setReg_ecwcsArmed (s : State) (r : Reg) (v : Word) : (s.setReg r v).ecwcsArmed = s.ecwcsArmed := rfl
@[simp] theorem setReg_dev (s : State) (r : Reg) (v : Word) : (s.setReg r v).dev = s.dev := rfl
@[simp] theorem setReg_int (s : State) (r : Reg) (v : Word) : (s.setReg r v).int = s.int := rfl
@[simp] theorem setReg_mem (s : State) (r : Reg) (v : Word) : (s.setReg r v).mem = s.mem := rfl
@[simp] theorem setReg_stops (s : State) (r : Reg) (v : Word) : (s.setReg r v).stops = s.stops := rfl
@[simp] theorem setReg_panel (s : State) (r : Reg) (v : Word) : (s.setReg r v).panel = s.panel := rfl
@[simp] theorem setReg_haltReq (s : State) (r : Reg) (v : Word) : (s.setReg r v).haltReq = s.haltReq := rfl
@[simp] theorem setReg_lastBix (s : State) (r : Reg) (v : Word) : (s.setReg r v).lastBix = s.lastBix := rfl
@[simp] theorem setReg_fetchParity (s : State) (r : Reg) (v : Word) : (s.setReg r v).fetchParity = s.fetchParity := rfl
@[simp] theorem setReg_operandParity (s : State) (r : Reg) (v : Word) : (s.setReg r v).operandParity = s.operandParity := rfl
@[simp] theorem setReg_inputs (s : State) (r : Reg) (v : Word) : (s.setReg r v).inputs = s.inputs := rfl
@[simp] theorem setReg_between (s : State) (r : Reg) (v : Word) : (s.setReg r v).between = s.between := rfl
@[simp] theorem setReg_devReplies (s : State) (r : Reg) (v : Word) : (s.setReg r v).devReplies = s.devReplies := rfl
@[simp] theorem setReg_chanReplies (s : State) (r : Reg) (v : Word) : (s.setReg r v).chanReplies = s.chanReplies := rfl
@[simp] theorem setReg_ackReplies (s : State) (r : Reg) (v : Word) : (s.setReg r v).ackReplies = s.ackReplies := rfl
@[simp] theorem setReg_wcsReplies (s : State) (r : Reg) (v : Word) : (s.setReg r v).wcsReplies = s.wcsReplies := rfl
@[simp] theorem setReg_sent (s : State) (r : Reg) (v : Word) : (s.setReg r v).sent = s.sent := rfl
@[simp] theorem setReg_freeCount (s : State) (r : Reg) (v : Word) : (s.setReg r v).freeCount = s.freeCount := rfl
@[simp] theorem setReg_cfg (s : State) (r : Reg) (v : Word) : (s.setReg r v).cfg = s.cfg := rfl

@[simp] theorem setPair_priv (s : State) (r : Reg) (v : Dword) : (s.setPair r v).priv = s.priv := rfl
@[simp] theorem setPair_cc (s : State) (r : Reg) (v : Dword) : (s.setPair r v).cc = s.cc := rfl
@[simp] theorem setPair_ext (s : State) (r : Reg) (v : Dword) : (s.setPair r v).ext = s.ext := rfl
@[simp] theorem setPair_hist (s : State) (r : Reg) (v : Dword) : (s.setPair r v).hist = s.hist := rfl
@[simp] theorem setPair_aexp (s : State) (r : Reg) (v : Dword) : (s.setPair r v).aexp = s.aexp := rfl
@[simp] theorem setPair_pc (s : State) (r : Reg) (v : Dword) : (s.setPair r v).pc = s.pc := rfl
@[simp] theorem setPair_psd2 (s : State) (r : Reg) (v : Dword) : (s.setPair r v).psd2 = s.psd2 := rfl
@[simp] theorem setPair_mode (s : State) (r : Reg) (v : Dword) : (s.setPair r v).mode = s.mode := rfl
@[simp] theorem setPair_bmtEn (s : State) (r : Reg) (v : Dword) : (s.setPair r v).bmtEn = s.bmtEn := rfl
@[simp] theorem setPair_psdTrapEn (s : State) (r : Reg) (v : Dword) : (s.setPair r v).psdTrapEn = s.psdTrapEn := rfl
@[simp] theorem setPair_scratch (s : State) (r : Reg) (v : Dword) : (s.setPair r v).scratch = s.scratch := rfl
@[simp] theorem setPair_mapRegs (s : State) (r : Reg) (v : Dword) : (s.setPair r v).mapRegs = s.mapRegs := rfl
@[simp] theorem setPair_mapActive (s : State) (r : Reg) (v : Dword) : (s.setPair r v).mapActive = s.mapActive := rfl
@[simp] theorem setPair_blocked (s : State) (r : Reg) (v : Dword) : (s.setPair r v).blocked = s.blocked := rfl
@[simp] theorem setPair_blockCount (s : State) (r : Reg) (v : Dword) : (s.setPair r v).blockCount = s.blockCount := rfl
@[simp] theorem setPair_prot (s : State) (r : Reg) (v : Dword) : (s.setPair r v).prot = s.prot := rfl
@[simp] theorem setPair_enabled (s : State) (r : Reg) (v : Dword) : (s.setPair r v).enabled = s.enabled := rfl
@[simp] theorem setPair_request (s : State) (r : Reg) (v : Dword) : (s.setPair r v).request = s.request := rfl
@[simp] theorem setPair_active (s : State) (r : Reg) (v : Dword) : (s.setPair r v).active = s.active := rfl
@[simp] theorem setPair_noIntNext (s : State) (r : Reg) (v : Dword) : (s.setPair r v).noIntNext = s.noIntNext := rfl
@[simp] theorem setPair_csw (s : State) (r : Reg) (v : Dword) : (s.setPair r v).csw = s.csw := rfl
@[simp] theorem setPair_run (s : State) (r : Reg) (v : Dword) : (s.setPair r v).run = s.run := rfl
@[simp] theorem setPair_wcs (s : State) (r : Reg) (v : Dword) : (s.setPair r v).wcs = s.wcs := rfl
@[simp] theorem setPair_ecwcsArmed (s : State) (r : Reg) (v : Dword) : (s.setPair r v).ecwcsArmed = s.ecwcsArmed := rfl
@[simp] theorem setPair_dev (s : State) (r : Reg) (v : Dword) : (s.setPair r v).dev = s.dev := rfl
@[simp] theorem setPair_int (s : State) (r : Reg) (v : Dword) : (s.setPair r v).int = s.int := rfl
@[simp] theorem setPair_mem (s : State) (r : Reg) (v : Dword) : (s.setPair r v).mem = s.mem := rfl
@[simp] theorem setPair_stops (s : State) (r : Reg) (v : Dword) : (s.setPair r v).stops = s.stops := rfl
@[simp] theorem setPair_panel (s : State) (r : Reg) (v : Dword) : (s.setPair r v).panel = s.panel := rfl
@[simp] theorem setPair_haltReq (s : State) (r : Reg) (v : Dword) : (s.setPair r v).haltReq = s.haltReq := rfl
@[simp] theorem setPair_lastBix (s : State) (r : Reg) (v : Dword) : (s.setPair r v).lastBix = s.lastBix := rfl
@[simp] theorem setPair_fetchParity (s : State) (r : Reg) (v : Dword) : (s.setPair r v).fetchParity = s.fetchParity := rfl
@[simp] theorem setPair_operandParity (s : State) (r : Reg) (v : Dword) : (s.setPair r v).operandParity = s.operandParity := rfl
@[simp] theorem setPair_inputs (s : State) (r : Reg) (v : Dword) : (s.setPair r v).inputs = s.inputs := rfl
@[simp] theorem setPair_between (s : State) (r : Reg) (v : Dword) : (s.setPair r v).between = s.between := rfl
@[simp] theorem setPair_devReplies (s : State) (r : Reg) (v : Dword) : (s.setPair r v).devReplies = s.devReplies := rfl
@[simp] theorem setPair_chanReplies (s : State) (r : Reg) (v : Dword) : (s.setPair r v).chanReplies = s.chanReplies := rfl
@[simp] theorem setPair_ackReplies (s : State) (r : Reg) (v : Dword) : (s.setPair r v).ackReplies = s.ackReplies := rfl
@[simp] theorem setPair_wcsReplies (s : State) (r : Reg) (v : Dword) : (s.setPair r v).wcsReplies = s.wcsReplies := rfl
@[simp] theorem setPair_sent (s : State) (r : Reg) (v : Dword) : (s.setPair r v).sent = s.sent := rfl
@[simp] theorem setPair_freeCount (s : State) (r : Reg) (v : Dword) : (s.setPair r v).freeCount = s.freeCount := rfl
@[simp] theorem setPair_cfg (s : State) (r : Reg) (v : Dword) : (s.setPair r v).cfg = s.cfg := rfl

@[simp] theorem setCC_regs (s : State) (c : CC) : (s.setCC c).regs = s.regs := rfl
@[simp] theorem setCC_priv (s : State) (c : CC) : (s.setCC c).priv = s.priv := rfl
@[simp] theorem setCC_cc (s : State) (c : CC) : (s.setCC c).cc = c := rfl
@[simp] theorem setCC_ext (s : State) (c : CC) : (s.setCC c).ext = s.ext := rfl
@[simp] theorem setCC_hist (s : State) (c : CC) : (s.setCC c).hist = s.hist := rfl
@[simp] theorem setCC_aexp (s : State) (c : CC) : (s.setCC c).aexp = s.aexp := rfl
@[simp] theorem setCC_pc (s : State) (c : CC) : (s.setCC c).pc = s.pc := rfl
@[simp] theorem setCC_psd2 (s : State) (c : CC) : (s.setCC c).psd2 = s.psd2 := rfl
@[simp] theorem setCC_mode (s : State) (c : CC) : (s.setCC c).mode = s.mode := rfl
@[simp] theorem setCC_bmtEn (s : State) (c : CC) : (s.setCC c).bmtEn = s.bmtEn := rfl
@[simp] theorem setCC_psdTrapEn (s : State) (c : CC) : (s.setCC c).psdTrapEn = s.psdTrapEn := rfl
@[simp] theorem setCC_scratch (s : State) (c : CC) : (s.setCC c).scratch = s.scratch := rfl
@[simp] theorem setCC_mapRegs (s : State) (c : CC) : (s.setCC c).mapRegs = s.mapRegs := rfl
@[simp] theorem setCC_mapActive (s : State) (c : CC) : (s.setCC c).mapActive = s.mapActive := rfl
@[simp] theorem setCC_blocked (s : State) (c : CC) : (s.setCC c).blocked = s.blocked := rfl
@[simp] theorem setCC_blockCount (s : State) (c : CC) : (s.setCC c).blockCount = s.blockCount := rfl
@[simp] theorem setCC_prot (s : State) (c : CC) : (s.setCC c).prot = s.prot := rfl
@[simp] theorem setCC_enabled (s : State) (c : CC) : (s.setCC c).enabled = s.enabled := rfl
@[simp] theorem setCC_request (s : State) (c : CC) : (s.setCC c).request = s.request := rfl
@[simp] theorem setCC_active (s : State) (c : CC) : (s.setCC c).active = s.active := rfl
@[simp] theorem setCC_noIntNext (s : State) (c : CC) : (s.setCC c).noIntNext = s.noIntNext := rfl
@[simp] theorem setCC_csw (s : State) (c : CC) : (s.setCC c).csw = s.csw := rfl
@[simp] theorem setCC_run (s : State) (c : CC) : (s.setCC c).run = s.run := rfl
@[simp] theorem setCC_wcs (s : State) (c : CC) : (s.setCC c).wcs = s.wcs := rfl
@[simp] theorem setCC_ecwcsArmed (s : State) (c : CC) : (s.setCC c).ecwcsArmed = s.ecwcsArmed := rfl
@[simp] theorem setCC_dev (s : State) (c : CC) : (s.setCC c).dev = s.dev := rfl
@[simp] theorem setCC_int (s : State) (c : CC) : (s.setCC c).int = s.int := rfl
@[simp] theorem setCC_mem (s : State) (c : CC) : (s.setCC c).mem = s.mem := rfl
@[simp] theorem setCC_stops (s : State) (c : CC) : (s.setCC c).stops = s.stops := rfl
@[simp] theorem setCC_panel (s : State) (c : CC) : (s.setCC c).panel = s.panel := rfl
@[simp] theorem setCC_haltReq (s : State) (c : CC) : (s.setCC c).haltReq = s.haltReq := rfl
@[simp] theorem setCC_lastBix (s : State) (c : CC) : (s.setCC c).lastBix = s.lastBix := rfl
@[simp] theorem setCC_fetchParity (s : State) (c : CC) : (s.setCC c).fetchParity = s.fetchParity := rfl
@[simp] theorem setCC_operandParity (s : State) (c : CC) : (s.setCC c).operandParity = s.operandParity := rfl
@[simp] theorem setCC_inputs (s : State) (c : CC) : (s.setCC c).inputs = s.inputs := rfl
@[simp] theorem setCC_between (s : State) (c : CC) : (s.setCC c).between = s.between := rfl
@[simp] theorem setCC_devReplies (s : State) (c : CC) : (s.setCC c).devReplies = s.devReplies := rfl
@[simp] theorem setCC_chanReplies (s : State) (c : CC) : (s.setCC c).chanReplies = s.chanReplies := rfl
@[simp] theorem setCC_ackReplies (s : State) (c : CC) : (s.setCC c).ackReplies = s.ackReplies := rfl
@[simp] theorem setCC_wcsReplies (s : State) (c : CC) : (s.setCC c).wcsReplies = s.wcsReplies := rfl
@[simp] theorem setCC_sent (s : State) (c : CC) : (s.setCC c).sent = s.sent := rfl
@[simp] theorem setCC_freeCount (s : State) (c : CC) : (s.setCC c).freeCount = s.freeCount := rfl
@[simp] theorem setCC_cfg (s : State) (c : CC) : (s.setCC c).cfg = s.cfg := rfl

@[simp] theorem setPc_regs (s : State) (p : HAddr) : (s.setPc p).regs = s.regs := rfl
@[simp] theorem setPc_priv (s : State) (p : HAddr) : (s.setPc p).priv = s.priv := rfl
@[simp] theorem setPc_cc (s : State) (p : HAddr) : (s.setPc p).cc = s.cc := rfl
@[simp] theorem setPc_ext (s : State) (p : HAddr) : (s.setPc p).ext = s.ext := rfl
@[simp] theorem setPc_hist (s : State) (p : HAddr) : (s.setPc p).hist = s.hist := rfl
@[simp] theorem setPc_aexp (s : State) (p : HAddr) : (s.setPc p).aexp = s.aexp := rfl
@[simp] theorem setPc_pc (s : State) (p : HAddr) : (s.setPc p).pc = p := rfl
@[simp] theorem setPc_psd2 (s : State) (p : HAddr) : (s.setPc p).psd2 = s.psd2 := rfl
@[simp] theorem setPc_mode (s : State) (p : HAddr) : (s.setPc p).mode = s.mode := rfl
@[simp] theorem setPc_bmtEn (s : State) (p : HAddr) : (s.setPc p).bmtEn = s.bmtEn := rfl
@[simp] theorem setPc_psdTrapEn (s : State) (p : HAddr) : (s.setPc p).psdTrapEn = s.psdTrapEn := rfl
@[simp] theorem setPc_scratch (s : State) (p : HAddr) : (s.setPc p).scratch = s.scratch := rfl
@[simp] theorem setPc_mapRegs (s : State) (p : HAddr) : (s.setPc p).mapRegs = s.mapRegs := rfl
@[simp] theorem setPc_mapActive (s : State) (p : HAddr) : (s.setPc p).mapActive = s.mapActive := rfl
@[simp] theorem setPc_blocked (s : State) (p : HAddr) : (s.setPc p).blocked = s.blocked := rfl
@[simp] theorem setPc_blockCount (s : State) (p : HAddr) : (s.setPc p).blockCount = s.blockCount := rfl
@[simp] theorem setPc_prot (s : State) (p : HAddr) : (s.setPc p).prot = s.prot := rfl
@[simp] theorem setPc_enabled (s : State) (p : HAddr) : (s.setPc p).enabled = s.enabled := rfl
@[simp] theorem setPc_request (s : State) (p : HAddr) : (s.setPc p).request = s.request := rfl
@[simp] theorem setPc_active (s : State) (p : HAddr) : (s.setPc p).active = s.active := rfl
@[simp] theorem setPc_noIntNext (s : State) (p : HAddr) : (s.setPc p).noIntNext = s.noIntNext := rfl
@[simp] theorem setPc_csw (s : State) (p : HAddr) : (s.setPc p).csw = s.csw := rfl
@[simp] theorem setPc_run (s : State) (p : HAddr) : (s.setPc p).run = s.run := rfl
@[simp] theorem setPc_wcs (s : State) (p : HAddr) : (s.setPc p).wcs = s.wcs := rfl
@[simp] theorem setPc_ecwcsArmed (s : State) (p : HAddr) : (s.setPc p).ecwcsArmed = s.ecwcsArmed := rfl
@[simp] theorem setPc_dev (s : State) (p : HAddr) : (s.setPc p).dev = s.dev := rfl
@[simp] theorem setPc_int (s : State) (p : HAddr) : (s.setPc p).int = s.int := rfl
@[simp] theorem setPc_mem (s : State) (p : HAddr) : (s.setPc p).mem = s.mem := rfl
@[simp] theorem setPc_stops (s : State) (p : HAddr) : (s.setPc p).stops = s.stops := rfl
@[simp] theorem setPc_panel (s : State) (p : HAddr) : (s.setPc p).panel = s.panel := rfl
@[simp] theorem setPc_haltReq (s : State) (p : HAddr) : (s.setPc p).haltReq = s.haltReq := rfl
@[simp] theorem setPc_lastBix (s : State) (p : HAddr) : (s.setPc p).lastBix = s.lastBix := rfl
@[simp] theorem setPc_fetchParity (s : State) (p : HAddr) : (s.setPc p).fetchParity = s.fetchParity := rfl
@[simp] theorem setPc_operandParity (s : State) (p : HAddr) : (s.setPc p).operandParity = s.operandParity := rfl
@[simp] theorem setPc_inputs (s : State) (p : HAddr) : (s.setPc p).inputs = s.inputs := rfl
@[simp] theorem setPc_between (s : State) (p : HAddr) : (s.setPc p).between = s.between := rfl
@[simp] theorem setPc_devReplies (s : State) (p : HAddr) : (s.setPc p).devReplies = s.devReplies := rfl
@[simp] theorem setPc_chanReplies (s : State) (p : HAddr) : (s.setPc p).chanReplies = s.chanReplies := rfl
@[simp] theorem setPc_ackReplies (s : State) (p : HAddr) : (s.setPc p).ackReplies = s.ackReplies := rfl
@[simp] theorem setPc_wcsReplies (s : State) (p : HAddr) : (s.setPc p).wcsReplies = s.wcsReplies := rfl
@[simp] theorem setPc_sent (s : State) (p : HAddr) : (s.setPc p).sent = s.sent := rfl
@[simp] theorem setPc_freeCount (s : State) (p : HAddr) : (s.setPc p).freeCount = s.freeCount := rfl
@[simp] theorem setPc_cfg (s : State) (p : HAddr) : (s.setPc p).cfg = s.cfg := rfl

@[simp] theorem setHist_regs (s : State) (b : Bool) : (s.setHist b).regs = s.regs := rfl
@[simp] theorem setHist_priv (s : State) (b : Bool) : (s.setHist b).priv = s.priv := rfl
@[simp] theorem setHist_cc (s : State) (b : Bool) : (s.setHist b).cc = s.cc := rfl
@[simp] theorem setHist_ext (s : State) (b : Bool) : (s.setHist b).ext = s.ext := rfl
@[simp] theorem setHist_hist (s : State) (b : Bool) : (s.setHist b).hist = b := rfl
@[simp] theorem setHist_aexp (s : State) (b : Bool) : (s.setHist b).aexp = s.aexp := rfl
@[simp] theorem setHist_pc (s : State) (b : Bool) : (s.setHist b).pc = s.pc := rfl
@[simp] theorem setHist_psd2 (s : State) (b : Bool) : (s.setHist b).psd2 = s.psd2 := rfl
@[simp] theorem setHist_mode (s : State) (b : Bool) : (s.setHist b).mode = s.mode := rfl
@[simp] theorem setHist_bmtEn (s : State) (b : Bool) : (s.setHist b).bmtEn = s.bmtEn := rfl
@[simp] theorem setHist_psdTrapEn (s : State) (b : Bool) : (s.setHist b).psdTrapEn = s.psdTrapEn := rfl
@[simp] theorem setHist_scratch (s : State) (b : Bool) : (s.setHist b).scratch = s.scratch := rfl
@[simp] theorem setHist_mapRegs (s : State) (b : Bool) : (s.setHist b).mapRegs = s.mapRegs := rfl
@[simp] theorem setHist_mapActive (s : State) (b : Bool) : (s.setHist b).mapActive = s.mapActive := rfl
@[simp] theorem setHist_blocked (s : State) (b : Bool) : (s.setHist b).blocked = s.blocked := rfl
@[simp] theorem setHist_blockCount (s : State) (b : Bool) : (s.setHist b).blockCount = s.blockCount := rfl
@[simp] theorem setHist_prot (s : State) (b : Bool) : (s.setHist b).prot = s.prot := rfl
@[simp] theorem setHist_enabled (s : State) (b : Bool) : (s.setHist b).enabled = s.enabled := rfl
@[simp] theorem setHist_request (s : State) (b : Bool) : (s.setHist b).request = s.request := rfl
@[simp] theorem setHist_active (s : State) (b : Bool) : (s.setHist b).active = s.active := rfl
@[simp] theorem setHist_noIntNext (s : State) (b : Bool) : (s.setHist b).noIntNext = s.noIntNext := rfl
@[simp] theorem setHist_csw (s : State) (b : Bool) : (s.setHist b).csw = s.csw := rfl
@[simp] theorem setHist_run (s : State) (b : Bool) : (s.setHist b).run = s.run := rfl
@[simp] theorem setHist_wcs (s : State) (b : Bool) : (s.setHist b).wcs = s.wcs := rfl
@[simp] theorem setHist_ecwcsArmed (s : State) (b : Bool) : (s.setHist b).ecwcsArmed = s.ecwcsArmed := rfl
@[simp] theorem setHist_dev (s : State) (b : Bool) : (s.setHist b).dev = s.dev := rfl
@[simp] theorem setHist_int (s : State) (b : Bool) : (s.setHist b).int = s.int := rfl
@[simp] theorem setHist_mem (s : State) (b : Bool) : (s.setHist b).mem = s.mem := rfl
@[simp] theorem setHist_stops (s : State) (b : Bool) : (s.setHist b).stops = s.stops := rfl
@[simp] theorem setHist_panel (s : State) (b : Bool) : (s.setHist b).panel = s.panel := rfl
@[simp] theorem setHist_haltReq (s : State) (b : Bool) : (s.setHist b).haltReq = s.haltReq := rfl
@[simp] theorem setHist_lastBix (s : State) (b : Bool) : (s.setHist b).lastBix = s.lastBix := rfl
@[simp] theorem setHist_fetchParity (s : State) (b : Bool) : (s.setHist b).fetchParity = s.fetchParity := rfl
@[simp] theorem setHist_operandParity (s : State) (b : Bool) : (s.setHist b).operandParity = s.operandParity := rfl
@[simp] theorem setHist_inputs (s : State) (b : Bool) : (s.setHist b).inputs = s.inputs := rfl
@[simp] theorem setHist_between (s : State) (b : Bool) : (s.setHist b).between = s.between := rfl
@[simp] theorem setHist_devReplies (s : State) (b : Bool) : (s.setHist b).devReplies = s.devReplies := rfl
@[simp] theorem setHist_chanReplies (s : State) (b : Bool) : (s.setHist b).chanReplies = s.chanReplies := rfl
@[simp] theorem setHist_ackReplies (s : State) (b : Bool) : (s.setHist b).ackReplies = s.ackReplies := rfl
@[simp] theorem setHist_wcsReplies (s : State) (b : Bool) : (s.setHist b).wcsReplies = s.wcsReplies := rfl
@[simp] theorem setHist_sent (s : State) (b : Bool) : (s.setHist b).sent = s.sent := rfl
@[simp] theorem setHist_freeCount (s : State) (b : Bool) : (s.setHist b).freeCount = s.freeCount := rfl
@[simp] theorem setHist_cfg (s : State) (b : Bool) : (s.setHist b).cfg = s.cfg := rfl

@[simp] theorem setRun_regs (s : State) (x : Run) : (s.setRun x).regs = s.regs := rfl
@[simp] theorem setRun_priv (s : State) (x : Run) : (s.setRun x).priv = s.priv := rfl
@[simp] theorem setRun_cc (s : State) (x : Run) : (s.setRun x).cc = s.cc := rfl
@[simp] theorem setRun_ext (s : State) (x : Run) : (s.setRun x).ext = s.ext := rfl
@[simp] theorem setRun_hist (s : State) (x : Run) : (s.setRun x).hist = s.hist := rfl
@[simp] theorem setRun_aexp (s : State) (x : Run) : (s.setRun x).aexp = s.aexp := rfl
@[simp] theorem setRun_pc (s : State) (x : Run) : (s.setRun x).pc = s.pc := rfl
@[simp] theorem setRun_psd2 (s : State) (x : Run) : (s.setRun x).psd2 = s.psd2 := rfl
@[simp] theorem setRun_mode (s : State) (x : Run) : (s.setRun x).mode = s.mode := rfl
@[simp] theorem setRun_bmtEn (s : State) (x : Run) : (s.setRun x).bmtEn = s.bmtEn := rfl
@[simp] theorem setRun_psdTrapEn (s : State) (x : Run) : (s.setRun x).psdTrapEn = s.psdTrapEn := rfl
@[simp] theorem setRun_scratch (s : State) (x : Run) : (s.setRun x).scratch = s.scratch := rfl
@[simp] theorem setRun_mapRegs (s : State) (x : Run) : (s.setRun x).mapRegs = s.mapRegs := rfl
@[simp] theorem setRun_mapActive (s : State) (x : Run) : (s.setRun x).mapActive = s.mapActive := rfl
@[simp] theorem setRun_blocked (s : State) (x : Run) : (s.setRun x).blocked = s.blocked := rfl
@[simp] theorem setRun_blockCount (s : State) (x : Run) : (s.setRun x).blockCount = s.blockCount := rfl
@[simp] theorem setRun_prot (s : State) (x : Run) : (s.setRun x).prot = s.prot := rfl
@[simp] theorem setRun_enabled (s : State) (x : Run) : (s.setRun x).enabled = s.enabled := rfl
@[simp] theorem setRun_request (s : State) (x : Run) : (s.setRun x).request = s.request := rfl
@[simp] theorem setRun_active (s : State) (x : Run) : (s.setRun x).active = s.active := rfl
@[simp] theorem setRun_noIntNext (s : State) (x : Run) : (s.setRun x).noIntNext = s.noIntNext := rfl
@[simp] theorem setRun_csw (s : State) (x : Run) : (s.setRun x).csw = s.csw := rfl
@[simp] theorem setRun_run (s : State) (x : Run) : (s.setRun x).run = x := rfl
@[simp] theorem setRun_wcs (s : State) (x : Run) : (s.setRun x).wcs = s.wcs := rfl
@[simp] theorem setRun_ecwcsArmed (s : State) (x : Run) : (s.setRun x).ecwcsArmed = s.ecwcsArmed := rfl
@[simp] theorem setRun_dev (s : State) (x : Run) : (s.setRun x).dev = s.dev := rfl
@[simp] theorem setRun_int (s : State) (x : Run) : (s.setRun x).int = s.int := rfl
@[simp] theorem setRun_mem (s : State) (x : Run) : (s.setRun x).mem = s.mem := rfl
@[simp] theorem setRun_stops (s : State) (x : Run) : (s.setRun x).stops = s.stops := rfl
@[simp] theorem setRun_panel (s : State) (x : Run) : (s.setRun x).panel = s.panel := rfl
@[simp] theorem setRun_haltReq (s : State) (x : Run) : (s.setRun x).haltReq = s.haltReq := rfl
@[simp] theorem setRun_lastBix (s : State) (x : Run) : (s.setRun x).lastBix = s.lastBix := rfl
@[simp] theorem setRun_fetchParity (s : State) (x : Run) : (s.setRun x).fetchParity = s.fetchParity := rfl
@[simp] theorem setRun_operandParity (s : State) (x : Run) : (s.setRun x).operandParity = s.operandParity := rfl
@[simp] theorem setRun_inputs (s : State) (x : Run) : (s.setRun x).inputs = s.inputs := rfl
@[simp] theorem setRun_between (s : State) (x : Run) : (s.setRun x).between = s.between := rfl
@[simp] theorem setRun_devReplies (s : State) (x : Run) : (s.setRun x).devReplies = s.devReplies := rfl
@[simp] theorem setRun_chanReplies (s : State) (x : Run) : (s.setRun x).chanReplies = s.chanReplies := rfl
@[simp] theorem setRun_ackReplies (s : State) (x : Run) : (s.setRun x).ackReplies = s.ackReplies := rfl
@[simp] theorem setRun_wcsReplies (s : State) (x : Run) : (s.setRun x).wcsReplies = s.wcsReplies := rfl
@[simp] theorem setRun_sent (s : State) (x : Run) : (s.setRun x).sent = s.sent := rfl
@[simp] theorem setRun_freeCount (s : State) (x : Run) : (s.setRun x).freeCount = s.freeCount := rfl
@[simp] theorem setRun_cfg (s : State) (x : Run) : (s.setRun x).cfg = s.cfg := rfl

@[simp] theorem setCell_regs (s : State) (i : BitVec 8) (v : Word) : (s.setCell i v).regs = s.regs := rfl
@[simp] theorem setCell_priv (s : State) (i : BitVec 8) (v : Word) : (s.setCell i v).priv = s.priv := rfl
@[simp] theorem setCell_cc (s : State) (i : BitVec 8) (v : Word) : (s.setCell i v).cc = s.cc := rfl
@[simp] theorem setCell_ext (s : State) (i : BitVec 8) (v : Word) : (s.setCell i v).ext = s.ext := rfl
@[simp] theorem setCell_hist (s : State) (i : BitVec 8) (v : Word) : (s.setCell i v).hist = s.hist := rfl
@[simp] theorem setCell_aexp (s : State) (i : BitVec 8) (v : Word) : (s.setCell i v).aexp = s.aexp := rfl
@[simp] theorem setCell_pc (s : State) (i : BitVec 8) (v : Word) : (s.setCell i v).pc = s.pc := rfl
@[simp] theorem setCell_psd2 (s : State) (i : BitVec 8) (v : Word) : (s.setCell i v).psd2 = s.psd2 := rfl
@[simp] theorem setCell_mode (s : State) (i : BitVec 8) (v : Word) : (s.setCell i v).mode = s.mode := rfl
@[simp] theorem setCell_bmtEn (s : State) (i : BitVec 8) (v : Word) : (s.setCell i v).bmtEn = s.bmtEn := rfl
@[simp] theorem setCell_psdTrapEn (s : State) (i : BitVec 8) (v : Word) : (s.setCell i v).psdTrapEn = s.psdTrapEn := rfl
@[simp] theorem setCell_mapRegs (s : State) (i : BitVec 8) (v : Word) : (s.setCell i v).mapRegs = s.mapRegs := rfl
@[simp] theorem setCell_mapActive (s : State) (i : BitVec 8) (v : Word) : (s.setCell i v).mapActive = s.mapActive := rfl
@[simp] theorem setCell_blocked (s : State) (i : BitVec 8) (v : Word) : (s.setCell i v).blocked = s.blocked := rfl
@[simp] theorem setCell_blockCount (s : State) (i : BitVec 8) (v : Word) : (s.setCell i v).blockCount = s.blockCount := rfl
@[simp] theorem setCell_prot (s : State) (i : BitVec 8) (v : Word) : (s.setCell i v).prot = s.prot := rfl
@[simp] theorem setCell_enabled (s : State) (i : BitVec 8) (v : Word) : (s.setCell i v).enabled = s.enabled := rfl
@[simp] theorem setCell_request (s : State) (i : BitVec 8) (v : Word) : (s.setCell i v).request = s.request := rfl
@[simp] theorem setCell_active (s : State) (i : BitVec 8) (v : Word) : (s.setCell i v).active = s.active := rfl
@[simp] theorem setCell_noIntNext (s : State) (i : BitVec 8) (v : Word) : (s.setCell i v).noIntNext = s.noIntNext := rfl
@[simp] theorem setCell_csw (s : State) (i : BitVec 8) (v : Word) : (s.setCell i v).csw = s.csw := rfl
@[simp] theorem setCell_run (s : State) (i : BitVec 8) (v : Word) : (s.setCell i v).run = s.run := rfl
@[simp] theorem setCell_wcs (s : State) (i : BitVec 8) (v : Word) : (s.setCell i v).wcs = s.wcs := rfl
@[simp] theorem setCell_ecwcsArmed (s : State) (i : BitVec 8) (v : Word) : (s.setCell i v).ecwcsArmed = s.ecwcsArmed := rfl
@[simp] theorem setCell_dev (s : State) (i : BitVec 8) (v : Word) : (s.setCell i v).dev = s.dev := rfl
@[simp] theorem setCell_int (s : State) (i : BitVec 8) (v : Word) : (s.setCell i v).int = s.int := rfl
@[simp] theorem setCell_mem (s : State) (i : BitVec 8) (v : Word) : (s.setCell i v).mem = s.mem := rfl
@[simp] theorem setCell_stops (s : State) (i : BitVec 8) (v : Word) : (s.setCell i v).stops = s.stops := rfl
@[simp] theorem setCell_panel (s : State) (i : BitVec 8) (v : Word) : (s.setCell i v).panel = s.panel := rfl
@[simp] theorem setCell_haltReq (s : State) (i : BitVec 8) (v : Word) : (s.setCell i v).haltReq = s.haltReq := rfl
@[simp] theorem setCell_lastBix (s : State) (i : BitVec 8) (v : Word) : (s.setCell i v).lastBix = s.lastBix := rfl
@[simp] theorem setCell_fetchParity (s : State) (i : BitVec 8) (v : Word) : (s.setCell i v).fetchParity = s.fetchParity := rfl
@[simp] theorem setCell_operandParity (s : State) (i : BitVec 8) (v : Word) : (s.setCell i v).operandParity = s.operandParity := rfl
@[simp] theorem setCell_inputs (s : State) (i : BitVec 8) (v : Word) : (s.setCell i v).inputs = s.inputs := rfl
@[simp] theorem setCell_between (s : State) (i : BitVec 8) (v : Word) : (s.setCell i v).between = s.between := rfl
@[simp] theorem setCell_devReplies (s : State) (i : BitVec 8) (v : Word) : (s.setCell i v).devReplies = s.devReplies := rfl
@[simp] theorem setCell_chanReplies (s : State) (i : BitVec 8) (v : Word) : (s.setCell i v).chanReplies = s.chanReplies := rfl
@[simp] theorem setCell_ackReplies (s : State) (i : BitVec 8) (v : Word) : (s.setCell i v).ackReplies = s.ackReplies := rfl
@[simp] theorem setCell_wcsReplies (s : State) (i : BitVec 8) (v : Word) : (s.setCell i v).wcsReplies = s.wcsReplies := rfl
@[simp] theorem setCell_sent (s : State) (i : BitVec 8) (v : Word) : (s.setCell i v).sent = s.sent := rfl
@[simp] theorem setCell_freeCount (s : State) (i : BitVec 8) (v : Word) : (s.setCell i v).freeCount = s.freeCount := rfl
@[simp] theorem setCell_cfg (s : State) (i : BitVec 8) (v : Word) : (s.setCell i v).cfg = s.cfg := rfl

@[simp] theorem setStat_regs (s : State) (v : Word) : (s.setStat v).regs = s.regs := rfl
@[simp] theorem setStat_priv (s : State) (v : Word) : (s.setStat v).priv = s.priv := rfl
@[simp] theorem setStat_cc (s : State) (v : Word) : (s.setStat v).cc = s.cc := rfl
@[simp] theorem setStat_ext (s : State) (v : Word) : (s.setStat v).ext = s.ext := rfl
@[simp] theorem setStat_hist (s : State) (v : Word) : (s.setStat v).hist = s.hist := rfl
@[simp] theorem setStat_aexp (s : State) (v : Word) : (s.setStat v).aexp = s.aexp := rfl
@[simp] theorem setStat_pc (s : State) (v : Word) : (s.setStat v).pc = s.pc := rfl
@[simp] theorem setStat_psd2 (s : State) (v : Word) : (s.setStat v).psd2 = s.psd2 := rfl
@[simp] theorem setStat_mode (s : State) (v : Word) : (s.setStat v).mode = s.mode := rfl
@[simp] theorem setStat_bmtEn (s : State) (v : Word) : (s.setStat v).bmtEn = s.bmtEn := rfl
@[simp] theorem setStat_psdTrapEn (s : State) (v : Word) : (s.setStat v).psdTrapEn = s.psdTrapEn := rfl
@[simp] theorem setStat_mapRegs (s : State) (v : Word) : (s.setStat v).mapRegs = s.mapRegs := rfl
@[simp] theorem setStat_mapActive (s : State) (v : Word) : (s.setStat v).mapActive = s.mapActive := rfl
@[simp] theorem setStat_blocked (s : State) (v : Word) : (s.setStat v).blocked = s.blocked := rfl
@[simp] theorem setStat_blockCount (s : State) (v : Word) : (s.setStat v).blockCount = s.blockCount := rfl
@[simp] theorem setStat_prot (s : State) (v : Word) : (s.setStat v).prot = s.prot := rfl
@[simp] theorem setStat_enabled (s : State) (v : Word) : (s.setStat v).enabled = s.enabled := rfl
@[simp] theorem setStat_request (s : State) (v : Word) : (s.setStat v).request = s.request := rfl
@[simp] theorem setStat_active (s : State) (v : Word) : (s.setStat v).active = s.active := rfl
@[simp] theorem setStat_noIntNext (s : State) (v : Word) : (s.setStat v).noIntNext = s.noIntNext := rfl
@[simp] theorem setStat_csw (s : State) (v : Word) : (s.setStat v).csw = s.csw := rfl
@[simp] theorem setStat_run (s : State) (v : Word) : (s.setStat v).run = s.run := rfl
@[simp] theorem setStat_wcs (s : State) (v : Word) : (s.setStat v).wcs = s.wcs := rfl
@[simp] theorem setStat_ecwcsArmed (s : State) (v : Word) : (s.setStat v).ecwcsArmed = s.ecwcsArmed := rfl
@[simp] theorem setStat_dev (s : State) (v : Word) : (s.setStat v).dev = s.dev := rfl
@[simp] theorem setStat_int (s : State) (v : Word) : (s.setStat v).int = s.int := rfl
@[simp] theorem setStat_mem (s : State) (v : Word) : (s.setStat v).mem = s.mem := rfl
@[simp] theorem setStat_stops (s : State) (v : Word) : (s.setStat v).stops = s.stops := rfl
@[simp] theorem setStat_panel (s : State) (v : Word) : (s.setStat v).panel = s.panel := rfl
@[simp] theorem setStat_haltReq (s : State) (v : Word) : (s.setStat v).haltReq = s.haltReq := rfl
@[simp] theorem setStat_lastBix (s : State) (v : Word) : (s.setStat v).lastBix = s.lastBix := rfl
@[simp] theorem setStat_fetchParity (s : State) (v : Word) : (s.setStat v).fetchParity = s.fetchParity := rfl
@[simp] theorem setStat_operandParity (s : State) (v : Word) : (s.setStat v).operandParity = s.operandParity := rfl
@[simp] theorem setStat_inputs (s : State) (v : Word) : (s.setStat v).inputs = s.inputs := rfl
@[simp] theorem setStat_between (s : State) (v : Word) : (s.setStat v).between = s.between := rfl
@[simp] theorem setStat_devReplies (s : State) (v : Word) : (s.setStat v).devReplies = s.devReplies := rfl
@[simp] theorem setStat_chanReplies (s : State) (v : Word) : (s.setStat v).chanReplies = s.chanReplies := rfl
@[simp] theorem setStat_ackReplies (s : State) (v : Word) : (s.setStat v).ackReplies = s.ackReplies := rfl
@[simp] theorem setStat_wcsReplies (s : State) (v : Word) : (s.setStat v).wcsReplies = s.wcsReplies := rfl
@[simp] theorem setStat_sent (s : State) (v : Word) : (s.setStat v).sent = s.sent := rfl
@[simp] theorem setStat_freeCount (s : State) (v : Word) : (s.setStat v).freeCount = s.freeCount := rfl
@[simp] theorem setStat_cfg (s : State) (v : Word) : (s.setStat v).cfg = s.cfg := rfl

@[simp] theorem setStatBit_regs (s : State) (n : Nat) (b : Bool) : (s.setStatBit n b).regs = s.regs := rfl
@[simp] theorem setStatBit_priv (s : State) (n : Nat) (b : Bool) : (s.setStatBit n b).priv = s.priv := rfl
@[simp] theorem setStatBit_cc (s : State) (n : Nat) (b : Bool) : (s.setStatBit n b).cc = s.cc := rfl
@[simp] theorem setStatBit_ext (s : State) (n : Nat) (b : Bool) : (s.setStatBit n b).ext = s.ext := rfl
@[simp] theorem setStatBit_hist (s : State) (n : Nat) (b : Bool) : (s.setStatBit n b).hist = s.hist := rfl
@[simp] theorem setStatBit_aexp (s : State) (n : Nat) (b : Bool) : (s.setStatBit n b).aexp = s.aexp := rfl
@[simp] theorem setStatBit_pc (s : State) (n : Nat) (b : Bool) : (s.setStatBit n b).pc = s.pc := rfl
@[simp] theorem setStatBit_psd2 (s : State) (n : Nat) (b : Bool) : (s.setStatBit n b).psd2 = s.psd2 := rfl
@[simp] theorem setStatBit_mode (s : State) (n : Nat) (b : Bool) : (s.setStatBit n b).mode = s.mode := rfl
@[simp] theorem setStatBit_bmtEn (s : State) (n : Nat) (b : Bool) : (s.setStatBit n b).bmtEn = s.bmtEn := rfl
@[simp] theorem setStatBit_psdTrapEn (s : State) (n : Nat) (b : Bool) : (s.setStatBit n b).psdTrapEn = s.psdTrapEn := rfl
@[simp] theorem setStatBit_mapRegs (s : State) (n : Nat) (b : Bool) : (s.setStatBit n b).mapRegs = s.mapRegs := rfl
@[simp] theorem setStatBit_mapActive (s : State) (n : Nat) (b : Bool) : (s.setStatBit n b).mapActive = s.mapActive := rfl
@[simp] theorem setStatBit_blocked (s : State) (n : Nat) (b : Bool) : (s.setStatBit n b).blocked = s.blocked := rfl
@[simp] theorem setStatBit_blockCount (s : State) (n : Nat) (b : Bool) : (s.setStatBit n b).blockCount = s.blockCount := rfl
@[simp] theorem setStatBit_prot (s : State) (n : Nat) (b : Bool) : (s.setStatBit n b).prot = s.prot := rfl
@[simp] theorem setStatBit_enabled (s : State) (n : Nat) (b : Bool) : (s.setStatBit n b).enabled = s.enabled := rfl
@[simp] theorem setStatBit_request (s : State) (n : Nat) (b : Bool) : (s.setStatBit n b).request = s.request := rfl
@[simp] theorem setStatBit_active (s : State) (n : Nat) (b : Bool) : (s.setStatBit n b).active = s.active := rfl
@[simp] theorem setStatBit_noIntNext (s : State) (n : Nat) (b : Bool) : (s.setStatBit n b).noIntNext = s.noIntNext := rfl
@[simp] theorem setStatBit_csw (s : State) (n : Nat) (b : Bool) : (s.setStatBit n b).csw = s.csw := rfl
@[simp] theorem setStatBit_run (s : State) (n : Nat) (b : Bool) : (s.setStatBit n b).run = s.run := rfl
@[simp] theorem setStatBit_wcs (s : State) (n : Nat) (b : Bool) : (s.setStatBit n b).wcs = s.wcs := rfl
@[simp] theorem setStatBit_ecwcsArmed (s : State) (n : Nat) (b : Bool) : (s.setStatBit n b).ecwcsArmed = s.ecwcsArmed := rfl
@[simp] theorem setStatBit_dev (s : State) (n : Nat) (b : Bool) : (s.setStatBit n b).dev = s.dev := rfl
@[simp] theorem setStatBit_int (s : State) (n : Nat) (b : Bool) : (s.setStatBit n b).int = s.int := rfl
@[simp] theorem setStatBit_mem (s : State) (n : Nat) (b : Bool) : (s.setStatBit n b).mem = s.mem := rfl
@[simp] theorem setStatBit_stops (s : State) (n : Nat) (b : Bool) : (s.setStatBit n b).stops = s.stops := rfl
@[simp] theorem setStatBit_panel (s : State) (n : Nat) (b : Bool) : (s.setStatBit n b).panel = s.panel := rfl
@[simp] theorem setStatBit_haltReq (s : State) (n : Nat) (b : Bool) : (s.setStatBit n b).haltReq = s.haltReq := rfl
@[simp] theorem setStatBit_lastBix (s : State) (n : Nat) (b : Bool) : (s.setStatBit n b).lastBix = s.lastBix := rfl
@[simp] theorem setStatBit_fetchParity (s : State) (n : Nat) (b : Bool) : (s.setStatBit n b).fetchParity = s.fetchParity := rfl
@[simp] theorem setStatBit_operandParity (s : State) (n : Nat) (b : Bool) : (s.setStatBit n b).operandParity = s.operandParity := rfl
@[simp] theorem setStatBit_inputs (s : State) (n : Nat) (b : Bool) : (s.setStatBit n b).inputs = s.inputs := rfl
@[simp] theorem setStatBit_between (s : State) (n : Nat) (b : Bool) : (s.setStatBit n b).between = s.between := rfl
@[simp] theorem setStatBit_devReplies (s : State) (n : Nat) (b : Bool) : (s.setStatBit n b).devReplies = s.devReplies := rfl
@[simp] theorem setStatBit_chanReplies (s : State) (n : Nat) (b : Bool) : (s.setStatBit n b).chanReplies = s.chanReplies := rfl
@[simp] theorem setStatBit_ackReplies (s : State) (n : Nat) (b : Bool) : (s.setStatBit n b).ackReplies = s.ackReplies := rfl
@[simp] theorem setStatBit_wcsReplies (s : State) (n : Nat) (b : Bool) : (s.setStatBit n b).wcsReplies = s.wcsReplies := rfl
@[simp] theorem setStatBit_sent (s : State) (n : Nat) (b : Bool) : (s.setStatBit n b).sent = s.sent := rfl
@[simp] theorem setStatBit_freeCount (s : State) (n : Nat) (b : Bool) : (s.setStatBit n b).freeCount = s.freeCount := rfl
@[simp] theorem setStatBit_cfg (s : State) (n : Nat) (b : Bool) : (s.setStatBit n b).cfg = s.cfg := rfl

@[simp] theorem setMapReg_regs (s : State) (i : BitVec 5) (v : Half) : (s.setMapReg i v).regs = s.regs := rfl
@[simp] theorem setMapReg_priv (s : State) (i : BitVec 5) (v : Half) : (s.setMapReg i v).priv = s.priv := rfl
@[simp] theorem setMapReg_cc (s : State) (i : BitVec 5) (v : Half) : (s.setMapReg i v).cc = s.cc := rfl
@[simp] theorem setMapReg_ext (s : State) (i : BitVec 5) (v : Half) : (s.setMapReg i v).ext = s.ext := rfl
@[simp] theorem setMapReg_hist (s : State) (i : BitVec 5) (v : Half) : (s.setMapReg i v).hist = s.hist := rfl
@[simp] theorem setMapReg_aexp (s : State) (i : BitVec 5) (v : Half) : (s.setMapReg i v).aexp = s.aexp := rfl
@[simp] theorem setMapReg_pc (s : State) (i : BitVec 5) (v : Half) : (s.setMapReg i v).pc = s.pc := rfl
@[simp] theorem setMapReg_psd2 (s : State) (i : BitVec 5) (v : Half) : (s.setMapReg i v).psd2 = s.psd2 := rfl
@[simp] theorem setMapReg_mode (s : State) (i : BitVec 5) (v : Half) : (s.setMapReg i v).mode = s.mode := rfl
@[simp] theorem setMapReg_bmtEn (s : State) (i : BitVec 5) (v : Half) : (s.setMapReg i v).bmtEn = s.bmtEn := rfl
@[simp] theorem setMapReg_psdTrapEn (s : State) (i : BitVec 5) (v : Half) : (s.setMapReg i v).psdTrapEn = s.psdTrapEn := rfl
@[simp] theorem setMapReg_scratch (s : State) (i : BitVec 5) (v : Half) : (s.setMapReg i v).scratch = s.scratch := rfl
@[simp] theorem setMapReg_mapActive (s : State) (i : BitVec 5) (v : Half) : (s.setMapReg i v).mapActive = s.mapActive := rfl
@[simp] theorem setMapReg_blocked (s : State) (i : BitVec 5) (v : Half) : (s.setMapReg i v).blocked = s.blocked := rfl
@[simp] theorem setMapReg_blockCount (s : State) (i : BitVec 5) (v : Half) : (s.setMapReg i v).blockCount = s.blockCount := rfl
@[simp] theorem setMapReg_prot (s : State) (i : BitVec 5) (v : Half) : (s.setMapReg i v).prot = s.prot := rfl
@[simp] theorem setMapReg_enabled (s : State) (i : BitVec 5) (v : Half) : (s.setMapReg i v).enabled = s.enabled := rfl
@[simp] theorem setMapReg_request (s : State) (i : BitVec 5) (v : Half) : (s.setMapReg i v).request = s.request := rfl
@[simp] theorem setMapReg_active (s : State) (i : BitVec 5) (v : Half) : (s.setMapReg i v).active = s.active := rfl
@[simp] theorem setMapReg_noIntNext (s : State) (i : BitVec 5) (v : Half) : (s.setMapReg i v).noIntNext = s.noIntNext := rfl
@[simp] theorem setMapReg_csw (s : State) (i : BitVec 5) (v : Half) : (s.setMapReg i v).csw = s.csw := rfl
@[simp] theorem setMapReg_run (s : State) (i : BitVec 5) (v : Half) : (s.setMapReg i v).run = s.run := rfl
@[simp] theorem setMapReg_wcs (s : State) (i : BitVec 5) (v : Half) : (s.setMapReg i v).wcs = s.wcs := rfl
@[simp] theorem setMapReg_ecwcsArmed (s : State) (i : BitVec 5) (v : Half) : (s.setMapReg i v).ecwcsArmed = s.ecwcsArmed := rfl
@[simp] theorem setMapReg_dev (s : State) (i : BitVec 5) (v : Half) : (s.setMapReg i v).dev = s.dev := rfl
@[simp] theorem setMapReg_int (s : State) (i : BitVec 5) (v : Half) : (s.setMapReg i v).int = s.int := rfl
@[simp] theorem setMapReg_mem (s : State) (i : BitVec 5) (v : Half) : (s.setMapReg i v).mem = s.mem := rfl
@[simp] theorem setMapReg_stops (s : State) (i : BitVec 5) (v : Half) : (s.setMapReg i v).stops = s.stops := rfl
@[simp] theorem setMapReg_panel (s : State) (i : BitVec 5) (v : Half) : (s.setMapReg i v).panel = s.panel := rfl
@[simp] theorem setMapReg_haltReq (s : State) (i : BitVec 5) (v : Half) : (s.setMapReg i v).haltReq = s.haltReq := rfl
@[simp] theorem setMapReg_lastBix (s : State) (i : BitVec 5) (v : Half) : (s.setMapReg i v).lastBix = s.lastBix := rfl
@[simp] theorem setMapReg_fetchParity (s : State) (i : BitVec 5) (v : Half) : (s.setMapReg i v).fetchParity = s.fetchParity := rfl
@[simp] theorem setMapReg_operandParity (s : State) (i : BitVec 5) (v : Half) : (s.setMapReg i v).operandParity = s.operandParity := rfl
@[simp] theorem setMapReg_inputs (s : State) (i : BitVec 5) (v : Half) : (s.setMapReg i v).inputs = s.inputs := rfl
@[simp] theorem setMapReg_between (s : State) (i : BitVec 5) (v : Half) : (s.setMapReg i v).between = s.between := rfl
@[simp] theorem setMapReg_devReplies (s : State) (i : BitVec 5) (v : Half) : (s.setMapReg i v).devReplies = s.devReplies := rfl
@[simp] theorem setMapReg_chanReplies (s : State) (i : BitVec 5) (v : Half) : (s.setMapReg i v).chanReplies = s.chanReplies := rfl
@[simp] theorem setMapReg_ackReplies (s : State) (i : BitVec 5) (v : Half) : (s.setMapReg i v).ackReplies = s.ackReplies := rfl
@[simp] theorem setMapReg_wcsReplies (s : State) (i : BitVec 5) (v : Half) : (s.setMapReg i v).wcsReplies = s.wcsReplies := rfl
@[simp] theorem setMapReg_sent (s : State) (i : BitVec 5) (v : Half) : (s.setMapReg i v).sent = s.sent := rfl
@[simp] theorem setMapReg_freeCount (s : State) (i : BitVec 5) (v : Half) : (s.setMapReg i v).freeCount = s.freeCount := rfl
@[simp] theorem setMapReg_cfg (s : State) (i : BitVec 5) (v : Half) : (s.setMapReg i v).cfg = s.cfg := rfl

@[simp] theorem setProtReg_regs (s : State) (i : BitVec 4) (v : Half) : (s.setProtReg i v).regs = s.regs := rfl
@[simp] theorem setProtReg_priv (s : State) (i : BitVec 4) (v : Half) : (s.setProtReg i v).priv = s.priv := rfl
@[simp] theorem setProtReg_cc (s : State) (i : BitVec 4) (v : Half) : (s.setProtReg i v).cc = s.cc := rfl
@[simp] theorem setProtReg_ext (s : State) (i : BitVec 4) (v : Half) : (s.setProtReg i v).ext = s.ext := rfl
@[simp] theorem setProtReg_hist (s : State) (i : BitVec 4) (v : Half) : (s.setProtReg i v).hist = s.hist := rfl
@[simp] theorem setProtReg_aexp (s : State) (i : BitVec 4) (v : Half) : (s.setProtReg i v).aexp = s.aexp := rfl
@[simp] theorem setProtReg_pc (s : State) (i : BitVec 4) (v : Half) : (s.setProtReg i v).pc = s.pc := rfl
@[simp] theorem setProtReg_psd2 (s : State) (i : BitVec 4) (v : Half) : (s.setProtReg i v).psd2 = s.psd2 := rfl
@[simp] theorem setProtReg_mode (s : State) (i : BitVec 4) (v : Half) : (s.setProtReg i v).mode = s.mode := rfl
@[simp] theorem setProtReg_bmtEn (s : State) (i : BitVec 4) (v : Half) : (s.setProtReg i v).bmtEn = s.bmtEn := rfl
@[simp] theorem setProtReg_psdTrapEn (s : State) (i : BitVec 4) (v : Half) : (s.setProtReg i v).psdTrapEn = s.psdTrapEn := rfl
@[simp] theorem setProtReg_scratch (s : State) (i : BitVec 4) (v : Half) : (s.setProtReg i v).scratch = s.scratch := rfl
@[simp] theorem setProtReg_mapRegs (s : State) (i : BitVec 4) (v : Half) : (s.setProtReg i v).mapRegs = s.mapRegs := rfl
@[simp] theorem setProtReg_mapActive (s : State) (i : BitVec 4) (v : Half) : (s.setProtReg i v).mapActive = s.mapActive := rfl
@[simp] theorem setProtReg_blocked (s : State) (i : BitVec 4) (v : Half) : (s.setProtReg i v).blocked = s.blocked := rfl
@[simp] theorem setProtReg_blockCount (s : State) (i : BitVec 4) (v : Half) : (s.setProtReg i v).blockCount = s.blockCount := rfl
@[simp] theorem setProtReg_enabled (s : State) (i : BitVec 4) (v : Half) : (s.setProtReg i v).enabled = s.enabled := rfl
@[simp] theorem setProtReg_request (s : State) (i : BitVec 4) (v : Half) : (s.setProtReg i v).request = s.request := rfl
@[simp] theorem setProtReg_active (s : State) (i : BitVec 4) (v : Half) : (s.setProtReg i v).active = s.active := rfl
@[simp] theorem setProtReg_noIntNext (s : State) (i : BitVec 4) (v : Half) : (s.setProtReg i v).noIntNext = s.noIntNext := rfl
@[simp] theorem setProtReg_csw (s : State) (i : BitVec 4) (v : Half) : (s.setProtReg i v).csw = s.csw := rfl
@[simp] theorem setProtReg_run (s : State) (i : BitVec 4) (v : Half) : (s.setProtReg i v).run = s.run := rfl
@[simp] theorem setProtReg_wcs (s : State) (i : BitVec 4) (v : Half) : (s.setProtReg i v).wcs = s.wcs := rfl
@[simp] theorem setProtReg_ecwcsArmed (s : State) (i : BitVec 4) (v : Half) : (s.setProtReg i v).ecwcsArmed = s.ecwcsArmed := rfl
@[simp] theorem setProtReg_dev (s : State) (i : BitVec 4) (v : Half) : (s.setProtReg i v).dev = s.dev := rfl
@[simp] theorem setProtReg_int (s : State) (i : BitVec 4) (v : Half) : (s.setProtReg i v).int = s.int := rfl
@[simp] theorem setProtReg_mem (s : State) (i : BitVec 4) (v : Half) : (s.setProtReg i v).mem = s.mem := rfl
@[simp] theorem setProtReg_stops (s : State) (i : BitVec 4) (v : Half) : (s.setProtReg i v).stops = s.stops := rfl
@[simp] theorem setProtReg_panel (s : State) (i : BitVec 4) (v : Half) : (s.setProtReg i v).panel = s.panel := rfl
@[simp] theorem setProtReg_haltReq (s : State) (i : BitVec 4) (v : Half) : (s.setProtReg i v).haltReq = s.haltReq := rfl
@[simp] theorem setProtReg_lastBix (s : State) (i : BitVec 4) (v : Half) : (s.setProtReg i v).lastBix = s.lastBix := rfl
@[simp] theorem setProtReg_fetchParity (s : State) (i : BitVec 4) (v : Half) : (s.setProtReg i v).fetchParity = s.fetchParity := rfl
@[simp] theorem setProtReg_operandParity (s : State) (i : BitVec 4) (v : Half) : (s.setProtReg i v).operandParity = s.operandParity := rfl
@[simp] theorem setProtReg_inputs (s : State) (i : BitVec 4) (v : Half) : (s.setProtReg i v).inputs = s.inputs := rfl
@[simp] theorem setProtReg_between (s : State) (i : BitVec 4) (v : Half) : (s.setProtReg i v).between = s.between := rfl
@[simp] theorem setProtReg_devReplies (s : State) (i : BitVec 4) (v : Half) : (s.setProtReg i v).devReplies = s.devReplies := rfl
@[simp] theorem setProtReg_chanReplies (s : State) (i : BitVec 4) (v : Half) : (s.setProtReg i v).chanReplies = s.chanReplies := rfl
@[simp] theorem setProtReg_ackReplies (s : State) (i : BitVec 4) (v : Half) : (s.setProtReg i v).ackReplies = s.ackReplies := rfl
@[simp] theorem setProtReg_wcsReplies (s : State) (i : BitVec 4) (v : Half) : (s.setProtReg i v).wcsReplies = s.wcsReplies := rfl
@[simp] theorem setProtReg_sent (s : State) (i : BitVec 4) (v : Half) : (s.setProtReg i v).sent = s.sent := rfl
@[simp] theorem setProtReg_freeCount (s : State) (i : BitVec 4) (v : Half) : (s.setProtReg i v).freeCount = s.freeCount := rfl
@[simp] theorem setProtReg_cfg (s : State) (i : BitVec 4) (v : Half) : (s.setProtReg i v).cfg = s.cfg := rfl

@[simp] theorem setEnabled_regs (s : State) (l : Level) (b : Bool) : (s.setEnabled l b).regs = s.regs := rfl
@[simp] theorem setEnabled_priv (s : State) (l : Level) (b : Bool) : (s.setEnabled l b).priv = s.priv := rfl
@[simp] theorem setEnabled_cc (s : State) (l : Level) (b : Bool) : (s.setEnabled l b).cc = s.cc := rfl
@[simp] theorem setEnabled_ext (s : State) (l : Level) (b : Bool) : (s.setEnabled l b).ext = s.ext := rfl
@[simp] theorem setEnabled_hist (s : State) (l : Level) (b : Bool) : (s.setEnabled l b).hist = s.hist := rfl
@[simp] theorem setEnabled_aexp (s : State) (l : Level) (b : Bool) : (s.setEnabled l b).aexp = s.aexp := rfl
@[simp] theorem setEnabled_pc (s : State) (l : Level) (b : Bool) : (s.setEnabled l b).pc = s.pc := rfl
@[simp] theorem setEnabled_psd2 (s : State) (l : Level) (b : Bool) : (s.setEnabled l b).psd2 = s.psd2 := rfl
@[simp] theorem setEnabled_mode (s : State) (l : Level) (b : Bool) : (s.setEnabled l b).mode = s.mode := rfl
@[simp] theorem setEnabled_bmtEn (s : State) (l : Level) (b : Bool) : (s.setEnabled l b).bmtEn = s.bmtEn := rfl
@[simp] theorem setEnabled_psdTrapEn (s : State) (l : Level) (b : Bool) : (s.setEnabled l b).psdTrapEn = s.psdTrapEn := rfl
@[simp] theorem setEnabled_scratch (s : State) (l : Level) (b : Bool) : (s.setEnabled l b).scratch = s.scratch := rfl
@[simp] theorem setEnabled_mapRegs (s : State) (l : Level) (b : Bool) : (s.setEnabled l b).mapRegs = s.mapRegs := rfl
@[simp] theorem setEnabled_mapActive (s : State) (l : Level) (b : Bool) : (s.setEnabled l b).mapActive = s.mapActive := rfl
@[simp] theorem setEnabled_blocked (s : State) (l : Level) (b : Bool) : (s.setEnabled l b).blocked = s.blocked := rfl
@[simp] theorem setEnabled_blockCount (s : State) (l : Level) (b : Bool) : (s.setEnabled l b).blockCount = s.blockCount := rfl
@[simp] theorem setEnabled_prot (s : State) (l : Level) (b : Bool) : (s.setEnabled l b).prot = s.prot := rfl
@[simp] theorem setEnabled_enabled (s : State) (l : Level) (b : Bool) : (s.setEnabled l b).enabled = putBit s.enabled l.toNat b := rfl
@[simp] theorem setEnabled_request (s : State) (l : Level) (b : Bool) : (s.setEnabled l b).request = s.request := rfl
@[simp] theorem setEnabled_active (s : State) (l : Level) (b : Bool) : (s.setEnabled l b).active = s.active := rfl
@[simp] theorem setEnabled_noIntNext (s : State) (l : Level) (b : Bool) : (s.setEnabled l b).noIntNext = s.noIntNext := rfl
@[simp] theorem setEnabled_csw (s : State) (l : Level) (b : Bool) : (s.setEnabled l b).csw = s.csw := rfl
@[simp] theorem setEnabled_run (s : State) (l : Level) (b : Bool) : (s.setEnabled l b).run = s.run := rfl
@[simp] theorem setEnabled_wcs (s : State) (l : Level) (b : Bool) : (s.setEnabled l b).wcs = s.wcs := rfl
@[simp] theorem setEnabled_ecwcsArmed (s : State) (l : Level) (b : Bool) : (s.setEnabled l b).ecwcsArmed = s.ecwcsArmed := rfl
@[simp] theorem setEnabled_dev (s : State) (l : Level) (b : Bool) : (s.setEnabled l b).dev = s.dev := rfl
@[simp] theorem setEnabled_int (s : State) (l : Level) (b : Bool) : (s.setEnabled l b).int = s.int := rfl
@[simp] theorem setEnabled_mem (s : State) (l : Level) (b : Bool) : (s.setEnabled l b).mem = s.mem := rfl
@[simp] theorem setEnabled_stops (s : State) (l : Level) (b : Bool) : (s.setEnabled l b).stops = s.stops := rfl
@[simp] theorem setEnabled_panel (s : State) (l : Level) (b : Bool) : (s.setEnabled l b).panel = s.panel := rfl
@[simp] theorem setEnabled_haltReq (s : State) (l : Level) (b : Bool) : (s.setEnabled l b).haltReq = s.haltReq := rfl
@[simp] theorem setEnabled_lastBix (s : State) (l : Level) (b : Bool) : (s.setEnabled l b).lastBix = s.lastBix := rfl
@[simp] theorem setEnabled_fetchParity (s : State) (l : Level) (b : Bool) : (s.setEnabled l b).fetchParity = s.fetchParity := rfl
@[simp] theorem setEnabled_operandParity (s : State) (l : Level) (b : Bool) : (s.setEnabled l b).operandParity = s.operandParity := rfl
@[simp] theorem setEnabled_inputs (s : State) (l : Level) (b : Bool) : (s.setEnabled l b).inputs = s.inputs := rfl
@[simp] theorem setEnabled_between (s : State) (l : Level) (b : Bool) : (s.setEnabled l b).between = s.between := rfl
@[simp] theorem setEnabled_devReplies (s : State) (l : Level) (b : Bool) : (s.setEnabled l b).devReplies = s.devReplies := rfl
@[simp] theorem setEnabled_chanReplies (s : State) (l : Level) (b : Bool) : (s.setEnabled l b).chanReplies = s.chanReplies := rfl
@[simp] theorem setEnabled_ackReplies (s : State) (l : Level) (b : Bool) : (s.setEnabled l b).ackReplies = s.ackReplies := rfl
@[simp] theorem setEnabled_wcsReplies (s : State) (l : Level) (b : Bool) : (s.setEnabled l b).wcsReplies = s.wcsReplies := rfl
@[simp] theorem setEnabled_sent (s : State) (l : Level) (b : Bool) : (s.setEnabled l b).sent = s.sent := rfl
@[simp] theorem setEnabled_freeCount (s : State) (l : Level) (b : Bool) : (s.setEnabled l b).freeCount = s.freeCount := rfl
@[simp] theorem setEnabled_cfg (s : State) (l : Level) (b : Bool) : (s.setEnabled l b).cfg = s.cfg := rfl

@[simp] theorem setRequest_regs (s : State) (l : Level) (b : Bool) : (s.setRequest l b).regs = s.regs := rfl
@[simp] theorem setRequest_priv (s : State) (l : Level) (b : Bool) : (s.setRequest l b).priv = s.priv := rfl
@[simp] theorem setRequest_cc (s : State) (l : Level) (b : Bool) : (s.setRequest l b).cc = s.cc := rfl
@[simp] theorem setRequest_ext (s : State) (l : Level) (b : Bool) : (s.setRequest l b).ext = s.ext := rfl
@[simp] theorem setRequest_hist (s : State) (l : Level) (b : Bool) : (s.setRequest l b).hist = s.hist := rfl
@[simp] theorem setRequest_aexp (s : State) (l : Level) (b : Bool) : (s.setRequest l b).aexp = s.aexp := rfl
@[simp] theorem setRequest_pc (s : State) (l : Level) (b : Bool) : (s.setRequest l b).pc = s.pc := rfl
@[simp] theorem setRequest_psd2 (s : State) (l : Level) (b : Bool) : (s.setRequest l b).psd2 = s.psd2 := rfl
@[simp] theorem setRequest_mode (s : State) (l : Level) (b : Bool) : (s.setRequest l b).mode = s.mode := rfl
@[simp] theorem setRequest_bmtEn (s : State) (l : Level) (b : Bool) : (s.setRequest l b).bmtEn = s.bmtEn := rfl
@[simp] theorem setRequest_psdTrapEn (s : State) (l : Level) (b : Bool) : (s.setRequest l b).psdTrapEn = s.psdTrapEn := rfl
@[simp] theorem setRequest_scratch (s : State) (l : Level) (b : Bool) : (s.setRequest l b).scratch = s.scratch := rfl
@[simp] theorem setRequest_mapRegs (s : State) (l : Level) (b : Bool) : (s.setRequest l b).mapRegs = s.mapRegs := rfl
@[simp] theorem setRequest_mapActive (s : State) (l : Level) (b : Bool) : (s.setRequest l b).mapActive = s.mapActive := rfl
@[simp] theorem setRequest_blocked (s : State) (l : Level) (b : Bool) : (s.setRequest l b).blocked = s.blocked := rfl
@[simp] theorem setRequest_blockCount (s : State) (l : Level) (b : Bool) : (s.setRequest l b).blockCount = s.blockCount := rfl
@[simp] theorem setRequest_prot (s : State) (l : Level) (b : Bool) : (s.setRequest l b).prot = s.prot := rfl
@[simp] theorem setRequest_enabled (s : State) (l : Level) (b : Bool) : (s.setRequest l b).enabled = s.enabled := rfl
@[simp] theorem setRequest_request (s : State) (l : Level) (b : Bool) : (s.setRequest l b).request = putBit s.request l.toNat b := rfl
@[simp] theorem setRequest_active (s : State) (l : Level) (b : Bool) : (s.setRequest l b).active = s.active := rfl
@[simp] theorem setRequest_noIntNext (s : State) (l : Level) (b : Bool) : (s.setRequest l b).noIntNext = s.noIntNext := rfl
@[simp] theorem setRequest_csw (s : State) (l : Level) (b : Bool) : (s.setRequest l b).csw = s.csw := rfl
@[simp] theorem setRequest_run (s : State) (l : Level) (b : Bool) : (s.setRequest l b).run = s.run := rfl
@[simp] theorem setRequest_wcs (s : State) (l : Level) (b : Bool) : (s.setRequest l b).wcs = s.wcs := rfl
@[simp] theorem setRequest_ecwcsArmed (s : State) (l : Level) (b : Bool) : (s.setRequest l b).ecwcsArmed = s.ecwcsArmed := rfl
@[simp] theorem setRequest_dev (s : State) (l : Level) (b : Bool) : (s.setRequest l b).dev = s.dev := rfl
@[simp] theorem setRequest_int (s : State) (l : Level) (b : Bool) : (s.setRequest l b).int = s.int := rfl
@[simp] theorem setRequest_mem (s : State) (l : Level) (b : Bool) : (s.setRequest l b).mem = s.mem := rfl
@[simp] theorem setRequest_stops (s : State) (l : Level) (b : Bool) : (s.setRequest l b).stops = s.stops := rfl
@[simp] theorem setRequest_panel (s : State) (l : Level) (b : Bool) : (s.setRequest l b).panel = s.panel := rfl
@[simp] theorem setRequest_haltReq (s : State) (l : Level) (b : Bool) : (s.setRequest l b).haltReq = s.haltReq := rfl
@[simp] theorem setRequest_lastBix (s : State) (l : Level) (b : Bool) : (s.setRequest l b).lastBix = s.lastBix := rfl
@[simp] theorem setRequest_fetchParity (s : State) (l : Level) (b : Bool) : (s.setRequest l b).fetchParity = s.fetchParity := rfl
@[simp] theorem setRequest_operandParity (s : State) (l : Level) (b : Bool) : (s.setRequest l b).operandParity = s.operandParity := rfl
@[simp] theorem setRequest_inputs (s : State) (l : Level) (b : Bool) : (s.setRequest l b).inputs = s.inputs := rfl
@[simp] theorem setRequest_between (s : State) (l : Level) (b : Bool) : (s.setRequest l b).between = s.between := rfl
@[simp] theorem setRequest_devReplies (s : State) (l : Level) (b : Bool) : (s.setRequest l b).devReplies = s.devReplies := rfl
@[simp] theorem setRequest_chanReplies (s : State) (l : Level) (b : Bool) : (s.setRequest l b).chanReplies = s.chanReplies := rfl
@[simp] theorem setRequest_ackReplies (s : State) (l : Level) (b : Bool) : (s.setRequest l b).ackReplies = s.ackReplies := rfl
@[simp] theorem setRequest_wcsReplies (s : State) (l : Level) (b : Bool) : (s.setRequest l b).wcsReplies = s.wcsReplies := rfl
@[simp] theorem setRequest_sent (s : State) (l : Level) (b : Bool) : (s.setRequest l b).sent = s.sent := rfl
@[simp] theorem setRequest_freeCount (s : State) (l : Level) (b : Bool) : (s.setRequest l b).freeCount = s.freeCount := rfl
@[simp] theorem setRequest_cfg (s : State) (l : Level) (b : Bool) : (s.setRequest l b).cfg = s.cfg := rfl

@[simp] theorem setActive_regs (s : State) (l : Level) (b : Bool) : (s.setActive l b).regs = s.regs := rfl
@[simp] theorem setActive_priv (s : State) (l : Level) (b : Bool) : (s.setActive l b).priv = s.priv := rfl
@[simp] theorem setActive_cc (s : State) (l : Level) (b : Bool) : (s.setActive l b).cc = s.cc := rfl
@[simp] theorem setActive_ext (s : State) (l : Level) (b : Bool) : (s.setActive l b).ext = s.ext := rfl
@[simp] theorem setActive_hist (s : State) (l : Level) (b : Bool) : (s.setActive l b).hist = s.hist := rfl
@[simp] theorem setActive_aexp (s : State) (l : Level) (b : Bool) : (s.setActive l b).aexp = s.aexp := rfl
@[simp] theorem setActive_pc (s : State) (l : Level) (b : Bool) : (s.setActive l b).pc = s.pc := rfl
@[simp] theorem setActive_psd2 (s : State) (l : Level) (b : Bool) : (s.setActive l b).psd2 = s.psd2 := rfl
@[simp] theorem setActive_mode (s : State) (l : Level) (b : Bool) : (s.setActive l b).mode = s.mode := rfl
@[simp] theorem setActive_bmtEn (s : State) (l : Level) (b : Bool) : (s.setActive l b).bmtEn = s.bmtEn := rfl
@[simp] theorem setActive_psdTrapEn (s : State) (l : Level) (b : Bool) : (s.setActive l b).psdTrapEn = s.psdTrapEn := rfl
@[simp] theorem setActive_scratch (s : State) (l : Level) (b : Bool) : (s.setActive l b).scratch = s.scratch := rfl
@[simp] theorem setActive_mapRegs (s : State) (l : Level) (b : Bool) : (s.setActive l b).mapRegs = s.mapRegs := rfl
@[simp] theorem setActive_mapActive (s : State) (l : Level) (b : Bool) : (s.setActive l b).mapActive = s.mapActive := rfl
@[simp] theorem setActive_blocked (s : State) (l : Level) (b : Bool) : (s.setActive l b).blocked = s.blocked := rfl
@[simp] theorem setActive_blockCount (s : State) (l : Level) (b : Bool) : (s.setActive l b).blockCount = s.blockCount := rfl
@[simp] theorem setActive_prot (s : State) (l : Level) (b : Bool) : (s.setActive l b).prot = s.prot := rfl
@[simp] theorem setActive_enabled (s : State) (l : Level) (b : Bool) : (s.setActive l b).enabled = s.enabled := rfl
@[simp] theorem setActive_request (s : State) (l : Level) (b : Bool) : (s.setActive l b).request = s.request := rfl
@[simp] theorem setActive_active (s : State) (l : Level) (b : Bool) : (s.setActive l b).active = putBit s.active l.toNat b := rfl
@[simp] theorem setActive_noIntNext (s : State) (l : Level) (b : Bool) : (s.setActive l b).noIntNext = s.noIntNext := rfl
@[simp] theorem setActive_csw (s : State) (l : Level) (b : Bool) : (s.setActive l b).csw = s.csw := rfl
@[simp] theorem setActive_run (s : State) (l : Level) (b : Bool) : (s.setActive l b).run = s.run := rfl
@[simp] theorem setActive_wcs (s : State) (l : Level) (b : Bool) : (s.setActive l b).wcs = s.wcs := rfl
@[simp] theorem setActive_ecwcsArmed (s : State) (l : Level) (b : Bool) : (s.setActive l b).ecwcsArmed = s.ecwcsArmed := rfl
@[simp] theorem setActive_dev (s : State) (l : Level) (b : Bool) : (s.setActive l b).dev = s.dev := rfl
@[simp] theorem setActive_int (s : State) (l : Level) (b : Bool) : (s.setActive l b).int = s.int := rfl
@[simp] theorem setActive_mem (s : State) (l : Level) (b : Bool) : (s.setActive l b).mem = s.mem := rfl
@[simp] theorem setActive_stops (s : State) (l : Level) (b : Bool) : (s.setActive l b).stops = s.stops := rfl
@[simp] theorem setActive_panel (s : State) (l : Level) (b : Bool) : (s.setActive l b).panel = s.panel := rfl
@[simp] theorem setActive_haltReq (s : State) (l : Level) (b : Bool) : (s.setActive l b).haltReq = s.haltReq := rfl
@[simp] theorem setActive_lastBix (s : State) (l : Level) (b : Bool) : (s.setActive l b).lastBix = s.lastBix := rfl
@[simp] theorem setActive_fetchParity (s : State) (l : Level) (b : Bool) : (s.setActive l b).fetchParity = s.fetchParity := rfl
@[simp] theorem setActive_operandParity (s : State) (l : Level) (b : Bool) : (s.setActive l b).operandParity = s.operandParity := rfl
@[simp] theorem setActive_inputs (s : State) (l : Level) (b : Bool) : (s.setActive l b).inputs = s.inputs := rfl
@[simp] theorem setActive_between (s : State) (l : Level) (b : Bool) : (s.setActive l b).between = s.between := rfl
@[simp] theorem setActive_devReplies (s : State) (l : Level) (b : Bool) : (s.setActive l b).devReplies = s.devReplies := rfl
@[simp] theorem setActive_chanReplies (s : State) (l : Level) (b : Bool) : (s.setActive l b).chanReplies = s.chanReplies := rfl
@[simp] theorem setActive_ackReplies (s : State) (l : Level) (b : Bool) : (s.setActive l b).ackReplies = s.ackReplies := rfl
@[simp] theorem setActive_wcsReplies (s : State) (l : Level) (b : Bool) : (s.setActive l b).wcsReplies = s.wcsReplies := rfl
@[simp] theorem setActive_sent (s : State) (l : Level) (b : Bool) : (s.setActive l b).sent = s.sent := rfl
@[simp] theorem setActive_freeCount (s : State) (l : Level) (b : Bool) : (s.setActive l b).freeCount = s.freeCount := rfl
@[simp] theorem setActive_cfg (s : State) (l : Level) (b : Bool) : (s.setActive l b).cfg = s.cfg := rfl

@[simp] theorem send_regs (s : State) (m : BusMessage) : (s.send m).regs = s.regs := rfl
@[simp] theorem send_priv (s : State) (m : BusMessage) : (s.send m).priv = s.priv := rfl
@[simp] theorem send_cc (s : State) (m : BusMessage) : (s.send m).cc = s.cc := rfl
@[simp] theorem send_ext (s : State) (m : BusMessage) : (s.send m).ext = s.ext := rfl
@[simp] theorem send_hist (s : State) (m : BusMessage) : (s.send m).hist = s.hist := rfl
@[simp] theorem send_aexp (s : State) (m : BusMessage) : (s.send m).aexp = s.aexp := rfl
@[simp] theorem send_pc (s : State) (m : BusMessage) : (s.send m).pc = s.pc := rfl
@[simp] theorem send_psd2 (s : State) (m : BusMessage) : (s.send m).psd2 = s.psd2 := rfl
@[simp] theorem send_mode (s : State) (m : BusMessage) : (s.send m).mode = s.mode := rfl
@[simp] theorem send_bmtEn (s : State) (m : BusMessage) : (s.send m).bmtEn = s.bmtEn := rfl
@[simp] theorem send_psdTrapEn (s : State) (m : BusMessage) : (s.send m).psdTrapEn = s.psdTrapEn := rfl
@[simp] theorem send_scratch (s : State) (m : BusMessage) : (s.send m).scratch = s.scratch := rfl
@[simp] theorem send_mapRegs (s : State) (m : BusMessage) : (s.send m).mapRegs = s.mapRegs := rfl
@[simp] theorem send_mapActive (s : State) (m : BusMessage) : (s.send m).mapActive = s.mapActive := rfl
@[simp] theorem send_blocked (s : State) (m : BusMessage) : (s.send m).blocked = s.blocked := rfl
@[simp] theorem send_blockCount (s : State) (m : BusMessage) : (s.send m).blockCount = s.blockCount := rfl
@[simp] theorem send_prot (s : State) (m : BusMessage) : (s.send m).prot = s.prot := rfl
@[simp] theorem send_enabled (s : State) (m : BusMessage) : (s.send m).enabled = s.enabled := rfl
@[simp] theorem send_request (s : State) (m : BusMessage) : (s.send m).request = s.request := rfl
@[simp] theorem send_active (s : State) (m : BusMessage) : (s.send m).active = s.active := rfl
@[simp] theorem send_noIntNext (s : State) (m : BusMessage) : (s.send m).noIntNext = s.noIntNext := rfl
@[simp] theorem send_csw (s : State) (m : BusMessage) : (s.send m).csw = s.csw := rfl
@[simp] theorem send_run (s : State) (m : BusMessage) : (s.send m).run = s.run := rfl
@[simp] theorem send_wcs (s : State) (m : BusMessage) : (s.send m).wcs = s.wcs := rfl
@[simp] theorem send_ecwcsArmed (s : State) (m : BusMessage) : (s.send m).ecwcsArmed = s.ecwcsArmed := rfl
@[simp] theorem send_dev (s : State) (m : BusMessage) : (s.send m).dev = s.dev := rfl
@[simp] theorem send_int (s : State) (m : BusMessage) : (s.send m).int = s.int := rfl
@[simp] theorem send_mem (s : State) (m : BusMessage) : (s.send m).mem = s.mem := rfl
@[simp] theorem send_stops (s : State) (m : BusMessage) : (s.send m).stops = s.stops := rfl
@[simp] theorem send_panel (s : State) (m : BusMessage) : (s.send m).panel = s.panel := rfl
@[simp] theorem send_haltReq (s : State) (m : BusMessage) : (s.send m).haltReq = s.haltReq := rfl
@[simp] theorem send_lastBix (s : State) (m : BusMessage) : (s.send m).lastBix = s.lastBix := rfl
@[simp] theorem send_fetchParity (s : State) (m : BusMessage) : (s.send m).fetchParity = s.fetchParity := rfl
@[simp] theorem send_operandParity (s : State) (m : BusMessage) : (s.send m).operandParity = s.operandParity := rfl
@[simp] theorem send_inputs (s : State) (m : BusMessage) : (s.send m).inputs = s.inputs := rfl
@[simp] theorem send_between (s : State) (m : BusMessage) : (s.send m).between = s.between := rfl
@[simp] theorem send_devReplies (s : State) (m : BusMessage) : (s.send m).devReplies = s.devReplies := rfl
@[simp] theorem send_chanReplies (s : State) (m : BusMessage) : (s.send m).chanReplies = s.chanReplies := rfl
@[simp] theorem send_ackReplies (s : State) (m : BusMessage) : (s.send m).ackReplies = s.ackReplies := rfl
@[simp] theorem send_wcsReplies (s : State) (m : BusMessage) : (s.send m).wcsReplies = s.wcsReplies := rfl
@[simp] theorem send_sent (s : State) (m : BusMessage) : (s.send m).sent = m :: s.sent := rfl
@[simp] theorem send_freeCount (s : State) (m : BusMessage) : (s.send m).freeCount = s.freeCount := rfl
@[simp] theorem send_cfg (s : State) (m : BusMessage) : (s.send m).cfg = s.cfg := rfl

@[simp] theorem setBlocked_regs (s : State) (b : Bool) : (s.setBlocked b).regs = s.regs := rfl
@[simp] theorem setBlocked_priv (s : State) (b : Bool) : (s.setBlocked b).priv = s.priv := rfl
@[simp] theorem setBlocked_cc (s : State) (b : Bool) : (s.setBlocked b).cc = s.cc := rfl
@[simp] theorem setBlocked_ext (s : State) (b : Bool) : (s.setBlocked b).ext = s.ext := rfl
@[simp] theorem setBlocked_hist (s : State) (b : Bool) : (s.setBlocked b).hist = s.hist := rfl
@[simp] theorem setBlocked_aexp (s : State) (b : Bool) : (s.setBlocked b).aexp = s.aexp := rfl
@[simp] theorem setBlocked_pc (s : State) (b : Bool) : (s.setBlocked b).pc = s.pc := rfl
@[simp] theorem setBlocked_psd2 (s : State) (b : Bool) : (s.setBlocked b).psd2 = s.psd2 := rfl
@[simp] theorem setBlocked_mode (s : State) (b : Bool) : (s.setBlocked b).mode = s.mode := rfl
@[simp] theorem setBlocked_bmtEn (s : State) (b : Bool) : (s.setBlocked b).bmtEn = s.bmtEn := rfl
@[simp] theorem setBlocked_psdTrapEn (s : State) (b : Bool) : (s.setBlocked b).psdTrapEn = s.psdTrapEn := rfl
@[simp] theorem setBlocked_mapRegs (s : State) (b : Bool) : (s.setBlocked b).mapRegs = s.mapRegs := rfl
@[simp] theorem setBlocked_mapActive (s : State) (b : Bool) : (s.setBlocked b).mapActive = s.mapActive := rfl
@[simp] theorem setBlocked_blocked (s : State) (b : Bool) : (s.setBlocked b).blocked = b := rfl
@[simp] theorem setBlocked_blockCount (s : State) (b : Bool) : (s.setBlocked b).blockCount = if b && s.blocked then s.blockCount else 0 := rfl
@[simp] theorem setBlocked_prot (s : State) (b : Bool) : (s.setBlocked b).prot = s.prot := rfl
@[simp] theorem setBlocked_enabled (s : State) (b : Bool) : (s.setBlocked b).enabled = s.enabled := rfl
@[simp] theorem setBlocked_request (s : State) (b : Bool) : (s.setBlocked b).request = s.request := rfl
@[simp] theorem setBlocked_active (s : State) (b : Bool) : (s.setBlocked b).active = s.active := rfl
@[simp] theorem setBlocked_noIntNext (s : State) (b : Bool) : (s.setBlocked b).noIntNext = s.noIntNext := rfl
@[simp] theorem setBlocked_csw (s : State) (b : Bool) : (s.setBlocked b).csw = s.csw := rfl
@[simp] theorem setBlocked_run (s : State) (b : Bool) : (s.setBlocked b).run = s.run := rfl
@[simp] theorem setBlocked_wcs (s : State) (b : Bool) : (s.setBlocked b).wcs = s.wcs := rfl
@[simp] theorem setBlocked_ecwcsArmed (s : State) (b : Bool) : (s.setBlocked b).ecwcsArmed = s.ecwcsArmed := rfl
@[simp] theorem setBlocked_dev (s : State) (b : Bool) : (s.setBlocked b).dev = s.dev := rfl
@[simp] theorem setBlocked_int (s : State) (b : Bool) : (s.setBlocked b).int = s.int := rfl
@[simp] theorem setBlocked_mem (s : State) (b : Bool) : (s.setBlocked b).mem = s.mem := rfl
@[simp] theorem setBlocked_stops (s : State) (b : Bool) : (s.setBlocked b).stops = s.stops := rfl
@[simp] theorem setBlocked_panel (s : State) (b : Bool) : (s.setBlocked b).panel = s.panel := rfl
@[simp] theorem setBlocked_haltReq (s : State) (b : Bool) : (s.setBlocked b).haltReq = s.haltReq := rfl
@[simp] theorem setBlocked_lastBix (s : State) (b : Bool) : (s.setBlocked b).lastBix = s.lastBix := rfl
@[simp] theorem setBlocked_fetchParity (s : State) (b : Bool) : (s.setBlocked b).fetchParity = s.fetchParity := rfl
@[simp] theorem setBlocked_operandParity (s : State) (b : Bool) : (s.setBlocked b).operandParity = s.operandParity := rfl
@[simp] theorem setBlocked_inputs (s : State) (b : Bool) : (s.setBlocked b).inputs = s.inputs := rfl
@[simp] theorem setBlocked_between (s : State) (b : Bool) : (s.setBlocked b).between = s.between := rfl
@[simp] theorem setBlocked_devReplies (s : State) (b : Bool) : (s.setBlocked b).devReplies = s.devReplies := rfl
@[simp] theorem setBlocked_chanReplies (s : State) (b : Bool) : (s.setBlocked b).chanReplies = s.chanReplies := rfl
@[simp] theorem setBlocked_ackReplies (s : State) (b : Bool) : (s.setBlocked b).ackReplies = s.ackReplies := rfl
@[simp] theorem setBlocked_wcsReplies (s : State) (b : Bool) : (s.setBlocked b).wcsReplies = s.wcsReplies := rfl
@[simp] theorem setBlocked_sent (s : State) (b : Bool) : (s.setBlocked b).sent = s.sent := rfl
@[simp] theorem setBlocked_freeCount (s : State) (b : Bool) : (s.setBlocked b).freeCount = s.freeCount := rfl
@[simp] theorem setBlocked_cfg (s : State) (b : Bool) : (s.setBlocked b).cfg = s.cfg := rfl

@[simp] theorem setAexp_regs (s : State) (b : Bool) : (s.setAexp b).regs = s.regs := rfl
@[simp] theorem setAexp_priv (s : State) (b : Bool) : (s.setAexp b).priv = s.priv := rfl
@[simp] theorem setAexp_cc (s : State) (b : Bool) : (s.setAexp b).cc = s.cc := rfl
@[simp] theorem setAexp_ext (s : State) (b : Bool) : (s.setAexp b).ext = s.ext := rfl
@[simp] theorem setAexp_hist (s : State) (b : Bool) : (s.setAexp b).hist = s.hist := rfl
@[simp] theorem setAexp_aexp (s : State) (b : Bool) : (s.setAexp b).aexp = b := rfl
@[simp] theorem setAexp_pc (s : State) (b : Bool) : (s.setAexp b).pc = s.pc := rfl
@[simp] theorem setAexp_psd2 (s : State) (b : Bool) : (s.setAexp b).psd2 = s.psd2 := rfl
@[simp] theorem setAexp_mode (s : State) (b : Bool) : (s.setAexp b).mode = s.mode := rfl
@[simp] theorem setAexp_bmtEn (s : State) (b : Bool) : (s.setAexp b).bmtEn = s.bmtEn := rfl
@[simp] theorem setAexp_psdTrapEn (s : State) (b : Bool) : (s.setAexp b).psdTrapEn = s.psdTrapEn := rfl
@[simp] theorem setAexp_mapRegs (s : State) (b : Bool) : (s.setAexp b).mapRegs = s.mapRegs := rfl
@[simp] theorem setAexp_mapActive (s : State) (b : Bool) : (s.setAexp b).mapActive = s.mapActive := rfl
@[simp] theorem setAexp_blocked (s : State) (b : Bool) : (s.setAexp b).blocked = s.blocked := rfl
@[simp] theorem setAexp_blockCount (s : State) (b : Bool) : (s.setAexp b).blockCount = s.blockCount := rfl
@[simp] theorem setAexp_prot (s : State) (b : Bool) : (s.setAexp b).prot = s.prot := rfl
@[simp] theorem setAexp_enabled (s : State) (b : Bool) : (s.setAexp b).enabled = s.enabled := rfl
@[simp] theorem setAexp_request (s : State) (b : Bool) : (s.setAexp b).request = s.request := rfl
@[simp] theorem setAexp_active (s : State) (b : Bool) : (s.setAexp b).active = s.active := rfl
@[simp] theorem setAexp_noIntNext (s : State) (b : Bool) : (s.setAexp b).noIntNext = s.noIntNext := rfl
@[simp] theorem setAexp_csw (s : State) (b : Bool) : (s.setAexp b).csw = s.csw := rfl
@[simp] theorem setAexp_run (s : State) (b : Bool) : (s.setAexp b).run = s.run := rfl
@[simp] theorem setAexp_wcs (s : State) (b : Bool) : (s.setAexp b).wcs = s.wcs := rfl
@[simp] theorem setAexp_ecwcsArmed (s : State) (b : Bool) : (s.setAexp b).ecwcsArmed = s.ecwcsArmed := rfl
@[simp] theorem setAexp_dev (s : State) (b : Bool) : (s.setAexp b).dev = s.dev := rfl
@[simp] theorem setAexp_int (s : State) (b : Bool) : (s.setAexp b).int = s.int := rfl
@[simp] theorem setAexp_mem (s : State) (b : Bool) : (s.setAexp b).mem = s.mem := rfl
@[simp] theorem setAexp_stops (s : State) (b : Bool) : (s.setAexp b).stops = s.stops := rfl
@[simp] theorem setAexp_panel (s : State) (b : Bool) : (s.setAexp b).panel = s.panel := rfl
@[simp] theorem setAexp_haltReq (s : State) (b : Bool) : (s.setAexp b).haltReq = s.haltReq := rfl
@[simp] theorem setAexp_lastBix (s : State) (b : Bool) : (s.setAexp b).lastBix = s.lastBix := rfl
@[simp] theorem setAexp_fetchParity (s : State) (b : Bool) : (s.setAexp b).fetchParity = s.fetchParity := rfl
@[simp] theorem setAexp_operandParity (s : State) (b : Bool) : (s.setAexp b).operandParity = s.operandParity := rfl
@[simp] theorem setAexp_inputs (s : State) (b : Bool) : (s.setAexp b).inputs = s.inputs := rfl
@[simp] theorem setAexp_between (s : State) (b : Bool) : (s.setAexp b).between = s.between := rfl
@[simp] theorem setAexp_devReplies (s : State) (b : Bool) : (s.setAexp b).devReplies = s.devReplies := rfl
@[simp] theorem setAexp_chanReplies (s : State) (b : Bool) : (s.setAexp b).chanReplies = s.chanReplies := rfl
@[simp] theorem setAexp_ackReplies (s : State) (b : Bool) : (s.setAexp b).ackReplies = s.ackReplies := rfl
@[simp] theorem setAexp_wcsReplies (s : State) (b : Bool) : (s.setAexp b).wcsReplies = s.wcsReplies := rfl
@[simp] theorem setAexp_sent (s : State) (b : Bool) : (s.setAexp b).sent = s.sent := rfl
@[simp] theorem setAexp_freeCount (s : State) (b : Bool) : (s.setAexp b).freeCount = s.freeCount := rfl
@[simp] theorem setAexp_cfg (s : State) (b : Bool) : (s.setAexp b).cfg = s.cfg := rfl

@[simp] theorem setByte_regs (s : State) (a : Nat) (b : Byte) : (s.setByte a b).regs = s.regs := rfl
@[simp] theorem setByte_priv (s : State) (a : Nat) (b : Byte) : (s.setByte a b).priv = s.priv := rfl
@[simp] theorem setByte_cc (s : State) (a : Nat) (b : Byte) : (s.setByte a b).cc = s.cc := rfl
@[simp] theorem setByte_ext (s : State) (a : Nat) (b : Byte) : (s.setByte a b).ext = s.ext := rfl
@[simp] theorem setByte_hist (s : State) (a : Nat) (b : Byte) : (s.setByte a b).hist = s.hist := rfl
@[simp] theorem setByte_aexp (s : State) (a : Nat) (b : Byte) : (s.setByte a b).aexp = s.aexp := rfl
@[simp] theorem setByte_pc (s : State) (a : Nat) (b : Byte) : (s.setByte a b).pc = s.pc := rfl
@[simp] theorem setByte_psd2 (s : State) (a : Nat) (b : Byte) : (s.setByte a b).psd2 = s.psd2 := rfl
@[simp] theorem setByte_mode (s : State) (a : Nat) (b : Byte) : (s.setByte a b).mode = s.mode := rfl
@[simp] theorem setByte_bmtEn (s : State) (a : Nat) (b : Byte) : (s.setByte a b).bmtEn = s.bmtEn := rfl
@[simp] theorem setByte_psdTrapEn (s : State) (a : Nat) (b : Byte) : (s.setByte a b).psdTrapEn = s.psdTrapEn := rfl
@[simp] theorem setByte_scratch (s : State) (a : Nat) (b : Byte) : (s.setByte a b).scratch = s.scratch := rfl
@[simp] theorem setByte_mapRegs (s : State) (a : Nat) (b : Byte) : (s.setByte a b).mapRegs = s.mapRegs := rfl
@[simp] theorem setByte_mapActive (s : State) (a : Nat) (b : Byte) : (s.setByte a b).mapActive = s.mapActive := rfl
@[simp] theorem setByte_blocked (s : State) (a : Nat) (b : Byte) : (s.setByte a b).blocked = s.blocked := rfl
@[simp] theorem setByte_blockCount (s : State) (a : Nat) (b : Byte) : (s.setByte a b).blockCount = s.blockCount := rfl
@[simp] theorem setByte_prot (s : State) (a : Nat) (b : Byte) : (s.setByte a b).prot = s.prot := rfl
@[simp] theorem setByte_enabled (s : State) (a : Nat) (b : Byte) : (s.setByte a b).enabled = s.enabled := rfl
@[simp] theorem setByte_request (s : State) (a : Nat) (b : Byte) : (s.setByte a b).request = s.request := rfl
@[simp] theorem setByte_active (s : State) (a : Nat) (b : Byte) : (s.setByte a b).active = s.active := rfl
@[simp] theorem setByte_noIntNext (s : State) (a : Nat) (b : Byte) : (s.setByte a b).noIntNext = s.noIntNext := rfl
@[simp] theorem setByte_csw (s : State) (a : Nat) (b : Byte) : (s.setByte a b).csw = s.csw := rfl
@[simp] theorem setByte_run (s : State) (a : Nat) (b : Byte) : (s.setByte a b).run = s.run := rfl
@[simp] theorem setByte_wcs (s : State) (a : Nat) (b : Byte) : (s.setByte a b).wcs = s.wcs := rfl
@[simp] theorem setByte_ecwcsArmed (s : State) (a : Nat) (b : Byte) : (s.setByte a b).ecwcsArmed = s.ecwcsArmed := rfl
@[simp] theorem setByte_dev (s : State) (a : Nat) (b : Byte) : (s.setByte a b).dev = s.dev := rfl
@[simp] theorem setByte_int (s : State) (a : Nat) (b : Byte) : (s.setByte a b).int = s.int := rfl
@[simp] theorem setByte_mem (s : State) (a : Nat) (b : Byte) : (s.setByte a b).mem = Sparse.set unlistedByte s.mem a b := rfl
@[simp] theorem setByte_stops (s : State) (a : Nat) (b : Byte) : (s.setByte a b).stops = s.stops := rfl
@[simp] theorem setByte_panel (s : State) (a : Nat) (b : Byte) : (s.setByte a b).panel = s.panel := rfl
@[simp] theorem setByte_haltReq (s : State) (a : Nat) (b : Byte) : (s.setByte a b).haltReq = s.haltReq := rfl
@[simp] theorem setByte_lastBix (s : State) (a : Nat) (b : Byte) : (s.setByte a b).lastBix = s.lastBix := rfl
@[simp] theorem setByte_fetchParity (s : State) (a : Nat) (b : Byte) : (s.setByte a b).fetchParity = s.fetchParity := rfl
@[simp] theorem setByte_operandParity (s : State) (a : Nat) (b : Byte) : (s.setByte a b).operandParity = s.operandParity := rfl
@[simp] theorem setByte_inputs (s : State) (a : Nat) (b : Byte) : (s.setByte a b).inputs = s.inputs := rfl
@[simp] theorem setByte_between (s : State) (a : Nat) (b : Byte) : (s.setByte a b).between = s.between := rfl
@[simp] theorem setByte_devReplies (s : State) (a : Nat) (b : Byte) : (s.setByte a b).devReplies = s.devReplies := rfl
@[simp] theorem setByte_chanReplies (s : State) (a : Nat) (b : Byte) : (s.setByte a b).chanReplies = s.chanReplies := rfl
@[simp] theorem setByte_ackReplies (s : State) (a : Nat) (b : Byte) : (s.setByte a b).ackReplies = s.ackReplies := rfl
@[simp] theorem setByte_wcsReplies (s : State) (a : Nat) (b : Byte) : (s.setByte a b).wcsReplies = s.wcsReplies := rfl
@[simp] theorem setByte_sent (s : State) (a : Nat) (b : Byte) : (s.setByte a b).sent = s.sent := rfl
@[simp] theorem setByte_freeCount (s : State) (a : Nat) (b : Byte) : (s.setByte a b).freeCount = s.freeCount := rfl
@[simp] theorem setByte_cfg (s : State) (a : Nat) (b : Byte) : (s.setByte a b).cfg = s.cfg := rfl

@[simp] theorem lightParity_regs (s : State) : (s.lightParity).regs = s.regs := rfl
@[simp] theorem lightParity_priv (s : State) : (s.lightParity).priv = s.priv := rfl
@[simp] theorem lightParity_cc (s : State) : (s.lightParity).cc = s.cc := rfl
@[simp] theorem lightParity_ext (s : State) : (s.lightParity).ext = s.ext := rfl
@[simp] theorem lightParity_hist (s : State) : (s.lightParity).hist = s.hist := rfl
@[simp] theorem lightParity_aexp (s : State) : (s.lightParity).aexp = s.aexp := rfl
@[simp] theorem lightParity_pc (s : State) : (s.lightParity).pc = s.pc := rfl
@[simp] theorem lightParity_psd2 (s : State) : (s.lightParity).psd2 = s.psd2 := rfl
@[simp] theorem lightParity_mode (s : State) : (s.lightParity).mode = s.mode := rfl
@[simp] theorem lightParity_bmtEn (s : State) : (s.lightParity).bmtEn = s.bmtEn := rfl
@[simp] theorem lightParity_psdTrapEn (s : State) : (s.lightParity).psdTrapEn = s.psdTrapEn := rfl
@[simp] theorem lightParity_scratch (s : State) : (s.lightParity).scratch = s.scratch := rfl
@[simp] theorem lightParity_mapRegs (s : State) : (s.lightParity).mapRegs = s.mapRegs := rfl
@[simp] theorem lightParity_mapActive (s : State) : (s.lightParity).mapActive = s.mapActive := rfl
@[simp] theorem lightParity_blocked (s : State) : (s.lightParity).blocked = s.blocked := rfl
@[simp] theorem lightParity_blockCount (s : State) : (s.lightParity).blockCount = s.blockCount := rfl
@[simp] theorem lightParity_prot (s : State) : (s.lightParity).prot = s.prot := rfl
@[simp] theorem lightParity_enabled (s : State) : (s.lightParity).enabled = s.enabled := rfl
@[simp] theorem lightParity_request (s : State) : (s.lightParity).request = s.request := rfl
@[simp] theorem lightParity_active (s : State) : (s.lightParity).active = s.active := rfl
@[simp] theorem lightParity_noIntNext (s : State) : (s.lightParity).noIntNext = s.noIntNext := rfl
@[simp] theorem lightParity_csw (s : State) : (s.lightParity).csw = s.csw := rfl
@[simp] theorem lightParity_run (s : State) : (s.lightParity).run = s.run := rfl
@[simp] theorem lightParity_wcs (s : State) : (s.lightParity).wcs = s.wcs := rfl
@[simp] theorem lightParity_ecwcsArmed (s : State) : (s.lightParity).ecwcsArmed = s.ecwcsArmed := rfl
@[simp] theorem lightParity_dev (s : State) : (s.lightParity).dev = s.dev := rfl
@[simp] theorem lightParity_int (s : State) : (s.lightParity).int = s.int := rfl
@[simp] theorem lightParity_mem (s : State) : (s.lightParity).mem = s.mem := rfl
@[simp] theorem lightParity_stops (s : State) : (s.lightParity).stops = s.stops := rfl
@[simp] theorem lightParity_haltReq (s : State) : (s.lightParity).haltReq = s.haltReq := rfl
@[simp] theorem lightParity_lastBix (s : State) : (s.lightParity).lastBix = s.lastBix := rfl
@[simp] theorem lightParity_fetchParity (s : State) : (s.lightParity).fetchParity = s.fetchParity := rfl
@[simp] theorem lightParity_operandParity (s : State) : (s.lightParity).operandParity = s.operandParity := rfl
@[simp] theorem lightParity_inputs (s : State) : (s.lightParity).inputs = s.inputs := rfl
@[simp] theorem lightParity_between (s : State) : (s.lightParity).between = s.between := rfl
@[simp] theorem lightParity_devReplies (s : State) : (s.lightParity).devReplies = s.devReplies := rfl
@[simp] theorem lightParity_chanReplies (s : State) : (s.lightParity).chanReplies = s.chanReplies := rfl
@[simp] theorem lightParity_ackReplies (s : State) : (s.lightParity).ackReplies = s.ackReplies := rfl
@[simp] theorem lightParity_wcsReplies (s : State) : (s.lightParity).wcsReplies = s.wcsReplies := rfl
@[simp] theorem lightParity_sent (s : State) : (s.lightParity).sent = s.sent := rfl
@[simp] theorem lightParity_freeCount (s : State) : (s.lightParity).freeCount = s.freeCount := rfl
@[simp] theorem lightParity_cfg (s : State) : (s.lightParity).cfg = s.cfg := rfl

@[simp] theorem askHalt_regs (s : State) (b : Bool) : (s.askHalt b).regs = s.regs := rfl
@[simp] theorem askHalt_priv (s : State) (b : Bool) : (s.askHalt b).priv = s.priv := rfl
@[simp] theorem askHalt_cc (s : State) (b : Bool) : (s.askHalt b).cc = s.cc := rfl
@[simp] theorem askHalt_ext (s : State) (b : Bool) : (s.askHalt b).ext = s.ext := rfl
@[simp] theorem askHalt_hist (s : State) (b : Bool) : (s.askHalt b).hist = s.hist := rfl
@[simp] theorem askHalt_aexp (s : State) (b : Bool) : (s.askHalt b).aexp = s.aexp := rfl
@[simp] theorem askHalt_pc (s : State) (b : Bool) : (s.askHalt b).pc = s.pc := rfl
@[simp] theorem askHalt_psd2 (s : State) (b : Bool) : (s.askHalt b).psd2 = s.psd2 := rfl
@[simp] theorem askHalt_mode (s : State) (b : Bool) : (s.askHalt b).mode = s.mode := rfl
@[simp] theorem askHalt_bmtEn (s : State) (b : Bool) : (s.askHalt b).bmtEn = s.bmtEn := rfl
@[simp] theorem askHalt_psdTrapEn (s : State) (b : Bool) : (s.askHalt b).psdTrapEn = s.psdTrapEn := rfl
@[simp] theorem askHalt_scratch (s : State) (b : Bool) : (s.askHalt b).scratch = s.scratch := rfl
@[simp] theorem askHalt_mapRegs (s : State) (b : Bool) : (s.askHalt b).mapRegs = s.mapRegs := rfl
@[simp] theorem askHalt_mapActive (s : State) (b : Bool) : (s.askHalt b).mapActive = s.mapActive := rfl
@[simp] theorem askHalt_blocked (s : State) (b : Bool) : (s.askHalt b).blocked = s.blocked := rfl
@[simp] theorem askHalt_blockCount (s : State) (b : Bool) : (s.askHalt b).blockCount = s.blockCount := rfl
@[simp] theorem askHalt_prot (s : State) (b : Bool) : (s.askHalt b).prot = s.prot := rfl
@[simp] theorem askHalt_enabled (s : State) (b : Bool) : (s.askHalt b).enabled = s.enabled := rfl
@[simp] theorem askHalt_request (s : State) (b : Bool) : (s.askHalt b).request = s.request := rfl
@[simp] theorem askHalt_active (s : State) (b : Bool) : (s.askHalt b).active = s.active := rfl
@[simp] theorem askHalt_noIntNext (s : State) (b : Bool) : (s.askHalt b).noIntNext = s.noIntNext := rfl
@[simp] theorem askHalt_csw (s : State) (b : Bool) : (s.askHalt b).csw = s.csw := rfl
@[simp] theorem askHalt_run (s : State) (b : Bool) : (s.askHalt b).run = s.run := rfl
@[simp] theorem askHalt_wcs (s : State) (b : Bool) : (s.askHalt b).wcs = s.wcs := rfl
@[simp] theorem askHalt_ecwcsArmed (s : State) (b : Bool) : (s.askHalt b).ecwcsArmed = s.ecwcsArmed := rfl
@[simp] theorem askHalt_dev (s : State) (b : Bool) : (s.askHalt b).dev = s.dev := rfl
@[simp] theorem askHalt_int (s : State) (b : Bool) : (s.askHalt b).int = s.int := rfl
@[simp] theorem askHalt_mem (s : State) (b : Bool) : (s.askHalt b).mem = s.mem := rfl
@[simp] theorem askHalt_stops (s : State) (b : Bool) : (s.askHalt b).stops = s.stops := rfl
@[simp] theorem askHalt_panel (s : State) (b : Bool) : (s.askHalt b).panel = s.panel := rfl
@[simp] theorem askHalt_haltReq (s : State) (b : Bool) : (s.askHalt b).haltReq = (if b then .stop else s.haltReq) := rfl
@[simp] theorem askHalt_lastBix (s : State) (b : Bool) : (s.askHalt b).lastBix = s.lastBix := rfl
@[simp] theorem askHalt_fetchParity (s : State) (b : Bool) : (s.askHalt b).fetchParity = s.fetchParity := rfl
@[simp] theorem askHalt_operandParity (s : State) (b : Bool) : (s.askHalt b).operandParity = s.operandParity := rfl
@[simp] theorem askHalt_inputs (s : State) (b : Bool) : (s.askHalt b).inputs = s.inputs := rfl
@[simp] theorem askHalt_between (s : State) (b : Bool) : (s.askHalt b).between = s.between := rfl
@[simp] theorem askHalt_devReplies (s : State) (b : Bool) : (s.askHalt b).devReplies = s.devReplies := rfl
@[simp] theorem askHalt_chanReplies (s : State) (b : Bool) : (s.askHalt b).chanReplies = s.chanReplies := rfl
@[simp] theorem askHalt_ackReplies (s : State) (b : Bool) : (s.askHalt b).ackReplies = s.ackReplies := rfl
@[simp] theorem askHalt_wcsReplies (s : State) (b : Bool) : (s.askHalt b).wcsReplies = s.wcsReplies := rfl
@[simp] theorem askHalt_sent (s : State) (b : Bool) : (s.askHalt b).sent = s.sent := rfl
@[simp] theorem askHalt_freeCount (s : State) (b : Bool) : (s.askHalt b).freeCount = s.freeCount := rfl
@[simp] theorem askHalt_cfg (s : State) (b : Bool) : (s.askHalt b).cfg = s.cfg := rfl

@[simp] theorem start_regs (s : State) (len : Len) : (s.start len).regs = s.regs := rfl
@[simp] theorem start_priv (s : State) (len : Len) : (s.start len).priv = s.priv := rfl
@[simp] theorem start_cc (s : State) (len : Len) : (s.start len).cc = s.cc := rfl
@[simp] theorem start_ext (s : State) (len : Len) : (s.start len).ext = s.ext := rfl
@[simp] theorem start_hist (s : State) (len : Len) : (s.start len).hist = s.hist := rfl
@[simp] theorem start_aexp (s : State) (len : Len) : (s.start len).aexp = s.aexp := rfl
@[simp] theorem start_pc (s : State) (len : Len) : (s.start len).pc = advance len s.pc := rfl
@[simp] theorem start_psd2 (s : State) (len : Len) : (s.start len).psd2 = s.psd2 := rfl
@[simp] theorem start_mode (s : State) (len : Len) : (s.start len).mode = s.mode := rfl
@[simp] theorem start_bmtEn (s : State) (len : Len) : (s.start len).bmtEn = s.bmtEn := rfl
@[simp] theorem start_psdTrapEn (s : State) (len : Len) : (s.start len).psdTrapEn = s.psdTrapEn := rfl
@[simp] theorem start_scratch (s : State) (len : Len) : (s.start len).scratch = s.scratch := rfl
@[simp] theorem start_mapRegs (s : State) (len : Len) : (s.start len).mapRegs = s.mapRegs := rfl
@[simp] theorem start_mapActive (s : State) (len : Len) : (s.start len).mapActive = s.mapActive := rfl
@[simp] theorem start_blocked (s : State) (len : Len) : (s.start len).blocked = s.blocked := rfl
@[simp] theorem start_blockCount (s : State) (len : Len) : (s.start len).blockCount = s.blockCount := rfl
@[simp] theorem start_prot (s : State) (len : Len) : (s.start len).prot = s.prot := rfl
@[simp] theorem start_enabled (s : State) (len : Len) : (s.start len).enabled = s.enabled := rfl
@[simp] theorem start_request (s : State) (len : Len) : (s.start len).request = s.request := rfl
@[simp] theorem start_active (s : State) (len : Len) : (s.start len).active = s.active := rfl
@[simp] theorem start_noIntNext (s : State) (len : Len) : (s.start len).noIntNext = s.noIntNext := rfl
@[simp] theorem start_csw (s : State) (len : Len) : (s.start len).csw = s.csw := rfl
@[simp] theorem start_run (s : State) (len : Len) : (s.start len).run = s.run := rfl
@[simp] theorem start_wcs (s : State) (len : Len) : (s.start len).wcs = s.wcs := rfl
@[simp] theorem start_ecwcsArmed (s : State) (len : Len) : (s.start len).ecwcsArmed = s.ecwcsArmed := rfl
@[simp] theorem start_dev (s : State) (len : Len) : (s.start len).dev = s.dev := rfl
@[simp] theorem start_int (s : State) (len : Len) : (s.start len).int = s.int := rfl
@[simp] theorem start_mem (s : State) (len : Len) : (s.start len).mem = s.mem := rfl
@[simp] theorem start_stops (s : State) (len : Len) : (s.start len).stops = s.stops := rfl
@[simp] theorem start_panel (s : State) (len : Len) : (s.start len).panel = s.panel := rfl
@[simp] theorem start_haltReq (s : State) (len : Len) : (s.start len).haltReq = s.haltReq := rfl
@[simp] theorem start_lastBix (s : State) (len : Len) : (s.start len).lastBix = false := rfl
@[simp] theorem start_fetchParity (s : State) (len : Len) : (s.start len).fetchParity = s.fetchParity := rfl
@[simp] theorem start_operandParity (s : State) (len : Len) : (s.start len).operandParity = s.operandParity := rfl
@[simp] theorem start_inputs (s : State) (len : Len) : (s.start len).inputs = s.inputs := rfl
@[simp] theorem start_between (s : State) (len : Len) : (s.start len).between = s.between := rfl
@[simp] theorem start_devReplies (s : State) (len : Len) : (s.start len).devReplies = s.devReplies := rfl
@[simp] theorem start_chanReplies (s : State) (len : Len) : (s.start len).chanReplies = s.chanReplies := rfl
@[simp] theorem start_ackReplies (s : State) (len : Len) : (s.start len).ackReplies = s.ackReplies := rfl
@[simp] theorem start_wcsReplies (s : State) (len : Len) : (s.start len).wcsReplies = s.wcsReplies := rfl
@[simp] theorem start_sent (s : State) (len : Len) : (s.start len).sent = s.sent := rfl
@[simp] theorem start_freeCount (s : State) (len : Len) : (s.start len).freeCount = s.freeCount := rfl
@[simp] theorem start_cfg (s : State) (len : Len) : (s.start len).cfg = s.cfg := rfl

@[simp] theorem showHalt_regs (s : State) : (s.showHalt).regs = s.regs := rfl
@[simp] theorem showHalt_priv (s : State) : (s.showHalt).priv = s.priv := rfl
@[simp] theorem showHalt_cc (s : State) : (s.showHalt).cc = s.cc := rfl
@[simp] theorem showHalt_ext (s : State) : (s.showHalt).ext = s.ext := rfl
@[simp] theorem showHalt_hist (s : State) : (s.showHalt).hist = s.hist := rfl
@[simp] theorem showHalt_aexp (s : State) : (s.showHalt).aexp = s.aexp := rfl
@[simp] theorem showHalt_pc (s : State) : (s.showHalt).pc = s.pc := rfl
@[simp] theorem showHalt_psd2 (s : State) : (s.showHalt).psd2 = s.psd2 := rfl
@[simp] theorem showHalt_mode (s : State) : (s.showHalt).mode = s.mode := rfl
@[simp] theorem showHalt_bmtEn (s : State) : (s.showHalt).bmtEn = s.bmtEn := rfl
@[simp] theorem showHalt_psdTrapEn (s : State) : (s.showHalt).psdTrapEn = s.psdTrapEn := rfl
@[simp] theorem showHalt_scratch (s : State) : (s.showHalt).scratch = s.scratch := rfl
@[simp] theorem showHalt_mapRegs (s : State) : (s.showHalt).mapRegs = s.mapRegs := rfl
@[simp] theorem showHalt_mapActive (s : State) : (s.showHalt).mapActive = s.mapActive := rfl
@[simp] theorem showHalt_blocked (s : State) : (s.showHalt).blocked = s.blocked := rfl
@[simp] theorem showHalt_blockCount (s : State) : (s.showHalt).blockCount = s.blockCount := rfl
@[simp] theorem showHalt_prot (s : State) : (s.showHalt).prot = s.prot := rfl
@[simp] theorem showHalt_enabled (s : State) : (s.showHalt).enabled = s.enabled := rfl
@[simp] theorem showHalt_request (s : State) : (s.showHalt).request = s.request := rfl
@[simp] theorem showHalt_active (s : State) : (s.showHalt).active = s.active := rfl
@[simp] theorem showHalt_noIntNext (s : State) : (s.showHalt).noIntNext = s.noIntNext := rfl
@[simp] theorem showHalt_csw (s : State) : (s.showHalt).csw = s.csw := rfl
@[simp] theorem showHalt_run (s : State) : (s.showHalt).run = s.run := rfl
@[simp] theorem showHalt_wcs (s : State) : (s.showHalt).wcs = s.wcs := rfl
@[simp] theorem showHalt_ecwcsArmed (s : State) : (s.showHalt).ecwcsArmed = s.ecwcsArmed := rfl
@[simp] theorem showHalt_dev (s : State) : (s.showHalt).dev = s.dev := rfl
@[simp] theorem showHalt_int (s : State) : (s.showHalt).int = s.int := rfl
@[simp] theorem showHalt_mem (s : State) : (s.showHalt).mem = s.mem := rfl
@[simp] theorem showHalt_stops (s : State) : (s.showHalt).stops = s.stops := rfl
@[simp] theorem showHalt_haltReq (s : State) : (s.showHalt).haltReq = s.haltReq := rfl
@[simp] theorem showHalt_lastBix (s : State) : (s.showHalt).lastBix = s.lastBix := rfl
@[simp] theorem showHalt_fetchParity (s : State) : (s.showHalt).fetchParity = s.fetchParity := rfl
@[simp] theorem showHalt_operandParity (s : State) : (s.showHalt).operandParity = s.operandParity := rfl
@[simp] theorem showHalt_inputs (s : State) : (s.showHalt).inputs = s.inputs := rfl
@[simp] theorem showHalt_between (s : State) : (s.showHalt).between = s.between := rfl
@[simp] theorem showHalt_devReplies (s : State) : (s.showHalt).devReplies = s.devReplies := rfl
@[simp] theorem showHalt_chanReplies (s : State) : (s.showHalt).chanReplies = s.chanReplies := rfl
@[simp] theorem showHalt_ackReplies (s : State) : (s.showHalt).ackReplies = s.ackReplies := rfl
@[simp] theorem showHalt_wcsReplies (s : State) : (s.showHalt).wcsReplies = s.wcsReplies := rfl
@[simp] theorem showHalt_sent (s : State) : (s.showHalt).sent = s.sent := rfl
@[simp] theorem showHalt_freeCount (s : State) : (s.showHalt).freeCount = s.freeCount := rfl
@[simp] theorem showHalt_cfg (s : State) : (s.showHalt).cfg = s.cfg := rfl

@[simp] theorem setGoing_regs (s : State) (h : HaltReq) : (s.setGoing h).regs = s.regs := rfl
@[simp] theorem setGoing_priv (s : State) (h : HaltReq) : (s.setGoing h).priv = s.priv := rfl
@[simp] theorem setGoing_cc (s : State) (h : HaltReq) : (s.setGoing h).cc = s.cc := rfl
@[simp] theorem setGoing_ext (s : State) (h : HaltReq) : (s.setGoing h).ext = s.ext := rfl
@[simp] theorem setGoing_hist (s : State) (h : HaltReq) : (s.setGoing h).hist = s.hist := rfl
@[simp] theorem setGoing_aexp (s : State) (h : HaltReq) : (s.setGoing h).aexp = s.aexp := rfl
@[simp] theorem setGoing_pc (s : State) (h : HaltReq) : (s.setGoing h).pc = s.pc := rfl
@[simp] theorem setGoing_psd2 (s : State) (h : HaltReq) : (s.setGoing h).psd2 = s.psd2 := rfl
@[simp] theorem setGoing_mode (s : State) (h : HaltReq) : (s.setGoing h).mode = s.mode := rfl
@[simp] theorem setGoing_bmtEn (s : State) (h : HaltReq) : (s.setGoing h).bmtEn = s.bmtEn := rfl
@[simp] theorem setGoing_psdTrapEn (s : State) (h : HaltReq) : (s.setGoing h).psdTrapEn = s.psdTrapEn := rfl
@[simp] theorem setGoing_scratch (s : State) (h : HaltReq) : (s.setGoing h).scratch = s.scratch := rfl
@[simp] theorem setGoing_mapRegs (s : State) (h : HaltReq) : (s.setGoing h).mapRegs = s.mapRegs := rfl
@[simp] theorem setGoing_mapActive (s : State) (h : HaltReq) : (s.setGoing h).mapActive = s.mapActive := rfl
@[simp] theorem setGoing_blocked (s : State) (h : HaltReq) : (s.setGoing h).blocked = s.blocked := rfl
@[simp] theorem setGoing_blockCount (s : State) (h : HaltReq) : (s.setGoing h).blockCount = s.blockCount := rfl
@[simp] theorem setGoing_prot (s : State) (h : HaltReq) : (s.setGoing h).prot = s.prot := rfl
@[simp] theorem setGoing_enabled (s : State) (h : HaltReq) : (s.setGoing h).enabled = s.enabled := rfl
@[simp] theorem setGoing_request (s : State) (h : HaltReq) : (s.setGoing h).request = s.request := rfl
@[simp] theorem setGoing_active (s : State) (h : HaltReq) : (s.setGoing h).active = s.active := rfl
@[simp] theorem setGoing_noIntNext (s : State) (h : HaltReq) : (s.setGoing h).noIntNext = s.noIntNext := rfl
@[simp] theorem setGoing_csw (s : State) (h : HaltReq) : (s.setGoing h).csw = s.csw := rfl
@[simp] theorem setGoing_run (s : State) (h : HaltReq) : (s.setGoing h).run = .run := rfl
@[simp] theorem setGoing_wcs (s : State) (h : HaltReq) : (s.setGoing h).wcs = s.wcs := rfl
@[simp] theorem setGoing_ecwcsArmed (s : State) (h : HaltReq) : (s.setGoing h).ecwcsArmed = s.ecwcsArmed := rfl
@[simp] theorem setGoing_dev (s : State) (h : HaltReq) : (s.setGoing h).dev = s.dev := rfl
@[simp] theorem setGoing_int (s : State) (h : HaltReq) : (s.setGoing h).int = s.int := rfl
@[simp] theorem setGoing_mem (s : State) (h : HaltReq) : (s.setGoing h).mem = s.mem := rfl
@[simp] theorem setGoing_stops (s : State) (h : HaltReq) : (s.setGoing h).stops = s.stops := rfl
@[simp] theorem setGoing_panel (s : State) (h : HaltReq) : (s.setGoing h).panel = { s.panel with stopLight := false } := rfl
@[simp] theorem setGoing_haltReq (s : State) (h : HaltReq) : (s.setGoing h).haltReq = h := rfl
@[simp] theorem setGoing_lastBix (s : State) (h : HaltReq) : (s.setGoing h).lastBix = s.lastBix := rfl
@[simp] theorem setGoing_fetchParity (s : State) (h : HaltReq) : (s.setGoing h).fetchParity = s.fetchParity := rfl
@[simp] theorem setGoing_operandParity (s : State) (h : HaltReq) : (s.setGoing h).operandParity = s.operandParity := rfl
@[simp] theorem setGoing_inputs (s : State) (h : HaltReq) : (s.setGoing h).inputs = s.inputs := rfl
@[simp] theorem setGoing_between (s : State) (h : HaltReq) : (s.setGoing h).between = s.between := rfl
@[simp] theorem setGoing_devReplies (s : State) (h : HaltReq) : (s.setGoing h).devReplies = s.devReplies := rfl
@[simp] theorem setGoing_chanReplies (s : State) (h : HaltReq) : (s.setGoing h).chanReplies = s.chanReplies := rfl
@[simp] theorem setGoing_ackReplies (s : State) (h : HaltReq) : (s.setGoing h).ackReplies = s.ackReplies := rfl
@[simp] theorem setGoing_wcsReplies (s : State) (h : HaltReq) : (s.setGoing h).wcsReplies = s.wcsReplies := rfl
@[simp] theorem setGoing_sent (s : State) (h : HaltReq) : (s.setGoing h).sent = s.sent := rfl
@[simp] theorem setGoing_freeCount (s : State) (h : HaltReq) : (s.setGoing h).freeCount = s.freeCount := rfl
@[simp] theorem setGoing_cfg (s : State) (h : HaltReq) : (s.setGoing h).cfg = s.cfg := rfl

@[simp] theorem setWcs_regs (s : State) (a : Nat) (v : Dword) : (s.setWcs a v).regs = s.regs := rfl
@[simp] theorem setWcs_priv (s : State) (a : Nat) (v : Dword) : (s.setWcs a v).priv = s.priv := rfl
@[simp] theorem setWcs_cc (s : State) (a : Nat) (v : Dword) : (s.setWcs a v).cc = s.cc := rfl
@[simp] theorem setWcs_ext (s : State) (a : Nat) (v : Dword) : (s.setWcs a v).ext = s.ext := rfl
@[simp] theorem setWcs_hist (s : State) (a : Nat) (v : Dword) : (s.setWcs a v).hist = s.hist := rfl
@[simp] theorem setWcs_aexp (s : State) (a : Nat) (v : Dword) : (s.setWcs a v).aexp = s.aexp := rfl
@[simp] theorem setWcs_pc (s : State) (a : Nat) (v : Dword) : (s.setWcs a v).pc = s.pc := rfl
@[simp] theorem setWcs_psd2 (s : State) (a : Nat) (v : Dword) : (s.setWcs a v).psd2 = s.psd2 := rfl
@[simp] theorem setWcs_mode (s : State) (a : Nat) (v : Dword) : (s.setWcs a v).mode = s.mode := rfl
@[simp] theorem setWcs_bmtEn (s : State) (a : Nat) (v : Dword) : (s.setWcs a v).bmtEn = s.bmtEn := rfl
@[simp] theorem setWcs_psdTrapEn (s : State) (a : Nat) (v : Dword) : (s.setWcs a v).psdTrapEn = s.psdTrapEn := rfl
@[simp] theorem setWcs_scratch (s : State) (a : Nat) (v : Dword) : (s.setWcs a v).scratch = s.scratch := rfl
@[simp] theorem setWcs_mapRegs (s : State) (a : Nat) (v : Dword) : (s.setWcs a v).mapRegs = s.mapRegs := rfl
@[simp] theorem setWcs_mapActive (s : State) (a : Nat) (v : Dword) : (s.setWcs a v).mapActive = s.mapActive := rfl
@[simp] theorem setWcs_blocked (s : State) (a : Nat) (v : Dword) : (s.setWcs a v).blocked = s.blocked := rfl
@[simp] theorem setWcs_blockCount (s : State) (a : Nat) (v : Dword) : (s.setWcs a v).blockCount = s.blockCount := rfl
@[simp] theorem setWcs_prot (s : State) (a : Nat) (v : Dword) : (s.setWcs a v).prot = s.prot := rfl
@[simp] theorem setWcs_enabled (s : State) (a : Nat) (v : Dword) : (s.setWcs a v).enabled = s.enabled := rfl
@[simp] theorem setWcs_request (s : State) (a : Nat) (v : Dword) : (s.setWcs a v).request = s.request := rfl
@[simp] theorem setWcs_active (s : State) (a : Nat) (v : Dword) : (s.setWcs a v).active = s.active := rfl
@[simp] theorem setWcs_noIntNext (s : State) (a : Nat) (v : Dword) : (s.setWcs a v).noIntNext = s.noIntNext := rfl
@[simp] theorem setWcs_csw (s : State) (a : Nat) (v : Dword) : (s.setWcs a v).csw = s.csw := rfl
@[simp] theorem setWcs_run (s : State) (a : Nat) (v : Dword) : (s.setWcs a v).run = s.run := rfl
@[simp] theorem setWcs_wcs (s : State) (a : Nat) (v : Dword) : (s.setWcs a v).wcs = Sparse.set 0 s.wcs a v := rfl
@[simp] theorem setWcs_ecwcsArmed (s : State) (a : Nat) (v : Dword) : (s.setWcs a v).ecwcsArmed = s.ecwcsArmed := rfl
@[simp] theorem setWcs_dev (s : State) (a : Nat) (v : Dword) : (s.setWcs a v).dev = s.dev := rfl
@[simp] theorem setWcs_int (s : State) (a : Nat) (v : Dword) : (s.setWcs a v).int = s.int := rfl
@[simp] theorem setWcs_mem (s : State) (a : Nat) (v : Dword) : (s.setWcs a v).mem = s.mem := rfl
@[simp] theorem setWcs_stops (s : State) (a : Nat) (v : Dword) : (s.setWcs a v).stops = s.stops := rfl
@[simp] theorem setWcs_panel (s : State) (a : Nat) (v : Dword) : (s.setWcs a v).panel = s.panel := rfl
@[simp] theorem setWcs_haltReq (s : State) (a : Nat) (v : Dword) : (s.setWcs a v).haltReq = s.haltReq := rfl
@[simp] theorem setWcs_lastBix (s : State) (a : Nat) (v : Dword) : (s.setWcs a v).lastBix = s.lastBix := rfl
@[simp] theorem setWcs_fetchParity (s : State) (a : Nat) (v : Dword) : (s.setWcs a v).fetchParity = s.fetchParity := rfl
@[simp] theorem setWcs_operandParity (s : State) (a : Nat) (v : Dword) : (s.setWcs a v).operandParity = s.operandParity := rfl
@[simp] theorem setWcs_inputs (s : State) (a : Nat) (v : Dword) : (s.setWcs a v).inputs = s.inputs := rfl
@[simp] theorem setWcs_between (s : State) (a : Nat) (v : Dword) : (s.setWcs a v).between = s.between := rfl
@[simp] theorem setWcs_devReplies (s : State) (a : Nat) (v : Dword) : (s.setWcs a v).devReplies = s.devReplies := rfl
@[simp] theorem setWcs_chanReplies (s : State) (a : Nat) (v : Dword) : (s.setWcs a v).chanReplies = s.chanReplies := rfl
@[simp] theorem setWcs_ackReplies (s : State) (a : Nat) (v : Dword) : (s.setWcs a v).ackReplies = s.ackReplies := rfl
@[simp] theorem setWcs_wcsReplies (s : State) (a : Nat) (v : Dword) : (s.setWcs a v).wcsReplies = s.wcsReplies := rfl
@[simp] theorem setWcs_sent (s : State) (a : Nat) (v : Dword) : (s.setWcs a v).sent = s.sent := rfl
@[simp] theorem setWcs_freeCount (s : State) (a : Nat) (v : Dword) : (s.setWcs a v).freeCount = s.freeCount := rfl
@[simp] theorem setWcs_cfg (s : State) (a : Nat) (v : Dword) : (s.setWcs a v).cfg = s.cfg := rfl

@[simp] theorem withPsw_regs (s : State) (w : Word) : (s.withPsw w).regs = s.regs := rfl
@[simp] theorem withPsw_priv (s : State) (w : Word) : (s.withPsw w).priv = bitAt w 0 := rfl
@[simp] theorem withPsw_cc (s : State) (w : Word) : (s.withPsw w).cc = ccOf w := rfl
@[simp] theorem withPsw_ext (s : State) (w : Word) : (s.withPsw w).ext = bitAt w 5 := rfl
@[simp] theorem withPsw_hist (s : State) (w : Word) : (s.withPsw w).hist = s.hist := rfl
@[simp] theorem withPsw_aexp (s : State) (w : Word) : (s.withPsw w).aexp = s.aexp := rfl
@[simp] theorem withPsw_pc (s : State) (w : Word) : (s.withPsw w).pc = bits w 13 18 := rfl
@[simp] theorem withPsw_psd2 (s : State) (w : Word) : (s.withPsw w).psd2 = s.psd2 := rfl
@[simp] theorem withPsw_mode (s : State) (w : Word) : (s.withPsw w).mode = s.mode := rfl
@[simp] theorem withPsw_bmtEn (s : State) (w : Word) : (s.withPsw w).bmtEn = s.bmtEn := rfl
@[simp] theorem withPsw_psdTrapEn (s : State) (w : Word) : (s.withPsw w).psdTrapEn = s.psdTrapEn := rfl
@[simp] theorem withPsw_scratch (s : State) (w : Word) : (s.withPsw w).scratch = s.scratch := rfl
@[simp] theorem withPsw_mapRegs (s : State) (w : Word) : (s.withPsw w).mapRegs = s.mapRegs := rfl
@[simp] theorem withPsw_mapActive (s : State) (w : Word) : (s.withPsw w).mapActive = s.mapActive := rfl
@[simp] theorem withPsw_blocked (s : State) (w : Word) : (s.withPsw w).blocked = s.blocked := rfl
@[simp] theorem withPsw_blockCount (s : State) (w : Word) : (s.withPsw w).blockCount = s.blockCount := rfl
@[simp] theorem withPsw_prot (s : State) (w : Word) : (s.withPsw w).prot = s.prot := rfl
@[simp] theorem withPsw_enabled (s : State) (w : Word) : (s.withPsw w).enabled = s.enabled := rfl
@[simp] theorem withPsw_request (s : State) (w : Word) : (s.withPsw w).request = s.request := rfl
@[simp] theorem withPsw_active (s : State) (w : Word) : (s.withPsw w).active = s.active := rfl
@[simp] theorem withPsw_noIntNext (s : State) (w : Word) : (s.withPsw w).noIntNext = s.noIntNext := rfl
@[simp] theorem withPsw_csw (s : State) (w : Word) : (s.withPsw w).csw = s.csw := rfl
@[simp] theorem withPsw_run (s : State) (w : Word) : (s.withPsw w).run = s.run := rfl
@[simp] theorem withPsw_wcs (s : State) (w : Word) : (s.withPsw w).wcs = s.wcs := rfl
@[simp] theorem withPsw_ecwcsArmed (s : State) (w : Word) : (s.withPsw w).ecwcsArmed = s.ecwcsArmed := rfl
@[simp] theorem withPsw_dev (s : State) (w : Word) : (s.withPsw w).dev = s.dev := rfl
@[simp] theorem withPsw_int (s : State) (w : Word) : (s.withPsw w).int = s.int := rfl
@[simp] theorem withPsw_mem (s : State) (w : Word) : (s.withPsw w).mem = s.mem := rfl
@[simp] theorem withPsw_stops (s : State) (w : Word) : (s.withPsw w).stops = s.stops := rfl
@[simp] theorem withPsw_panel (s : State) (w : Word) : (s.withPsw w).panel = s.panel := rfl
@[simp] theorem withPsw_haltReq (s : State) (w : Word) : (s.withPsw w).haltReq = s.haltReq := rfl
@[simp] theorem withPsw_lastBix (s : State) (w : Word) : (s.withPsw w).lastBix = s.lastBix := rfl
@[simp] theorem withPsw_fetchParity (s : State) (w : Word) : (s.withPsw w).fetchParity = s.fetchParity := rfl
@[simp] theorem withPsw_operandParity (s : State) (w : Word) : (s.withPsw w).operandParity = s.operandParity := rfl
@[simp] theorem withPsw_inputs (s : State) (w : Word) : (s.withPsw w).inputs = s.inputs := rfl
@[simp] theorem withPsw_between (s : State) (w : Word) : (s.withPsw w).between = s.between := rfl
@[simp] theorem withPsw_devReplies (s : State) (w : Word) : (s.withPsw w).devReplies = s.devReplies := rfl
@[simp] theorem withPsw_chanReplies (s : State) (w : Word) : (s.withPsw w).chanReplies = s.chanReplies := rfl
@[simp] theorem withPsw_ackReplies (s : State) (w : Word) : (s.withPsw w).ackReplies = s.ackReplies := rfl
@[simp] theorem withPsw_wcsReplies (s : State) (w : Word) : (s.withPsw w).wcsReplies = s.wcsReplies := rfl
@[simp] theorem withPsw_sent (s : State) (w : Word) : (s.withPsw w).sent = s.sent := rfl
@[simp] theorem withPsw_freeCount (s : State) (w : Word) : (s.withPsw w).freeCount = s.freeCount := rfl
@[simp] theorem withPsw_cfg (s : State) (w : Word) : (s.withPsw w).cfg = s.cfg := rfl

@[simp] theorem withPsd_regs (s : State) (w v : Word) : (s.withPsd w v).regs = s.regs := rfl
@[simp] theorem withPsd_priv (s : State) (w v : Word) : (s.withPsd w v).priv = bitAt w 0 := rfl
@[simp] theorem withPsd_cc (s : State) (w v : Word) : (s.withPsd w v).cc = ccOf w := rfl
@[simp] theorem withPsd_ext (s : State) (w v : Word) : (s.withPsd w v).ext = bitAt w 5 := rfl
@[simp] theorem withPsd_hist (s : State) (w v : Word) : (s.withPsd w v).hist = s.hist := rfl
@[simp] theorem withPsd_aexp (s : State) (w v : Word) : (s.withPsd w v).aexp = bitAt w 7 := rfl
@[simp] theorem withPsd_pc (s : State) (w v : Word) : (s.withPsd w v).pc = bits w 13 18 := rfl
@[simp] theorem withPsd_psd2 (s : State) (w v : Word) : (s.withPsd w v).psd2 = psd2Kept v := rfl
@[simp] theorem withPsd_mode (s : State) (w v : Word) : (s.withPsd w v).mode = s.mode := rfl
@[simp] theorem withPsd_bmtEn (s : State) (w v : Word) : (s.withPsd w v).bmtEn = s.bmtEn := rfl
@[simp] theorem withPsd_psdTrapEn (s : State) (w v : Word) : (s.withPsd w v).psdTrapEn = s.psdTrapEn := rfl
@[simp] theorem withPsd_mapRegs (s : State) (w v : Word) : (s.withPsd w v).mapRegs = s.mapRegs := rfl
@[simp] theorem withPsd_mapActive (s : State) (w v : Word) : (s.withPsd w v).mapActive = mapped v := rfl
@[simp] theorem withPsd_blocked (s : State) (w v : Word) : (s.withPsd w v).blocked = blockedBy v s.blocked := rfl
@[simp] theorem withPsd_prot (s : State) (w v : Word) : (s.withPsd w v).prot = s.prot := rfl
@[simp] theorem withPsd_enabled (s : State) (w v : Word) : (s.withPsd w v).enabled = s.enabled := rfl
@[simp] theorem withPsd_request (s : State) (w v : Word) : (s.withPsd w v).request = s.request := rfl
@[simp] theorem withPsd_active (s : State) (w v : Word) : (s.withPsd w v).active = s.active := rfl
@[simp] theorem withPsd_noIntNext (s : State) (w v : Word) : (s.withPsd w v).noIntNext = s.noIntNext := rfl
@[simp] theorem withPsd_csw (s : State) (w v : Word) : (s.withPsd w v).csw = s.csw := rfl
@[simp] theorem withPsd_run (s : State) (w v : Word) : (s.withPsd w v).run = s.run := rfl
@[simp] theorem withPsd_wcs (s : State) (w v : Word) : (s.withPsd w v).wcs = s.wcs := rfl
@[simp] theorem withPsd_ecwcsArmed (s : State) (w v : Word) : (s.withPsd w v).ecwcsArmed = s.ecwcsArmed := rfl
@[simp] theorem withPsd_dev (s : State) (w v : Word) : (s.withPsd w v).dev = s.dev := rfl
@[simp] theorem withPsd_int (s : State) (w v : Word) : (s.withPsd w v).int = s.int := rfl
@[simp] theorem withPsd_mem (s : State) (w v : Word) : (s.withPsd w v).mem = s.mem := rfl
@[simp] theorem withPsd_stops (s : State) (w v : Word) : (s.withPsd w v).stops = s.stops := rfl
@[simp] theorem withPsd_panel (s : State) (w v : Word) : (s.withPsd w v).panel = s.panel := rfl
@[simp] theorem withPsd_haltReq (s : State) (w v : Word) : (s.withPsd w v).haltReq = s.haltReq := rfl
@[simp] theorem withPsd_lastBix (s : State) (w v : Word) : (s.withPsd w v).lastBix = s.lastBix := rfl
@[simp] theorem withPsd_fetchParity (s : State) (w v : Word) : (s.withPsd w v).fetchParity = s.fetchParity := rfl
@[simp] theorem withPsd_operandParity (s : State) (w v : Word) : (s.withPsd w v).operandParity = s.operandParity := rfl
@[simp] theorem withPsd_inputs (s : State) (w v : Word) : (s.withPsd w v).inputs = s.inputs := rfl
@[simp] theorem withPsd_between (s : State) (w v : Word) : (s.withPsd w v).between = s.between := rfl
@[simp] theorem withPsd_devReplies (s : State) (w v : Word) : (s.withPsd w v).devReplies = s.devReplies := rfl
@[simp] theorem withPsd_chanReplies (s : State) (w v : Word) : (s.withPsd w v).chanReplies = s.chanReplies := rfl
@[simp] theorem withPsd_ackReplies (s : State) (w v : Word) : (s.withPsd w v).ackReplies = s.ackReplies := rfl
@[simp] theorem withPsd_wcsReplies (s : State) (w v : Word) : (s.withPsd w v).wcsReplies = s.wcsReplies := rfl
@[simp] theorem withPsd_sent (s : State) (w v : Word) : (s.withPsd w v).sent = s.sent := rfl
@[simp] theorem withPsd_freeCount (s : State) (w v : Word) : (s.withPsd w v).freeCount = s.freeCount := rfl
@[simp] theorem withPsd_cfg (s : State) (w v : Word) : (s.withPsd w v).cfg = s.cfg := rfl

end Sys2Proof.Machine.State
end

