-- ==== Sys2Proof/Laws/Access.lean ====
section
/-!
SUPPORT. What the reads of registers, cells and bytes give after each named update: unchanged where the update
is of another field (by definition), the value written where it is of that one.
-/

namespace Sys2Proof.Machine.State

@[simp] theorem cell_setReg (s : State) (r : Reg) (v : Word) (j : BitVec 8) : (s.setReg r v).cell j = s.cell j := rfl
@[simp] theorem stat_setReg (s : State) (r : Reg) (v : Word) : (s.setReg r v).stat = s.stat := rfl
@[simp] theorem mapReg_setReg (s : State) (r : Reg) (v : Word) (j : BitVec 5) : (s.setReg r v).mapReg j = s.mapReg j := rfl
@[simp] theorem protReg_setReg (s : State) (r : Reg) (v : Word) (j : BitVec 4) : (s.setReg r v).protReg j = s.protReg j := rfl
@[simp] theorem byte_setReg (s : State) (r : Reg) (v : Word) (k : Nat) : (s.setReg r v).byte k = s.byte k := rfl
@[simp] theorem peek_setReg (s : State) (r : Reg) (v : Word) (k : Nat) (z : Size) : (s.setReg r v).peek k z = s.peek k z := rfl
@[simp] theorem present_setReg (s : State) (r : Reg) (v : Word) (pa : Addr) (z : Size) : (s.setReg r v).present pa z = s.present pa z := rfl
@[simp] theorem installed_setReg (s : State) (r : Reg) (v : Word) (lo : Nat) (z : Nat) : (s.setReg r v).installed lo z = s.installed lo z := rfl
@[simp] theorem devAt_setReg (s : State) (r : Reg) (v : Word) (d : BitVec 7) : (s.setReg r v).devAt d = s.devAt d := rfl
@[simp] theorem isClassF_setReg (s : State) (r : Reg) (v : Word) (k : Level) : (s.setReg r v).isClassF k = s.isClassF k := rfl

@[simp] theorem cell_setPair (s : State) (r : Reg) (v : Dword) (j : BitVec 8) : (s.setPair r v).cell j = s.cell j := rfl
@[simp] theorem stat_setPair (s : State) (r : Reg) (v : Dword) : (s.setPair r v).stat = s.stat := rfl
@[simp] theorem mapReg_setPair (s : State) (r : Reg) (v : Dword) (j : BitVec 5) : (s.setPair r v).mapReg j = s.mapReg j := rfl
@[simp] theorem protReg_setPair (s : State) (r : Reg) (v : Dword) (j : BitVec 4) : (s.setPair r v).protReg j = s.protReg j := rfl
@[simp] theorem byte_setPair (s : State) (r : Reg) (v : Dword) (k : Nat) : (s.setPair r v).byte k = s.byte k := rfl
@[simp] theorem peek_setPair (s : State) (r : Reg) (v : Dword) (k : Nat) (z : Size) : (s.setPair r v).peek k z = s.peek k z := rfl
@[simp] theorem present_setPair (s : State) (r : Reg) (v : Dword) (pa : Addr) (z : Size) : (s.setPair r v).present pa z = s.present pa z := rfl
@[simp] theorem installed_setPair (s : State) (r : Reg) (v : Dword) (lo : Nat) (z : Nat) : (s.setPair r v).installed lo z = s.installed lo z := rfl
@[simp] theorem devAt_setPair (s : State) (r : Reg) (v : Dword) (d : BitVec 7) : (s.setPair r v).devAt d = s.devAt d := rfl
@[simp] theorem isClassF_setPair (s : State) (r : Reg) (v : Dword) (k : Level) : (s.setPair r v).isClassF k = s.isClassF k := rfl

@[simp] theorem reg_setCC (s : State) (c : CC) (q : Reg) : (s.setCC c).reg q = s.reg q := rfl
@[simp] theorem mask_setCC (s : State) (c : CC) : (s.setCC c).mask = s.mask := rfl
@[simp] theorem pair_setCC (s : State) (c : CC) (q : Reg) : (s.setCC c).pair q = s.pair q := rfl
@[simp] theorem index_setCC (s : State) (c : CC) (z : BitVec 2) : (s.setCC c).index z = s.index z := rfl
@[simp] theorem cell_setCC (s : State) (c : CC) (j : BitVec 8) : (s.setCC c).cell j = s.cell j := rfl
@[simp] theorem stat_setCC (s : State) (c : CC) : (s.setCC c).stat = s.stat := rfl
@[simp] theorem mapReg_setCC (s : State) (c : CC) (j : BitVec 5) : (s.setCC c).mapReg j = s.mapReg j := rfl
@[simp] theorem protReg_setCC (s : State) (c : CC) (j : BitVec 4) : (s.setCC c).protReg j = s.protReg j := rfl
@[simp] theorem byte_setCC (s : State) (c : CC) (k : Nat) : (s.setCC c).byte k = s.byte k := rfl
@[simp] theorem peek_setCC (s : State) (c : CC) (k : Nat) (z : Size) : (s.setCC c).peek k z = s.peek k z := rfl
@[simp] theorem present_setCC (s : State) (c : CC) (pa : Addr) (z : Size) : (s.setCC c).present pa z = s.present pa z := rfl
@[simp] theorem installed_setCC (s : State) (c : CC) (lo : Nat) (z : Nat) : (s.setCC c).installed lo z = s.installed lo z := rfl
@[simp] theorem devAt_setCC (s : State) (c : CC) (d : BitVec 7) : (s.setCC c).devAt d = s.devAt d := rfl
@[simp] theorem isClassF_setCC (s : State) (c : CC) (k : Level) : (s.setCC c).isClassF k = s.isClassF k := rfl

@[simp] theorem reg_setPc (s : State) (p : HAddr) (q : Reg) : (s.setPc p).reg q = s.reg q := rfl
@[simp] theorem mask_setPc (s : State) (p : HAddr) : (s.setPc p).mask = s.mask := rfl
@[simp] theorem pair_setPc (s : State) (p : HAddr) (q : Reg) : (s.setPc p).pair q = s.pair q := rfl
@[simp] theorem index_setPc (s : State) (p : HAddr) (z : BitVec 2) : (s.setPc p).index z = s.index z := rfl
@[simp] theorem cell_setPc (s : State) (p : HAddr) (j : BitVec 8) : (s.setPc p).cell j = s.cell j := rfl
@[simp] theorem stat_setPc (s : State) (p : HAddr) : (s.setPc p).stat = s.stat := rfl
@[simp] theorem mapReg_setPc (s : State) (p : HAddr) (j : BitVec 5) : (s.setPc p).mapReg j = s.mapReg j := rfl
@[simp] theorem protReg_setPc (s : State) (p : HAddr) (j : BitVec 4) : (s.setPc p).protReg j = s.protReg j := rfl
@[simp] theorem byte_setPc (s : State) (p : HAddr) (k : Nat) : (s.setPc p).byte k = s.byte k := rfl
@[simp] theorem peek_setPc (s : State) (p : HAddr) (k : Nat) (z : Size) : (s.setPc p).peek k z = s.peek k z := rfl
@[simp] theorem present_setPc (s : State) (p : HAddr) (pa : Addr) (z : Size) : (s.setPc p).present pa z = s.present pa z := rfl
@[simp] theorem installed_setPc (s : State) (p : HAddr) (lo : Nat) (z : Nat) : (s.setPc p).installed lo z = s.installed lo z := rfl
@[simp] theorem devAt_setPc (s : State) (p : HAddr) (d : BitVec 7) : (s.setPc p).devAt d = s.devAt d := rfl
@[simp] theorem isClassF_setPc (s : State) (p : HAddr) (k : Level) : (s.setPc p).isClassF k = s.isClassF k := rfl

@[simp] theorem reg_setHist (s : State) (b : Bool) (q : Reg) : (s.setHist b).reg q = s.reg q := rfl
@[simp] theorem mask_setHist (s : State) (b : Bool) : (s.setHist b).mask = s.mask := rfl
@[simp] theorem pair_setHist (s : State) (b : Bool) (q : Reg) : (s.setHist b).pair q = s.pair q := rfl
@[simp] theorem index_setHist (s : State) (b : Bool) (z : BitVec 2) : (s.setHist b).index z = s.index z := rfl
@[simp] theorem cell_setHist (s : State) (b : Bool) (j : BitVec 8) : (s.setHist b).cell j = s.cell j := rfl
@[simp] theorem stat_setHist (s : State) (b : Bool) : (s.setHist b).stat = s.stat := rfl
@[simp] theorem mapReg_setHist (s : State) (b : Bool) (j : BitVec 5) : (s.setHist b).mapReg j = s.mapReg j := rfl
@[simp] theorem protReg_setHist (s : State) (b : Bool) (j : BitVec 4) : (s.setHist b).protReg j = s.protReg j := rfl
@[simp] theorem byte_setHist (s : State) (b : Bool) (k : Nat) : (s.setHist b).byte k = s.byte k := rfl
@[simp] theorem peek_setHist (s : State) (b : Bool) (k : Nat) (z : Size) : (s.setHist b).peek k z = s.peek k z := rfl
@[simp] theorem present_setHist (s : State) (b : Bool) (pa : Addr) (z : Size) : (s.setHist b).present pa z = s.present pa z := rfl
@[simp] theorem installed_setHist (s : State) (b : Bool) (lo : Nat) (z : Nat) : (s.setHist b).installed lo z = s.installed lo z := rfl
@[simp] theorem devAt_setHist (s : State) (b : Bool) (d : BitVec 7) : (s.setHist b).devAt d = s.devAt d := rfl
@[simp] theorem isClassF_setHist (s : State) (b : Bool) (k : Level) : (s.setHist b).isClassF k = s.isClassF k := rfl

@[simp] theorem reg_setRun (s : State) (x : Run) (q : Reg) : (s.setRun x).reg q = s.reg q := rfl
@[simp] theorem mask_setRun (s : State) (x : Run) : (s.setRun x).mask = s.mask := rfl
@[simp] theorem pair_setRun (s : State) (x : Run) (q : Reg) : (s.setRun x).pair q = s.pair q := rfl
@[simp] theorem index_setRun (s : State) (x : Run) (z : BitVec 2) : (s.setRun x).index z = s.index z := rfl
@[simp] theorem cell_setRun (s : State) (x : Run) (j : BitVec 8) : (s.setRun x).cell j = s.cell j := rfl
@[simp] theorem stat_setRun (s : State) (x : Run) : (s.setRun x).stat = s.stat := rfl
@[simp] theorem mapReg_setRun (s : State) (x : Run) (j : BitVec 5) : (s.setRun x).mapReg j = s.mapReg j := rfl
@[simp] theorem protReg_setRun (s : State) (x : Run) (j : BitVec 4) : (s.setRun x).protReg j = s.protReg j := rfl
@[simp] theorem byte_setRun (s : State) (x : Run) (k : Nat) : (s.setRun x).byte k = s.byte k := rfl
@[simp] theorem peek_setRun (s : State) (x : Run) (k : Nat) (z : Size) : (s.setRun x).peek k z = s.peek k z := rfl
@[simp] theorem present_setRun (s : State) (x : Run) (pa : Addr) (z : Size) : (s.setRun x).present pa z = s.present pa z := rfl
@[simp] theorem installed_setRun (s : State) (x : Run) (lo : Nat) (z : Nat) : (s.setRun x).installed lo z = s.installed lo z := rfl
@[simp] theorem devAt_setRun (s : State) (x : Run) (d : BitVec 7) : (s.setRun x).devAt d = s.devAt d := rfl
@[simp] theorem isClassF_setRun (s : State) (x : Run) (k : Level) : (s.setRun x).isClassF k = s.isClassF k := rfl

@[simp] theorem reg_setCell (s : State) (i : BitVec 8) (v : Word) (q : Reg) : (s.setCell i v).reg q = s.reg q := rfl
@[simp] theorem mask_setCell (s : State) (i : BitVec 8) (v : Word) : (s.setCell i v).mask = s.mask := rfl
@[simp] theorem pair_setCell (s : State) (i : BitVec 8) (v : Word) (q : Reg) : (s.setCell i v).pair q = s.pair q := rfl
@[simp] theorem index_setCell (s : State) (i : BitVec 8) (v : Word) (z : BitVec 2) : (s.setCell i v).index z = s.index z := rfl
@[simp] theorem mapReg_setCell (s : State) (i : BitVec 8) (v : Word) (j : BitVec 5) : (s.setCell i v).mapReg j = s.mapReg j := rfl
@[simp] theorem protReg_setCell (s : State) (i : BitVec 8) (v : Word) (j : BitVec 4) : (s.setCell i v).protReg j = s.protReg j := rfl
@[simp] theorem byte_setCell (s : State) (i : BitVec 8) (v : Word) (k : Nat) : (s.setCell i v).byte k = s.byte k := rfl
@[simp] theorem peek_setCell (s : State) (i : BitVec 8) (v : Word) (k : Nat) (z : Size) : (s.setCell i v).peek k z = s.peek k z := rfl
@[simp] theorem present_setCell (s : State) (i : BitVec 8) (v : Word) (pa : Addr) (z : Size) : (s.setCell i v).present pa z = s.present pa z := rfl
@[simp] theorem installed_setCell (s : State) (i : BitVec 8) (v : Word) (lo : Nat) (z : Nat) : (s.setCell i v).installed lo z = s.installed lo z := rfl
@[simp] theorem devAt_setCell (s : State) (i : BitVec 8) (v : Word) (d : BitVec 7) : (s.setCell i v).devAt d = s.devAt d := rfl
@[simp] theorem isClassF_setCell (s : State) (i : BitVec 8) (v : Word) (k : Level) : (s.setCell i v).isClassF k = s.isClassF k := rfl

@[simp] theorem reg_setStat (s : State) (v : Word) (q : Reg) : (s.setStat v).reg q = s.reg q := rfl
@[simp] theorem mask_setStat (s : State) (v : Word) : (s.setStat v).mask = s.mask := rfl
@[simp] theorem pair_setStat (s : State) (v : Word) (q : Reg) : (s.setStat v).pair q = s.pair q := rfl
@[simp] theorem index_setStat (s : State) (v : Word) (z : BitVec 2) : (s.setStat v).index z = s.index z := rfl
@[simp] theorem mapReg_setStat (s : State) (v : Word) (j : BitVec 5) : (s.setStat v).mapReg j = s.mapReg j := rfl
@[simp] theorem protReg_setStat (s : State) (v : Word) (j : BitVec 4) : (s.setStat v).protReg j = s.protReg j := rfl
@[simp] theorem byte_setStat (s : State) (v : Word) (k : Nat) : (s.setStat v).byte k = s.byte k := rfl
@[simp] theorem peek_setStat (s : State) (v : Word) (k : Nat) (z : Size) : (s.setStat v).peek k z = s.peek k z := rfl
@[simp] theorem present_setStat (s : State) (v : Word) (pa : Addr) (z : Size) : (s.setStat v).present pa z = s.present pa z := rfl
@[simp] theorem installed_setStat (s : State) (v : Word) (lo : Nat) (z : Nat) : (s.setStat v).installed lo z = s.installed lo z := rfl
@[simp] theorem devAt_setStat (s : State) (v : Word) (d : BitVec 7) : (s.setStat v).devAt d = s.devAt d := rfl
@[simp] theorem isClassF_setStat (s : State) (v : Word) (k : Level) : (s.setStat v).isClassF k = s.isClassF k := rfl

@[simp] theorem reg_setStatBit (s : State) (n : Nat) (b : Bool) (q : Reg) : (s.setStatBit n b).reg q = s.reg q := rfl
@[simp] theorem mask_setStatBit (s : State) (n : Nat) (b : Bool) : (s.setStatBit n b).mask = s.mask := rfl
@[simp] theorem pair_setStatBit (s : State) (n : Nat) (b : Bool) (q : Reg) : (s.setStatBit n b).pair q = s.pair q := rfl
@[simp] theorem index_setStatBit (s : State) (n : Nat) (b : Bool) (z : BitVec 2) : (s.setStatBit n b).index z = s.index z := rfl
@[simp] theorem mapReg_setStatBit (s : State) (n : Nat) (b : Bool) (j : BitVec 5) : (s.setStatBit n b).mapReg j = s.mapReg j := rfl
@[simp] theorem protReg_setStatBit (s : State) (n : Nat) (b : Bool) (j : BitVec 4) : (s.setStatBit n b).protReg j = s.protReg j := rfl
@[simp] theorem byte_setStatBit (s : State) (n : Nat) (b : Bool) (k : Nat) : (s.setStatBit n b).byte k = s.byte k := rfl
@[simp] theorem peek_setStatBit (s : State) (n : Nat) (b : Bool) (k : Nat) (z : Size) : (s.setStatBit n b).peek k z = s.peek k z := rfl
@[simp] theorem present_setStatBit (s : State) (n : Nat) (b : Bool) (pa : Addr) (z : Size) : (s.setStatBit n b).present pa z = s.present pa z := rfl
@[simp] theorem installed_setStatBit (s : State) (n : Nat) (b : Bool) (lo : Nat) (z : Nat) : (s.setStatBit n b).installed lo z = s.installed lo z := rfl
@[simp] theorem devAt_setStatBit (s : State) (n : Nat) (b : Bool) (d : BitVec 7) : (s.setStatBit n b).devAt d = s.devAt d := rfl
@[simp] theorem isClassF_setStatBit (s : State) (n : Nat) (b : Bool) (k : Level) : (s.setStatBit n b).isClassF k = s.isClassF k := rfl

@[simp] theorem reg_setMapReg (s : State) (i : BitVec 5) (v : Half) (q : Reg) : (s.setMapReg i v).reg q = s.reg q := rfl
@[simp] theorem mask_setMapReg (s : State) (i : BitVec 5) (v : Half) : (s.setMapReg i v).mask = s.mask := rfl
@[simp] theorem pair_setMapReg (s : State) (i : BitVec 5) (v : Half) (q : Reg) : (s.setMapReg i v).pair q = s.pair q := rfl
@[simp] theorem index_setMapReg (s : State) (i : BitVec 5) (v : Half) (z : BitVec 2) : (s.setMapReg i v).index z = s.index z := rfl
@[simp] theorem cell_setMapReg (s : State) (i : BitVec 5) (v : Half) (j : BitVec 8) : (s.setMapReg i v).cell j = s.cell j := rfl
@[simp] theorem stat_setMapReg (s : State) (i : BitVec 5) (v : Half) : (s.setMapReg i v).stat = s.stat := rfl
@[simp] theorem protReg_setMapReg (s : State) (i : BitVec 5) (v : Half) (j : BitVec 4) : (s.setMapReg i v).protReg j = s.protReg j := rfl
@[simp] theorem byte_setMapReg (s : State) (i : BitVec 5) (v : Half) (k : Nat) : (s.setMapReg i v).byte k = s.byte k := rfl
@[simp] theorem peek_setMapReg (s : State) (i : BitVec 5) (v : Half) (k : Nat) (z : Size) : (s.setMapReg i v).peek k z = s.peek k z := rfl
@[simp] theorem present_setMapReg (s : State) (i : BitVec 5) (v : Half) (pa : Addr) (z : Size) : (s.setMapReg i v).present pa z = s.present pa z := rfl
@[simp] theorem installed_setMapReg (s : State) (i : BitVec 5) (v : Half) (lo : Nat) (z : Nat) : (s.setMapReg i v).installed lo z = s.installed lo z := rfl
@[simp] theorem devAt_setMapReg (s : State) (i : BitVec 5) (v : Half) (d : BitVec 7) : (s.setMapReg i v).devAt d = s.devAt d := rfl
@[simp] theorem isClassF_setMapReg (s : State) (i : BitVec 5) (v : Half) (k : Level) : (s.setMapReg i v).isClassF k = s.isClassF k := rfl

@[simp] theorem reg_setProtReg (s : State) (i : BitVec 4) (v : Half) (q : Reg) : (s.setProtReg i v).reg q = s.reg q := rfl
@[simp] theorem mask_setProtReg (s : State) (i : BitVec 4) (v : Half) : (s.setProtReg i v).mask = s.mask := rfl
@[simp] theorem pair_setProtReg (s : State) (i : BitVec 4) (v : Half) (q : Reg) : (s.setProtReg i v).pair q = s.pair q := rfl
@[simp] theorem index_setProtReg (s : State) (i : BitVec 4) (v : Half) (z : BitVec 2) : (s.setProtReg i v).index z = s.index z := rfl
@[simp] theorem cell_setProtReg (s : State) (i : BitVec 4) (v : Half) (j : BitVec 8) : (s.setProtReg i v).cell j = s.cell j := rfl
@[simp] theorem stat_setProtReg (s : State) (i : BitVec 4) (v : Half) : (s.setProtReg i v).stat = s.stat := rfl
@[simp] theorem mapReg_setProtReg (s : State) (i : BitVec 4) (v : Half) (j : BitVec 5) : (s.setProtReg i v).mapReg j = s.mapReg j := rfl
@[simp] theorem byte_setProtReg (s : State) (i : BitVec 4) (v : Half) (k : Nat) : (s.setProtReg i v).byte k = s.byte k := rfl
@[simp] theorem peek_setProtReg (s : State) (i : BitVec 4) (v : Half) (k : Nat) (z : Size) : (s.setProtReg i v).peek k z = s.peek k z := rfl
@[simp] theorem present_setProtReg (s : State) (i : BitVec 4) (v : Half) (pa : Addr) (z : Size) : (s.setProtReg i v).present pa z = s.present pa z := rfl
@[simp] theorem installed_setProtReg (s : State) (i : BitVec 4) (v : Half) (lo : Nat) (z : Nat) : (s.setProtReg i v).installed lo z = s.installed lo z := rfl
@[simp] theorem devAt_setProtReg (s : State) (i : BitVec 4) (v : Half) (d : BitVec 7) : (s.setProtReg i v).devAt d = s.devAt d := rfl
@[simp] theorem isClassF_setProtReg (s : State) (i : BitVec 4) (v : Half) (k : Level) : (s.setProtReg i v).isClassF k = s.isClassF k := rfl

@[simp] theorem reg_setEnabled (s : State) (l : Level) (b : Bool) (q : Reg) : (s.setEnabled l b).reg q = s.reg q := rfl
@[simp] theorem mask_setEnabled (s : State) (l : Level) (b : Bool) : (s.setEnabled l b).mask = s.mask := rfl
@[simp] theorem pair_setEnabled (s : State) (l : Level) (b : Bool) (q : Reg) : (s.setEnabled l b).pair q = s.pair q := rfl
@[simp] theorem index_setEnabled (s : State) (l : Level) (b : Bool) (z : BitVec 2) : (s.setEnabled l b).index z = s.index z := rfl
@[simp] theorem cell_setEnabled (s : State) (l : Level) (b : Bool) (j : BitVec 8) : (s.setEnabled l b).cell j = s.cell j := rfl
@[simp] theorem stat_setEnabled (s : State) (l : Level) (b : Bool) : (s.setEnabled l b).stat = s.stat := rfl
@[simp] theorem mapReg_setEnabled (s : State) (l : Level) (b : Bool) (j : BitVec 5) : (s.setEnabled l b).mapReg j = s.mapReg j := rfl
@[simp] theorem protReg_setEnabled (s : State) (l : Level) (b : Bool) (j : BitVec 4) : (s.setEnabled l b).protReg j = s.protReg j := rfl
@[simp] theorem byte_setEnabled (s : State) (l : Level) (b : Bool) (k : Nat) : (s.setEnabled l b).byte k = s.byte k := rfl
@[simp] theorem peek_setEnabled (s : State) (l : Level) (b : Bool) (k : Nat) (z : Size) : (s.setEnabled l b).peek k z = s.peek k z := rfl
@[simp] theorem present_setEnabled (s : State) (l : Level) (b : Bool) (pa : Addr) (z : Size) : (s.setEnabled l b).present pa z = s.present pa z := rfl
@[simp] theorem installed_setEnabled (s : State) (l : Level) (b : Bool) (lo : Nat) (z : Nat) : (s.setEnabled l b).installed lo z = s.installed lo z := rfl
@[simp] theorem devAt_setEnabled (s : State) (l : Level) (b : Bool) (d : BitVec 7) : (s.setEnabled l b).devAt d = s.devAt d := rfl
@[simp] theorem isClassF_setEnabled (s : State) (l : Level) (b : Bool) (k : Level) : (s.setEnabled l b).isClassF k = s.isClassF k := rfl

@[simp] theorem reg_setRequest (s : State) (l : Level) (b : Bool) (q : Reg) : (s.setRequest l b).reg q = s.reg q := rfl
@[simp] theorem mask_setRequest (s : State) (l : Level) (b : Bool) : (s.setRequest l b).mask = s.mask := rfl
@[simp] theorem pair_setRequest (s : State) (l : Level) (b : Bool) (q : Reg) : (s.setRequest l b).pair q = s.pair q := rfl
@[simp] theorem index_setRequest (s : State) (l : Level) (b : Bool) (z : BitVec 2) : (s.setRequest l b).index z = s.index z := rfl
@[simp] theorem cell_setRequest (s : State) (l : Level) (b : Bool) (j : BitVec 8) : (s.setRequest l b).cell j = s.cell j := rfl
@[simp] theorem stat_setRequest (s : State) (l : Level) (b : Bool) : (s.setRequest l b).stat = s.stat := rfl
@[simp] theorem mapReg_setRequest (s : State) (l : Level) (b : Bool) (j : BitVec 5) : (s.setRequest l b).mapReg j = s.mapReg j := rfl
@[simp] theorem protReg_setRequest (s : State) (l : Level) (b : Bool) (j : BitVec 4) : (s.setRequest l b).protReg j = s.protReg j := rfl
@[simp] theorem byte_setRequest (s : State) (l : Level) (b : Bool) (k : Nat) : (s.setRequest l b).byte k = s.byte k := rfl
@[simp] theorem peek_setRequest (s : State) (l : Level) (b : Bool) (k : Nat) (z : Size) : (s.setRequest l b).peek k z = s.peek k z := rfl
@[simp] theorem present_setRequest (s : State) (l : Level) (b : Bool) (pa : Addr) (z : Size) : (s.setRequest l b).present pa z = s.present pa z := rfl
@[simp] theorem installed_setRequest (s : State) (l : Level) (b : Bool) (lo : Nat) (z : Nat) : (s.setRequest l b).installed lo z = s.installed lo z := rfl
@[simp] theorem devAt_setRequest (s : State) (l : Level) (b : Bool) (d : BitVec 7) : (s.setRequest l b).devAt d = s.devAt d := rfl
@[simp] theorem isClassF_setRequest (s : State) (l : Level) (b : Bool) (k : Level) : (s.setRequest l b).isClassF k = s.isClassF k := rfl

@[simp] theorem reg_setActive (s : State) (l : Level) (b : Bool) (q : Reg) : (s.setActive l b).reg q = s.reg q := rfl
@[simp] theorem mask_setActive (s : State) (l : Level) (b : Bool) : (s.setActive l b).mask = s.mask := rfl
@[simp] theorem pair_setActive (s : State) (l : Level) (b : Bool) (q : Reg) : (s.setActive l b).pair q = s.pair q := rfl
@[simp] theorem index_setActive (s : State) (l : Level) (b : Bool) (z : BitVec 2) : (s.setActive l b).index z = s.index z := rfl
@[simp] theorem cell_setActive (s : State) (l : Level) (b : Bool) (j : BitVec 8) : (s.setActive l b).cell j = s.cell j := rfl
@[simp] theorem stat_setActive (s : State) (l : Level) (b : Bool) : (s.setActive l b).stat = s.stat := rfl
@[simp] theorem mapReg_setActive (s : State) (l : Level) (b : Bool) (j : BitVec 5) : (s.setActive l b).mapReg j = s.mapReg j := rfl
@[simp] theorem protReg_setActive (s : State) (l : Level) (b : Bool) (j : BitVec 4) : (s.setActive l b).protReg j = s.protReg j := rfl
@[simp] theorem byte_setActive (s : State) (l : Level) (b : Bool) (k : Nat) : (s.setActive l b).byte k = s.byte k := rfl
@[simp] theorem peek_setActive (s : State) (l : Level) (b : Bool) (k : Nat) (z : Size) : (s.setActive l b).peek k z = s.peek k z := rfl
@[simp] theorem present_setActive (s : State) (l : Level) (b : Bool) (pa : Addr) (z : Size) : (s.setActive l b).present pa z = s.present pa z := rfl
@[simp] theorem installed_setActive (s : State) (l : Level) (b : Bool) (lo : Nat) (z : Nat) : (s.setActive l b).installed lo z = s.installed lo z := rfl
@[simp] theorem devAt_setActive (s : State) (l : Level) (b : Bool) (d : BitVec 7) : (s.setActive l b).devAt d = s.devAt d := rfl
@[simp] theorem isClassF_setActive (s : State) (l : Level) (b : Bool) (k : Level) : (s.setActive l b).isClassF k = s.isClassF k := rfl

@[simp] theorem reg_send (s : State) (m : BusMessage) (q : Reg) : (s.send m).reg q = s.reg q := rfl
@[simp] theorem mask_send (s : State) (m : BusMessage) : (s.send m).mask = s.mask := rfl
@[simp] theorem pair_send (s : State) (m : BusMessage) (q : Reg) : (s.send m).pair q = s.pair q := rfl
@[simp] theorem index_send (s : State) (m : BusMessage) (z : BitVec 2) : (s.send m).index z = s.index z := rfl
@[simp] theorem cell_send (s : State) (m : BusMessage) (j : BitVec 8) : (s.send m).cell j = s.cell j := rfl
@[simp] theorem stat_send (s : State) (m : BusMessage) : (s.send m).stat = s.stat := rfl
@[simp] theorem mapReg_send (s : State) (m : BusMessage) (j : BitVec 5) : (s.send m).mapReg j = s.mapReg j := rfl
@[simp] theorem protReg_send (s : State) (m : BusMessage) (j : BitVec 4) : (s.send m).protReg j = s.protReg j := rfl
@[simp] theorem byte_send (s : State) (m : BusMessage) (k : Nat) : (s.send m).byte k = s.byte k := rfl
@[simp] theorem peek_send (s : State) (m : BusMessage) (k : Nat) (z : Size) : (s.send m).peek k z = s.peek k z := rfl
@[simp] theorem present_send (s : State) (m : BusMessage) (pa : Addr) (z : Size) : (s.send m).present pa z = s.present pa z := rfl
@[simp] theorem installed_send (s : State) (m : BusMessage) (lo : Nat) (z : Nat) : (s.send m).installed lo z = s.installed lo z := rfl
@[simp] theorem devAt_send (s : State) (m : BusMessage) (d : BitVec 7) : (s.send m).devAt d = s.devAt d := rfl
@[simp] theorem isClassF_send (s : State) (m : BusMessage) (k : Level) : (s.send m).isClassF k = s.isClassF k := rfl

@[simp] theorem reg_setBlocked (s : State) (b : Bool) (q : Reg) : (s.setBlocked b).reg q = s.reg q := rfl
@[simp] theorem mask_setBlocked (s : State) (b : Bool) : (s.setBlocked b).mask = s.mask := rfl
@[simp] theorem pair_setBlocked (s : State) (b : Bool) (q : Reg) : (s.setBlocked b).pair q = s.pair q := rfl
@[simp] theorem index_setBlocked (s : State) (b : Bool) (z : BitVec 2) : (s.setBlocked b).index z = s.index z := rfl
@[simp] theorem mapReg_setBlocked (s : State) (b : Bool) (j : BitVec 5) : (s.setBlocked b).mapReg j = s.mapReg j := rfl
@[simp] theorem protReg_setBlocked (s : State) (b : Bool) (j : BitVec 4) : (s.setBlocked b).protReg j = s.protReg j := rfl
@[simp] theorem byte_setBlocked (s : State) (b : Bool) (k : Nat) : (s.setBlocked b).byte k = s.byte k := rfl
@[simp] theorem peek_setBlocked (s : State) (b : Bool) (k : Nat) (z : Size) : (s.setBlocked b).peek k z = s.peek k z := rfl
@[simp] theorem present_setBlocked (s : State) (b : Bool) (pa : Addr) (z : Size) : (s.setBlocked b).present pa z = s.present pa z := rfl
@[simp] theorem installed_setBlocked (s : State) (b : Bool) (lo : Nat) (z : Nat) : (s.setBlocked b).installed lo z = s.installed lo z := rfl
@[simp] theorem devAt_setBlocked (s : State) (b : Bool) (d : BitVec 7) : (s.setBlocked b).devAt d = s.devAt d := rfl
@[simp] theorem isClassF_setBlocked (s : State) (b : Bool) (k : Level) : (s.setBlocked b).isClassF k = s.isClassF k := rfl

@[simp] theorem reg_setAexp (s : State) (b : Bool) (q : Reg) : (s.setAexp b).reg q = s.reg q := rfl
@[simp] theorem mask_setAexp (s : State) (b : Bool) : (s.setAexp b).mask = s.mask := rfl
@[simp] theorem pair_setAexp (s : State) (b : Bool) (q : Reg) : (s.setAexp b).pair q = s.pair q := rfl
@[simp] theorem index_setAexp (s : State) (b : Bool) (z : BitVec 2) : (s.setAexp b).index z = s.index z := rfl
@[simp] theorem mapReg_setAexp (s : State) (b : Bool) (j : BitVec 5) : (s.setAexp b).mapReg j = s.mapReg j := rfl
@[simp] theorem protReg_setAexp (s : State) (b : Bool) (j : BitVec 4) : (s.setAexp b).protReg j = s.protReg j := rfl
@[simp] theorem byte_setAexp (s : State) (b : Bool) (k : Nat) : (s.setAexp b).byte k = s.byte k := rfl
@[simp] theorem peek_setAexp (s : State) (b : Bool) (k : Nat) (z : Size) : (s.setAexp b).peek k z = s.peek k z := rfl
@[simp] theorem present_setAexp (s : State) (b : Bool) (pa : Addr) (z : Size) : (s.setAexp b).present pa z = s.present pa z := rfl
@[simp] theorem installed_setAexp (s : State) (b : Bool) (lo : Nat) (z : Nat) : (s.setAexp b).installed lo z = s.installed lo z := rfl
@[simp] theorem devAt_setAexp (s : State) (b : Bool) (d : BitVec 7) : (s.setAexp b).devAt d = s.devAt d := rfl
@[simp] theorem isClassF_setAexp (s : State) (b : Bool) (k : Level) : (s.setAexp b).isClassF k = s.isClassF k := rfl

@[simp] theorem reg_setByte (s : State) (a : Nat) (b : Byte) (q : Reg) : (s.setByte a b).reg q = s.reg q := rfl
@[simp] theorem mask_setByte (s : State) (a : Nat) (b : Byte) : (s.setByte a b).mask = s.mask := rfl
@[simp] theorem pair_setByte (s : State) (a : Nat) (b : Byte) (q : Reg) : (s.setByte a b).pair q = s.pair q := rfl
@[simp] theorem index_setByte (s : State) (a : Nat) (b : Byte) (z : BitVec 2) : (s.setByte a b).index z = s.index z := rfl
@[simp] theorem cell_setByte (s : State) (a : Nat) (b : Byte) (j : BitVec 8) : (s.setByte a b).cell j = s.cell j := rfl
@[simp] theorem stat_setByte (s : State) (a : Nat) (b : Byte) : (s.setByte a b).stat = s.stat := rfl
@[simp] theorem mapReg_setByte (s : State) (a : Nat) (b : Byte) (j : BitVec 5) : (s.setByte a b).mapReg j = s.mapReg j := rfl
@[simp] theorem protReg_setByte (s : State) (a : Nat) (b : Byte) (j : BitVec 4) : (s.setByte a b).protReg j = s.protReg j := rfl
@[simp] theorem present_setByte (s : State) (a : Nat) (b : Byte) (pa : Addr) (z : Size) : (s.setByte a b).present pa z = s.present pa z := rfl
@[simp] theorem installed_setByte (s : State) (a : Nat) (b : Byte) (lo : Nat) (z : Nat) : (s.setByte a b).installed lo z = s.installed lo z := rfl
@[simp] theorem devAt_setByte (s : State) (a : Nat) (b : Byte) (d : BitVec 7) : (s.setByte a b).devAt d = s.devAt d := rfl
@[simp] theorem isClassF_setByte (s : State) (a : Nat) (b : Byte) (k : Level) : (s.setByte a b).isClassF k = s.isClassF k := rfl

@[simp] theorem reg_lightParity (s : State) (q : Reg) : (s.lightParity).reg q = s.reg q := rfl
@[simp] theorem mask_lightParity (s : State) : (s.lightParity).mask = s.mask := rfl
@[simp] theorem pair_lightParity (s : State) (q : Reg) : (s.lightParity).pair q = s.pair q := rfl
@[simp] theorem index_lightParity (s : State) (z : BitVec 2) : (s.lightParity).index z = s.index z := rfl
@[simp] theorem cell_lightParity (s : State) (j : BitVec 8) : (s.lightParity).cell j = s.cell j := rfl
@[simp] theorem stat_lightParity (s : State) : (s.lightParity).stat = s.stat := rfl
@[simp] theorem mapReg_lightParity (s : State) (j : BitVec 5) : (s.lightParity).mapReg j = s.mapReg j := rfl
@[simp] theorem protReg_lightParity (s : State) (j : BitVec 4) : (s.lightParity).protReg j = s.protReg j := rfl
@[simp] theorem byte_lightParity (s : State) (k : Nat) : (s.lightParity).byte k = s.byte k := rfl
@[simp] theorem peek_lightParity (s : State) (k : Nat) (z : Size) : (s.lightParity).peek k z = s.peek k z := rfl
@[simp] theorem present_lightParity (s : State) (pa : Addr) (z : Size) : (s.lightParity).present pa z = s.present pa z := rfl
@[simp] theorem installed_lightParity (s : State) (lo : Nat) (z : Nat) : (s.lightParity).installed lo z = s.installed lo z := rfl
@[simp] theorem devAt_lightParity (s : State) (d : BitVec 7) : (s.lightParity).devAt d = s.devAt d := rfl
@[simp] theorem isClassF_lightParity (s : State) (k : Level) : (s.lightParity).isClassF k = s.isClassF k := rfl

@[simp] theorem reg_askHalt (s : State) (b : Bool) (q : Reg) : (s.askHalt b).reg q = s.reg q := rfl
@[simp] theorem mask_askHalt (s : State) (b : Bool) : (s.askHalt b).mask = s.mask := rfl
@[simp] theorem pair_askHalt (s : State) (b : Bool) (q : Reg) : (s.askHalt b).pair q = s.pair q := rfl
@[simp] theorem index_askHalt (s : State) (b : Bool) (z : BitVec 2) : (s.askHalt b).index z = s.index z := rfl
@[simp] theorem cell_askHalt (s : State) (b : Bool) (j : BitVec 8) : (s.askHalt b).cell j = s.cell j := rfl
@[simp] theorem stat_askHalt (s : State) (b : Bool) : (s.askHalt b).stat = s.stat := rfl
@[simp] theorem mapReg_askHalt (s : State) (b : Bool) (j : BitVec 5) : (s.askHalt b).mapReg j = s.mapReg j := rfl
@[simp] theorem protReg_askHalt (s : State) (b : Bool) (j : BitVec 4) : (s.askHalt b).protReg j = s.protReg j := rfl
@[simp] theorem byte_askHalt (s : State) (b : Bool) (k : Nat) : (s.askHalt b).byte k = s.byte k := rfl
@[simp] theorem peek_askHalt (s : State) (b : Bool) (k : Nat) (z : Size) : (s.askHalt b).peek k z = s.peek k z := rfl
@[simp] theorem present_askHalt (s : State) (b : Bool) (pa : Addr) (z : Size) : (s.askHalt b).present pa z = s.present pa z := rfl
@[simp] theorem installed_askHalt (s : State) (b : Bool) (lo : Nat) (z : Nat) : (s.askHalt b).installed lo z = s.installed lo z := rfl
@[simp] theorem devAt_askHalt (s : State) (b : Bool) (d : BitVec 7) : (s.askHalt b).devAt d = s.devAt d := rfl
@[simp] theorem isClassF_askHalt (s : State) (b : Bool) (k : Level) : (s.askHalt b).isClassF k = s.isClassF k := rfl

@[simp] theorem reg_start (s : State) (len : Len) (q : Reg) : (s.start len).reg q = s.reg q := rfl
@[simp] theorem mask_start (s : State) (len : Len) : (s.start len).mask = s.mask := rfl
@[simp] theorem pair_start (s : State) (len : Len) (q : Reg) : (s.start len).pair q = s.pair q := rfl
@[simp] theorem index_start (s : State) (len : Len) (z : BitVec 2) : (s.start len).index z = s.index z := rfl
@[simp] theorem cell_start (s : State) (len : Len) (j : BitVec 8) : (s.start len).cell j = s.cell j := rfl
@[simp] theorem stat_start (s : State) (len : Len) : (s.start len).stat = s.stat := rfl
@[simp] theorem mapReg_start (s : State) (len : Len) (j : BitVec 5) : (s.start len).mapReg j = s.mapReg j := rfl
@[simp] theorem protReg_start (s : State) (len : Len) (j : BitVec 4) : (s.start len).protReg j = s.protReg j := rfl
@[simp] theorem byte_start (s : State) (len : Len) (k : Nat) : (s.start len).byte k = s.byte k := rfl
@[simp] theorem peek_start (s : State) (len : Len) (k : Nat) (z : Size) : (s.start len).peek k z = s.peek k z := rfl
@[simp] theorem present_start (s : State) (len : Len) (pa : Addr) (z : Size) : (s.start len).present pa z = s.present pa z := rfl
@[simp] theorem installed_start (s : State) (len : Len) (lo : Nat) (z : Nat) : (s.start len).installed lo z = s.installed lo z := rfl
@[simp] theorem devAt_start (s : State) (len : Len) (d : BitVec 7) : (s.start len).devAt d = s.devAt d := rfl
@[simp] theorem isClassF_start (s : State) (len : Len) (k : Level) : (s.start len).isClassF k = s.isClassF k := rfl

@[simp] theorem reg_showHalt (s : State) (q : Reg) : (s.showHalt).reg q = s.reg q := rfl
@[simp] theorem mask_showHalt (s : State) : (s.showHalt).mask = s.mask := rfl
@[simp] theorem pair_showHalt (s : State) (q : Reg) : (s.showHalt).pair q = s.pair q := rfl
@[simp] theorem index_showHalt (s : State) (z : BitVec 2) : (s.showHalt).index z = s.index z := rfl
@[simp] theorem cell_showHalt (s : State) (j : BitVec 8) : (s.showHalt).cell j = s.cell j := rfl
@[simp] theorem stat_showHalt (s : State) : (s.showHalt).stat = s.stat := rfl
@[simp] theorem mapReg_showHalt (s : State) (j : BitVec 5) : (s.showHalt).mapReg j = s.mapReg j := rfl
@[simp] theorem protReg_showHalt (s : State) (j : BitVec 4) : (s.showHalt).protReg j = s.protReg j := rfl
@[simp] theorem byte_showHalt (s : State) (k : Nat) : (s.showHalt).byte k = s.byte k := rfl
@[simp] theorem peek_showHalt (s : State) (k : Nat) (z : Size) : (s.showHalt).peek k z = s.peek k z := rfl
@[simp] theorem present_showHalt (s : State) (pa : Addr) (z : Size) : (s.showHalt).present pa z = s.present pa z := rfl
@[simp] theorem installed_showHalt (s : State) (lo : Nat) (z : Nat) : (s.showHalt).installed lo z = s.installed lo z := rfl
@[simp] theorem devAt_showHalt (s : State) (d : BitVec 7) : (s.showHalt).devAt d = s.devAt d := rfl
@[simp] theorem isClassF_showHalt (s : State) (k : Level) : (s.showHalt).isClassF k = s.isClassF k := rfl

@[simp] theorem reg_setGoing (s : State) (h : HaltReq) (q : Reg) : (s.setGoing h).reg q = s.reg q := rfl
@[simp] theorem mask_setGoing (s : State) (h : HaltReq) : (s.setGoing h).mask = s.mask := rfl
@[simp] theorem pair_setGoing (s : State) (h : HaltReq) (q : Reg) : (s.setGoing h).pair q = s.pair q := rfl
@[simp] theorem index_setGoing (s : State) (h : HaltReq) (z : BitVec 2) : (s.setGoing h).index z = s.index z := rfl
@[simp] theorem cell_setGoing (s : State) (h : HaltReq) (j : BitVec 8) : (s.setGoing h).cell j = s.cell j := rfl
@[simp] theorem stat_setGoing (s : State) (h : HaltReq) : (s.setGoing h).stat = s.stat := rfl
@[simp] theorem mapReg_setGoing (s : State) (h : HaltReq) (j : BitVec 5) : (s.setGoing h).mapReg j = s.mapReg j := rfl
@[simp] theorem protReg_setGoing (s : State) (h : HaltReq) (j : BitVec 4) : (s.setGoing h).protReg j = s.protReg j := rfl
@[simp] theorem byte_setGoing (s : State) (h : HaltReq) (k : Nat) : (s.setGoing h).byte k = s.byte k := rfl
@[simp] theorem peek_setGoing (s : State) (h : HaltReq) (k : Nat) (z : Size) : (s.setGoing h).peek k z = s.peek k z := rfl
@[simp] theorem present_setGoing (s : State) (h : HaltReq) (pa : Addr) (z : Size) : (s.setGoing h).present pa z = s.present pa z := rfl
@[simp] theorem installed_setGoing (s : State) (h : HaltReq) (lo : Nat) (z : Nat) : (s.setGoing h).installed lo z = s.installed lo z := rfl
@[simp] theorem devAt_setGoing (s : State) (h : HaltReq) (d : BitVec 7) : (s.setGoing h).devAt d = s.devAt d := rfl
@[simp] theorem isClassF_setGoing (s : State) (h : HaltReq) (k : Level) : (s.setGoing h).isClassF k = s.isClassF k := rfl

@[simp] theorem reg_setWcs (s : State) (a : Nat) (v : Dword) (q : Reg) : (s.setWcs a v).reg q = s.reg q := rfl
@[simp] theorem mask_setWcs (s : State) (a : Nat) (v : Dword) : (s.setWcs a v).mask = s.mask := rfl
@[simp] theorem pair_setWcs (s : State) (a : Nat) (v : Dword) (q : Reg) : (s.setWcs a v).pair q = s.pair q := rfl
@[simp] theorem index_setWcs (s : State) (a : Nat) (v : Dword) (z : BitVec 2) : (s.setWcs a v).index z = s.index z := rfl
@[simp] theorem cell_setWcs (s : State) (a : Nat) (v : Dword) (j : BitVec 8) : (s.setWcs a v).cell j = s.cell j := rfl
@[simp] theorem stat_setWcs (s : State) (a : Nat) (v : Dword) : (s.setWcs a v).stat = s.stat := rfl
@[simp] theorem mapReg_setWcs (s : State) (a : Nat) (v : Dword) (j : BitVec 5) : (s.setWcs a v).mapReg j = s.mapReg j := rfl
@[simp] theorem protReg_setWcs (s : State) (a : Nat) (v : Dword) (j : BitVec 4) : (s.setWcs a v).protReg j = s.protReg j := rfl
@[simp] theorem byte_setWcs (s : State) (a : Nat) (v : Dword) (k : Nat) : (s.setWcs a v).byte k = s.byte k := rfl
@[simp] theorem peek_setWcs (s : State) (a : Nat) (v : Dword) (k : Nat) (z : Size) : (s.setWcs a v).peek k z = s.peek k z := rfl
@[simp] theorem present_setWcs (s : State) (a : Nat) (v : Dword) (pa : Addr) (z : Size) : (s.setWcs a v).present pa z = s.present pa z := rfl
@[simp] theorem installed_setWcs (s : State) (a : Nat) (v : Dword) (lo : Nat) (z : Nat) : (s.setWcs a v).installed lo z = s.installed lo z := rfl
@[simp] theorem devAt_setWcs (s : State) (a : Nat) (v : Dword) (d : BitVec 7) : (s.setWcs a v).devAt d = s.devAt d := rfl
@[simp] theorem isClassF_setWcs (s : State) (a : Nat) (v : Dword) (k : Level) : (s.setWcs a v).isClassF k = s.isClassF k := rfl

@[simp] theorem reg_withPsw (s : State) (w : Word) (q : Reg) : (s.withPsw w).reg q = s.reg q := rfl
@[simp] theorem mask_withPsw (s : State) (w : Word) : (s.withPsw w).mask = s.mask := rfl
@[simp] theorem pair_withPsw (s : State) (w : Word) (q : Reg) : (s.withPsw w).pair q = s.pair q := rfl
@[simp] theorem index_withPsw (s : State) (w : Word) (z : BitVec 2) : (s.withPsw w).index z = s.index z := rfl
@[simp] theorem cell_withPsw (s : State) (w : Word) (j : BitVec 8) : (s.withPsw w).cell j = s.cell j := rfl
@[simp] theorem stat_withPsw (s : State) (w : Word) : (s.withPsw w).stat = s.stat := rfl
@[simp] theorem mapReg_withPsw (s : State) (w : Word) (j : BitVec 5) : (s.withPsw w).mapReg j = s.mapReg j := rfl
@[simp] theorem protReg_withPsw (s : State) (w : Word) (j : BitVec 4) : (s.withPsw w).protReg j = s.protReg j := rfl
@[simp] theorem byte_withPsw (s : State) (w : Word) (k : Nat) : (s.withPsw w).byte k = s.byte k := rfl
@[simp] theorem peek_withPsw (s : State) (w : Word) (k : Nat) (z : Size) : (s.withPsw w).peek k z = s.peek k z := rfl
@[simp] theorem present_withPsw (s : State) (w : Word) (pa : Addr) (z : Size) : (s.withPsw w).present pa z = s.present pa z := rfl
@[simp] theorem installed_withPsw (s : State) (w : Word) (lo : Nat) (z : Nat) : (s.withPsw w).installed lo z = s.installed lo z := rfl
@[simp] theorem devAt_withPsw (s : State) (w : Word) (d : BitVec 7) : (s.withPsw w).devAt d = s.devAt d := rfl
@[simp] theorem isClassF_withPsw (s : State) (w : Word) (k : Level) : (s.withPsw w).isClassF k = s.isClassF k := rfl

@[simp] theorem reg_withPsd (s : State) (w v : Word) (q : Reg) : (s.withPsd w v).reg q = s.reg q := rfl
@[simp] theorem mask_withPsd (s : State) (w v : Word) : (s.withPsd w v).mask = s.mask := rfl
@[simp] theorem pair_withPsd (s : State) (w v : Word) (q : Reg) : (s.withPsd w v).pair q = s.pair q := rfl
@[simp] theorem index_withPsd (s : State) (w v : Word) (z : BitVec 2) : (s.withPsd w v).index z = s.index z := rfl
@[simp] theorem mapReg_withPsd (s : State) (w v : Word) (j : BitVec 5) : (s.withPsd w v).mapReg j = s.mapReg j := rfl
@[simp] theorem protReg_withPsd (s : State) (w v : Word) (j : BitVec 4) : (s.withPsd w v).protReg j = s.protReg j := rfl
@[simp] theorem byte_withPsd (s : State) (w v : Word) (k : Nat) : (s.withPsd w v).byte k = s.byte k := rfl
@[simp] theorem peek_withPsd (s : State) (w v : Word) (k : Nat) (z : Size) : (s.withPsd w v).peek k z = s.peek k z := rfl
@[simp] theorem present_withPsd (s : State) (w v : Word) (pa : Addr) (z : Size) : (s.withPsd w v).present pa z = s.present pa z := rfl
@[simp] theorem installed_withPsd (s : State) (w v : Word) (lo : Nat) (z : Nat) : (s.withPsd w v).installed lo z = s.installed lo z := rfl
@[simp] theorem devAt_withPsd (s : State) (w v : Word) (d : BitVec 7) : (s.withPsd w v).devAt d = s.devAt d := rfl
@[simp] theorem isClassF_withPsd (s : State) (w v : Word) (k : Level) : (s.withPsd w v).isClassF k = s.isClassF k := rfl

/-! ### The field that was written -/

@[simp] theorem reg_setReg (s : State) (r : Reg) (v : Word) (q : Reg) :
    (s.setReg r v).reg q = if q = r then v else s.reg q := by
  simp only [reg, setReg, Vector.getElem_set]
  by_cases h : r.toNat = q.toNat
  · rw [if_pos h, if_pos (BitVec.eq_of_toNat_eq h.symm)]
  · rw [if_neg h, if_neg (fun e => h (by rw [e]))]

theorem reg_setReg_same (s : State) (r : Reg) (v : Word) : (s.setReg r v).reg r = v := by simp

theorem add_one_ne (r : Reg) : r ≠ r + 1 := by revert r; decide

@[simp] theorem reg_setPair (s : State) (r : Reg) (v : Dword) (q : Reg) :
    (s.setPair r v).reg q = if q = r then bits v 0 32 else if q = r + 1 then bits v 32 32 else s.reg q := by
  simp only [setPair, reg_setReg]

theorem bits_append (v : Dword) : bits v 0 32 ++ bits v 32 32 = v := by
  ext i hi
  simp only [bits, BitVec.getElem_append, BitVec.getElem_extractLsb', BitVec.getLsbD_eq_getElem?_getD]
  split <;> simp_all

@[simp] theorem pair_setPair (s : State) (r : Reg) (v : Dword) : (s.setPair r v).pair r = v := by
  simp [pair, bits_append]

@[simp] theorem cell_setCell (s : State) (i : BitVec 8) (v : Word) (j : BitVec 8) :
    (s.setCell i v).cell j = if j = i then v else s.cell j := by
  simp only [cell, setCell, Vector.getElem_set]
  by_cases h : i.toNat = j.toNat
  · rw [if_pos h, if_pos (BitVec.eq_of_toNat_eq h.symm)]
  · rw [if_neg h, if_neg (fun e => h (by rw [e]))]

@[simp] theorem cell_setStat (s : State) (v : Word) (j : BitVec 8) :
    (s.setStat v).cell j = if j = cpuStatCell then v else s.cell j := cell_setCell s cpuStatCell v j

@[simp] theorem stat_setStat (s : State) (v : Word) : (s.setStat v).stat = v := by simp [stat]

@[simp] theorem stat_setStatBit (s : State) (n : Nat) (b : Bool) : (s.setStatBit n b).stat = putBitAt s.stat n b := by
  simp [setStatBit]

@[simp] theorem mapReg_setMapReg (s : State) (i : BitVec 5) (v : Half) (j : BitVec 5) :
    (s.setMapReg i v).mapReg j = if j = i then v else s.mapReg j := by
  simp only [mapReg, setMapReg, Vector.getElem_set]
  by_cases h : i.toNat = j.toNat
  · rw [if_pos h, if_pos (BitVec.eq_of_toNat_eq h.symm)]
  · rw [if_neg h, if_neg (fun e => h (by rw [e]))]

@[simp] theorem protReg_setProtReg (s : State) (i : BitVec 4) (v : Half) (j : BitVec 4) :
    (s.setProtReg i v).protReg j = if j = i then v else s.protReg j := by
  simp only [protReg, setProtReg, Vector.getElem_set]
  by_cases h : i.toNat = j.toNat
  · rw [if_pos h, if_pos (BitVec.eq_of_toNat_eq h.symm)]
  · rw [if_neg h, if_neg (fun e => h (by rw [e]))]

/-- A byte written and read back needs the canonical form. -/
theorem byte_setByte (s : State) (a : Nat) (v : Byte) (b : Nat) (h : Memory.wf s.mem = true) :
    (s.setByte a v).byte b = if b = a then v else s.byte b := Sparse.get_set unlistedByte v h

/-- Another byte reads as before, whatever the memory. -/
theorem byte_setByte_ne (s : State) {a b : Nat} (v : Byte) (h : b ≠ a) : (s.setByte a v).byte b = s.byte b :=
  Sparse.get_set_ne unlistedByte v h s.mem

/-- A byte stored keeps the canonical form. -/
theorem wf_setByte (s : State) (a : Nat) (v : Byte) (h : Memory.wf s.mem = true) :
    Memory.wf (s.setByte a v).mem = true := Sparse.wf_set unlistedByte a v h

/-- The lowest state of a level bit after a write of one. -/
theorem getLsbD_putBit {n : Nat} (v : BitVec n) (i : Nat) (b : Bool) (j : Nat) (hj : j < n) :
    (putBit v i b).getLsbD j = if j = i then b else v.getLsbD j := by
  unfold putBit
  by_cases h : j = i
  · subst h
    cases b <;> simp [hj]
  · cases b <;> simp [hj, h]

end Sys2Proof.Machine.State
end

