-- ==== Sys2Proof/Laws/Memory.lean ====
section
/-!
SUPPORT. What the shared operations over memory can do, each said once: physical and logical reads and writes,
effective addresses, operands. A caller cites these and unfolds none of them.
-/

namespace Sys2Proof.Machine

/-! ### Pieces of an instruction -/

@[simp] theorem Res.bind_ok {α β : Type} (a : α) (s : State) (f : α → State → Res β) : (Res.ok a s).bind f = f a s := rfl

@[simp] theorem Res.bind_stop {α β : Type} (e : Stop) (s : State) (f : α → State → Res β) :
    (Res.stop e s).bind f = .stop e s := rfl

theorem Res.bind_eq_ok {α β : Type} {x : Res α} {f : α → State → Res β} {b : β} {t : State}
    (h : x.bind f = .ok b t) : ∃ a u, x = .ok a u ∧ f a u = .ok b t := by
  cases x with
  | ok a u => exact ⟨a, u, rfl, h⟩
  | stop e u => cases h

theorem Res.bind_eq_stop {α β : Type} {x : Res α} {f : α → State → Res β} {e : Stop} {t : State}
    (h : x.bind f = .stop e t) : x = .stop e t ∨ ∃ a u, x = .ok a u ∧ f a u = .stop e t := by
  cases x with
  | ok a u => exact .inr ⟨a, u, rfl, h⟩
  | stop e' u => exact .inl (by cases h; rfl)

@[simp] theorem trapNow_eq {α : Type} (t : Trap) (s : State) : (trapNow t s : Res α) = .stop (.trap t) s := rfl

/-! ### States that differ in one part -/

theorem onlyHalt_refl (s : State) : onlyHalt s s := rfl

theorem onlyHalt_askHalt (s : State) (b : Bool) : onlyHalt s (s.askHalt b) := rfl

theorem onlyHalt_trans {s t u : State} (h : onlyHalt s t) (h' : onlyHalt t u) : onlyHalt s u := by
  unfold onlyHalt at *
  rw [h', h]

/-! ### Bytes -/

theorem poke_eq (s : State) (a : Nat) (n : Size) (v : Word) : s.poke a n v = { s with mem := (s.poke a n v).mem } := by
  cases n <;> rfl

/-- A store leaves every byte outside it alone (R111). -/
theorem byte_poke_ne (s : State) (a : Nat) (n : Size) (v : Word) (b : Nat) (h : b < a ∨ a + n.bytes ≤ b) :
    (s.poke a n v).byte b = s.byte b := by
  cases n <;> simp only [Size.bytes] at h <;> simp only [State.poke]
  · rw [State.byte_setByte_ne _ _ (by omega)]
  · rw [State.byte_setByte_ne _ _ (by omega), State.byte_setByte_ne _ _ (by omega)]
  · rw [State.byte_setByte_ne _ _ (by omega), State.byte_setByte_ne _ _ (by omega),
      State.byte_setByte_ne _ _ (by omega), State.byte_setByte_ne _ _ (by omega)]

theorem wf_poke (s : State) (a : Nat) (n : Size) (v : Word) (h : Memory.wf s.mem = true) :
    Memory.wf (s.poke a n v).mem = true := by
  cases n <;> simp only [State.poke] <;> repeat' apply State.wf_setByte
  all_goals exact h

/-- A store lists only its own bytes. -/
theorem mem_poke (s : State) (a : Nat) (n : Size) (v : Word) (c : Host.Cell) (h : c ∈ (s.poke a n v).mem) :
    (a ≤ c.1 ∧ c.1 < a + n.bytes) ∨ c ∈ s.mem := by
  cases n <;> simp only [State.poke, State.setByte, Size.bytes] at h ⊢
  · rcases Sparse.mem_set _ _ _ h with h | h
    · exact .inl (by omega)
    · exact .inr h
  · rcases Sparse.mem_set _ _ _ h with h | h
    · exact .inl (by omega)
    · rcases Sparse.mem_set _ _ _ h with h | h
      · exact .inl (by omega)
      · exact .inr h
  · rcases Sparse.mem_set _ _ _ h with h | h
    · exact .inl (by omega)
    · rcases Sparse.mem_set _ _ _ h with h | h
      · exact .inl (by omega)
      · rcases Sparse.mem_set _ _ _ h with h | h
        · exact .inl (by omega)
        · rcases Sparse.mem_set _ _ _ h with h | h
          · exact .inl (by omega)
          · exact .inr h

/-! ### Other agents' stores -/

/-- Stores of others change memory alone, and keep its canonical form. -/
theorem storeAll_spec : ∀ (l : List (Addr × Byte)) (s : State), storeAll l s = { s with mem := (storeAll l s).mem } ∧
    (Memory.wf s.mem = true → Memory.wf (storeAll l s).mem = true)
  | [], s => ⟨rfl, id⟩
  | (a, b) :: l, s => by
    simp only [storeAll]
    split
    · obtain ⟨h1, h2⟩ := storeAll_spec l (s.setByte a.toNat b)
      refine ⟨?_, fun h => h2 (State.wf_setByte s _ b h)⟩
      rw [h1]; rfl
    · exact storeAll_spec l s

/-- They leave every byte alone to which they do not go. -/
theorem byte_storeAll {k : Nat} : ∀ {l : List (Addr × Byte)} (s : State), (∀ c ∈ l, c.1.toNat ≠ k) →
    (storeAll l s).byte k = s.byte k
  | [], _, _ => rfl
  | (a, b) :: l, s, h => by
    simp only [storeAll]
    rw [byte_storeAll _ fun c hc => h c (List.mem_cons_of_mem _ hc)]
    split
    · exact State.byte_setByte_ne s b fun e => h (a, b) (by simp) e.symm
    · rfl

/-- They list only installed bytes. -/
theorem mem_storeAll {c : Host.Cell} : ∀ {l : List (Addr × Byte)} {s : State}, c ∈ (storeAll l s).mem →
    c ∈ s.mem ∨ s.installed c.1 1 = true
  | [], _, h => .inl h
  | (a, b) :: l, s, h => by
    simp only [storeAll] at h
    split at h
    · next hp =>
      rcases mem_storeAll h with h | h
      · rcases Sparse.mem_set _ _ _ h with h | h
        · exact .inr (by rw [h]; exact hp)
        · exact .inl h
      · exact .inr h
    · exact mem_storeAll h

/-- The stores before an access change memory, use their list up, and keep the canonical form. -/
theorem interleave_spec (s : State) :
    s.interleave = { s with mem := s.interleave.mem, between := s.between.tail } ∧
      (Memory.wf s.mem = true → Memory.wf s.interleave.mem = true) := by
  unfold State.interleave
  split
  · next h => exact ⟨by rw [h]; cases s; cases h; rfl, id⟩
  · next l rest h =>
    obtain ⟨h1, h2⟩ := storeAll_spec l { s with between := rest }
    refine ⟨?_, h2⟩
    rw [h1, h]; rfl

@[simp] theorem interleave_alone {s : State} (h : s.between = []) : s.interleave = s := by
  simp [State.interleave, h]

/-- A locked access where no other agent stores is the access. -/
theorem locked_alone {α : Type} {x : State → Res α} {s : State} (h : s.between = [])
    (hx : ∀ a t, x s = .ok a t → t.between = []) (hx' : ∀ e t, x s = .stop e t → t.between = []) :
    locked x s = x s := by
  have hs : ({ s with between := [] } : State) = s := by cases s; cases h; rfl
  unfold locked
  rw [hs]
  split
  · next a t e => rw [e, h]; have := hx a t e; cases t; cases this; rfl
  · next a t e => rw [e, h]; have := hx' a t e; cases t; cases this; rfl

/-! ### Physical and logical accesses -/

theorem physRead_ok {err : MemErr → Trap} {pa : Addr} {n : Size} {s t : State} {v : Word}
    (h : physRead err pa n s = .ok v t) :
    s.present pa n = true ∧ s.operandParity = false ∧ v = s.interleave.peek pa.toNat n ∧ t = s.interleave := by
  have hp : s.interleave.present pa n = s.present pa n := by rw [(interleave_spec s).1]; rfl
  have ho : s.interleave.operandParity = s.operandParity := by rw [(interleave_spec s).1]
  unfold physRead readNow at h
  split at h
  · cases h
  · split at h
    · cases h
    · cases h
      simp_all

theorem physRead_eq (err : MemErr → Trap) {pa : Addr} {n : Size} {s : State} (hb : s.between = [])
    (hp : s.present pa n = true) (ho : s.operandParity = false) :
    physRead err pa n s = .ok (s.peek pa.toNat n) s := by
  simp [physRead, readNow, hb, hp, ho]

theorem physWrite_ok {err : MemErr → Trap} {pa : Addr} {n : Size} {s t : State} {v : Word} {x : Unit}
    (h : physWrite err pa n v s = .ok x t) : s.present pa n = true ∧ t = s.interleave.poke pa.toNat n v := by
  have hp : s.interleave.present pa n = s.present pa n := by rw [(interleave_spec s).1]; rfl
  unfold physWrite writeNow at h
  split at h
  · next hq => cases h; exact ⟨by rw [← hp, hq], rfl⟩
  · cases h

theorem physWrite_eq (err : MemErr → Trap) {pa : Addr} {n : Size} {s : State} (v : Word) (hb : s.between = [])
    (hp : s.present pa n = true) : physWrite err pa n v s = .ok () (s.poke pa.toNat n v) := by
  simp [physWrite, writeNow, hb, hp]

theorem memRead_ok {k : Access} {a : Addr} {n : Size} {s t : State} {v : Word} (h : memRead k a n s = .ok v t) :
    ∃ pa, s.translate k false a = .ok pa ∧ s.present pa n = true ∧ s.operandParity = false ∧
      v = s.interleave.peek pa.toNat n ∧ t = s.interleave.askHalt (s.stops.read && s.stopHit pa n) := by
  unfold memRead at h
  split at h
  · cases h
  · next pa hpa =>
    obtain ⟨w, u, h1, h2⟩ := Res.bind_eq_ok h
    obtain ⟨hp, ho, hv, rfl⟩ := physRead_ok h1
    cases h2
    refine ⟨pa, hpa, hp, ho, hv, ?_⟩
    rw [(interleave_spec s).1]; rfl

theorem memWrite_ok {a : Addr} {n : Size} {s t : State} {v : Word} {x : Unit} (h : memWrite a n v s = .ok x t) :
    ∃ pa, s.translate .operand true a = .ok pa ∧ (s.priv = true ∨ s.pageProtected pa = false) ∧
      s.present pa n = true ∧ t = (s.interleave.poke pa.toNat n v).askHalt (s.stops.write && s.stopHit pa n) := by
  unfold memWrite at h
  split at h
  · cases h
  · next pa hpa =>
    split at h
    · cases h
    · next hg =>
      obtain ⟨w, u, h1, h2⟩ := Res.bind_eq_ok h
      obtain ⟨hp, rfl⟩ := physWrite_ok h1
      cases h2
      refine ⟨pa, hpa, ?_, hp, ?_⟩
      · cases hq : s.priv <;> simp_all
      · rw [poke_eq, (interleave_spec s).1]; rfl

/-- A read between which nothing comes changes nothing but a halt asked for. -/
theorem memRead_onlyHalt {k : Access} {a : Addr} {n : Size} {s t : State} {v : Word} (hb : s.between = [])
    (h : memRead k a n s = .ok v t) : onlyHalt s t := by
  obtain ⟨_, -, -, -, -, rfl⟩ := memRead_ok h
  rw [interleave_alone hb]
  rfl

theorem onlyHalt_between {s t : State} (h : onlyHalt s t) : t.between = s.between := by
  unfold onlyHalt at h; rw [h]

/-! ### Effective addresses and operands -/

theorem chase_onlyHalt {k : Access} : ∀ {n : Nat} {m : MemRef} {w : Option Word} {s t : State} {x : Target},
    s.between = [] → chase k n m w s = .ok x t → onlyHalt s t
  | 0, _, _, _, _, _, _, h => by cases h
  | n + 1, m, w, s, t, x, hb, h => by
    unfold chase at h
    split at h
    · obtain ⟨v, u, h1, h2⟩ := Res.bind_eq_ok h
      have hu := memRead_onlyHalt hb h1
      exact onlyHalt_trans hu (chase_onlyHalt ((onlyHalt_between hu).trans hb) h2)
    · cases h; rfl

theorem resolve_onlyHalt {k : Access} {m : MemRef} {s t : State} {x : Target} (hb : s.between = [])
    (h : resolve k m s = .ok x t) : onlyHalt s t := chase_onlyHalt hb h

/-- Without the indirect bit the address is the indexed one and nothing is read (R97, R98, R100). -/
theorem resolve_direct (k : Access) {m : MemRef} (s : State) (h : m.i = false) :
    resolve k m s = .ok ⟨s.combine m, none, m.x⟩ s := by
  obtain ⟨n, hn⟩ : ∃ n, chainFuel + s.between.length = n + 1 := ⟨_, Nat.succ_pred_eq_of_pos (by unfold chainFuel; omega) |>.symm⟩
  simp [resolve, hn, chase, h]

theorem readDword_ok {k : Access} {a : Addr} {s t : State} {v : Dword} (h : readDword k a s = .ok v t) :
    ∃ lo hi u, memRead k (a + 4) .word s = .ok lo u ∧ memRead k a .word u = .ok hi t ∧ v = hi ++ lo := by
  obtain ⟨lo, u, h1, h⟩ := Res.bind_eq_ok h
  obtain ⟨hi, w, h2, h⟩ := Res.bind_eq_ok h
  cases h
  exact ⟨lo, hi, u, h1, h2, rfl⟩

theorem readAt_onlyHalt {w : Width} {a : Addr} {s t : State} {o : Operand} (hb : s.between = [])
    (h : readAt w a s = .ok o t) : onlyHalt s t := by
  cases w <;> simp only [readAt] at h <;> obtain ⟨v, u, h1, h⟩ := Res.bind_eq_ok h <;> cases h
  · exact memRead_onlyHalt hb h1
  · exact memRead_onlyHalt hb h1
  · exact memRead_onlyHalt hb h1
  · obtain ⟨lo, hi, u, h1, h2, -⟩ := readDword_ok h1
    have hu := memRead_onlyHalt hb h1
    exact onlyHalt_trans hu (memRead_onlyHalt ((onlyHalt_between hu).trans hb) h2)

theorem operand_onlyHalt {m : MemRef} {s t : State} {o : Operand} (hb : s.between = [])
    (h : operand m s = .ok o t) : onlyHalt s t := by
  obtain ⟨x, u, h1, h⟩ := Res.bind_eq_ok h
  have hu := resolve_onlyHalt hb h1
  exact onlyHalt_trans hu (readAt_onlyHalt ((onlyHalt_between hu).trans hb) h)

/-! ### The checks that come first -/

theorem requirePsd_ok {s : State} (h : s.mode = .psd) : requirePsd s = .ok () s := by simp [requirePsd, h]

theorem requirePsd_psw {s : State} (h : s.mode = .psw) : requirePsd s = trapNow (.undefined false) s := by
  simp [requirePsd, h]

theorem requirePriv_ok {s : State} (h : s.priv = true) : requirePriv s = .ok () s := by simp [requirePriv, h]

theorem requirePriv_no {s : State} (h : s.priv = false) : requirePriv s = trapNow .privilege s := by
  simp [requirePriv, h]

theorem requireUnmapped_ok {s : State} (h : s.mapActive = false) : requireUnmapped s = .ok () s := by
  simp [requireUnmapped, h]

theorem requireJumper_ok {s : State} (h : s.cfg.modeJumper = .psd) : requireJumper s = .ok () s := by
  simp [requireJumper, h]

theorem requireJumper_no {s : State} (h : s.cfg.modeJumper = .psw) :
    requireJumper s = trapNow (.undefined false) s := by
  simp [requireJumper, h]

theorem arithCheck_ok {s : State} (h : s.cc.cc1 = true → s.arithEnabled = false) : arithCheck s = .ok () s := by
  unfold arithCheck
  cases h1 : s.cc.cc1 <;> simp_all

theorem arithCheck_trap {s : State} (h : s.cc.cc1 = true) (he : s.arithEnabled = true) :
    arithCheck s = trapNow .arithmetic s := by
  simp [arithCheck, h, he]

theorem putWordOv_ok {r : Reg} {x : Word × Bool} {s : State} (h : x.2 = true → s.arithEnabled = false) :
    putWordOv r x s = .ok () ((s.setReg r x.1).setCC (ccArith x.2 x.1)) := arithCheck_ok h

theorem putDwordOv_ok {r : Reg} {x : Dword × Bool} {s : State} (h : x.2 = true → s.arithEnabled = false) :
    putDwordOv r x s = .ok () ((s.setPair r x.1).setCC (ccArith x.2 x.1)) := arithCheck_ok h

/-! ### The frame of an instruction -/

/-- An instruction that is due no timeout and does not halt the CPU ends by `finish` alone. -/
theorem complete_quiet {len : Len} {s t : State} (h : (finish len s t).timeoutDue = false)
    (hr : t.run = .halt → s.run = .halt) : complete len s t = finish len s t := by
  have hr' : ¬((finish len s t).run = .halt ∧ s.run ≠ .halt) := fun hc => hc.2 (hr hc.1)
  simp [complete, h, State.haltedFrom, hr']

theorem perform_ok {len : Len} {op : State → Res Unit} {s t : State} (h : op (s.start len) = .ok () t) :
    perform len op s = .next (complete len s t) := by
  simp [perform, h]

theorem perform_trap {len : Len} {op : State → Res Unit} {s t : State} {x : Trap}
    (h : op (s.start len) = .stop (.trap x) t) :
    perform len op s = .next (raiseSync x (t.setHist (histOf len s.pc))) := by
  simp [perform, h]

/-- A trap with which no asynchronous one of higher priority coincides (R733). -/
theorem raiseSync_alone {t : Trap} {s : State} (h : s.urgent t = []) : raiseSync t s = raise t s := by
  simp [raiseSync, h]

/-- None does where the environment lists no event. -/
@[simp] theorem urgent_nil {t : Trap} {s : State} (h : s.inputs = []) : s.urgent t = [] := by
  simp [State.urgent, h]

end Sys2Proof.Machine
end

