-- ==== Sys2Proof/Laws/Frame.lean ====
section
/-!
SUPPORT. How an instruction ends when nothing is raised: from what its effect answers to the next state of
`exec`, with the frame. A statement about an instruction cites one of these and unfolds neither `perform` nor
`complete`.
-/

namespace Sys2Proof.Machine

theorem effectRegs_refl (s : State) : effectRegs s s := rfl

theorem effectMem_refl (s : State) : effectMem s s := rfl

theorem effectRegs_of_onlyHalt {s t : State} (h : onlyHalt s t) : effectRegs s t := by
  unfold onlyHalt at h; unfold effectRegs; rw [h]

theorem effectMem_of_onlyHalt {s t : State} (h : onlyHalt s t) : effectMem s t := by
  unfold onlyHalt at h; unfold effectMem; rw [h]

theorem effectRegs_trans {s t u : State} (h : effectRegs s t) (h' : effectRegs t u) : effectRegs s u := by
  unfold effectRegs at *; rw [h', h]

theorem effectMem_trans {s t u : State} (h : effectMem s t) (h' : effectMem t u) : effectMem s u := by
  unfold effectMem at *; rw [h', h]

theorem onlyHalt_reg {s t : State} (h : onlyHalt s t) (r : Reg) : t.reg r = s.reg r := by
  unfold onlyHalt at h; rw [h]; rfl

theorem onlyHalt_pair {s t : State} (h : onlyHalt s t) (r : Reg) : t.pair r = s.pair r := by
  unfold onlyHalt at h; rw [h]; rfl

theorem onlyHalt_mask {s t : State} (h : onlyHalt s t) : t.mask = s.mask := by
  unfold onlyHalt at h; rw [h]; rfl

theorem onlyHalt_cc {s t : State} (h : onlyHalt s t) : t.cc = s.cc := by
  unfold onlyHalt at h; rw [h]

theorem onlyHalt_pc {s t : State} (h : onlyHalt s t) : t.pc = s.pc := by
  unfold onlyHalt at h; rw [h]

theorem onlyHalt_lastBix {s t : State} (h : onlyHalt s t) : t.lastBix = s.lastBix := by
  unfold onlyHalt at h; rw [h]

theorem onlyHalt_byte {s t : State} (h : onlyHalt s t) (a : Nat) : t.byte a = s.byte a := by
  unfold onlyHalt at h; rw [h]; rfl

theorem onlyHalt_arithEnabled {s t : State} (h : onlyHalt s t) : t.arithEnabled = s.arithEnabled := by
  unfold onlyHalt at h; rw [h]; rfl

/-- The end of a quiet instruction that leaves mode, enables and blocking alone. -/
theorem complete_ended {len : Len} {s u : State} (hq : s.quiet) (hm : u.mode = s.mode) (hb : u.blocked = s.blocked)
    (he : u.bmtEn = s.bmtEn) (hc : u.blockCount = s.blockCount) (hr : u.run = s.run) :
    complete len s u = finish len s u := by
  refine complete_quiet ?_ (fun h => by rw [← hr, h])
  by_contra h
  simp only [State.timeoutDue, finish, hm, hb, he, hc, Bool.not_eq_false, Bool.and_eq_true, decide_eq_true_eq] at h
  obtain ⟨⟨⟨⟨h1, h2⟩, h3⟩, h4⟩, -⟩ := h
  have := hq.noTimeout h1 h2 h3
  simp only [h2, if_true] at h4
  omega

/-- A register instruction that completes. -/
theorem perform_regs {len : Len} {op : State → Res Unit} {s u : State} (hq : s.quiet)
    (h : op (s.start len) = .ok () u) (hu : effectRegs (s.start len) u) :
    perform len op s = .next (finish len s u) ∧ onlyRegs s (finish len s u) := by
  unfold effectRegs at hu
  constructor
  · rw [perform_ok h, complete_ended hq (by rw [hu]; rfl) (by rw [hu]; rfl) (by rw [hu]; rfl) (by rw [hu]; rfl)
      (by rw [hu]; rfl)]
  · unfold onlyRegs; rw [hu]; rfl

/-- A storing instruction that completes. -/
theorem perform_mem {len : Len} {op : State → Res Unit} {s u : State} (hq : s.quiet)
    (h : op (s.start len) = .ok () u) (hu : effectMem (s.start len) u) :
    perform len op s = .next (finish len s u) ∧ onlyMem s (finish len s u) := by
  unfold effectMem at hu
  constructor
  · rw [perform_ok h, complete_ended hq (by rw [hu]; rfl) (by rw [hu]; rfl) (by rw [hu]; rfl) (by rw [hu]; rfl)
      (by rw [hu]; rfl)]
  · unfold onlyMem; rw [hu]; rfl

/-- The end in sequence: the effect has left the pc and the BIx interlock alone. -/
theorem finish_ended {len : Len} {s u : State} (hp : u.pc = advance len s.pc) (hl : u.lastBix = false)
    (hb : u.blockCount = s.blockCount) : Ended len s (finish len s u) :=
  ⟨hp, rfl, hl, by simp only [finish, hb]⟩

/-- The two together, for an effect that leaves the pc and the BIx interlock alone. -/
theorem perform_regs_ended {len : Len} {op : State → Res Unit} {s u : State} (hq : s.quiet)
    (h : op (s.start len) = .ok () u) (hu : effectRegs (s.start len) u) (hp : u.pc = advance len s.pc)
    (hl : u.lastBix = false) :
    perform len op s = .next (finish len s u) ∧ onlyRegs s (finish len s u) ∧ Ended len s (finish len s u) := by
  obtain ⟨h1, h2⟩ := perform_regs hq h hu
  unfold effectRegs at hu
  exact ⟨h1, h2, finish_ended hp hl (by rw [hu]; rfl)⟩

/-- The two together for a store. -/
theorem perform_mem_ended {len : Len} {op : State → Res Unit} {s u : State} (hq : s.quiet)
    (h : op (s.start len) = .ok () u) (hu : effectMem (s.start len) u) (hp : u.pc = advance len s.pc)
    (hl : u.lastBix = false) :
    perform len op s = .next (finish len s u) ∧ onlyMem s (finish len s u) ∧ Ended len s (finish len s u) := by
  obtain ⟨h1, h2⟩ := perform_mem hq h hu
  unfold effectMem at hu
  exact ⟨h1, h2, finish_ended hp hl (by rw [hu]; rfl)⟩

/-- An instruction that completes and leaves mode, enable, blocking and count alone, whatever else it changes. -/
theorem perform_done {len : Len} {op : State → Res Unit} {s u : State} (hq : s.quiet)
    (h : op (s.start len) = .ok () u) (hm : u.mode = s.mode) (hb : u.blocked = s.blocked) (he : u.bmtEn = s.bmtEn)
    (hc : u.blockCount = s.blockCount) (hr : u.run = s.run) : perform len op s = .next (finish len s u) := by
  rw [perform_ok h, complete_ended hq hm hb he hc hr]

/-- An instruction that completes where no timeout can be due: it may change mode, enable and blocking. -/
theorem perform_done_blocking {len : Len} {op : State → Res Unit} {s u : State}
    (h : op (s.start len) = .ok () u)
    (hc : u.mode = .psd → u.bmtEn = true → u.blocked = true → s.blocked = true → u.blockCount < 128)
    (hr : u.run = s.run) : perform len op s = .next (finish len s u) := by
  rw [perform_ok h, complete_quiet ?_ (fun h => by rw [← hr, h])]
  by_contra hd
  simp only [State.timeoutDue, Bool.not_eq_false, Bool.and_eq_true, decide_eq_true_eq] at hd
  obtain ⟨⟨⟨⟨h1, h2⟩, h3⟩, h4⟩, -⟩ := hd
  have h5 : u.blocked = true := h2
  have h6 : 128 < if u.blocked = true then (if s.blocked = true then u.blockCount + 1 else 0) else 0 := h4
  rw [if_pos h5] at h6
  by_cases hs : s.blocked = true
  · have := hc h1 h3 h2 hs
    rw [if_pos hs] at h6
    omega
  · rw [if_neg hs] at h6
    omega

/-- A quiet instruction that completes in sequence and leaves mode, enable, blocking and count alone. -/
theorem perform_done_ended {len : Len} {op : State → Res Unit} {s u : State} (hq : s.quiet)
    (h : op (s.start len) = .ok () u) (hm : u.mode = s.mode) (hb : u.blocked = s.blocked) (he : u.bmtEn = s.bmtEn)
    (hc : u.blockCount = s.blockCount) (hr : u.run = s.run) (hp : u.pc = advance len s.pc) (hl : u.lastBix = false) :
    perform len op s = .next (finish len s u) ∧ Ended len s (finish len s u) :=
  ⟨perform_done hq h hm hb he hc hr, finish_ended hp hl hc⟩

@[simp] theorem finish_reg (len : Len) (s u : State) (r : Reg) : (finish len s u).reg r = u.reg r := rfl
@[simp] theorem finish_cc (len : Len) (s u : State) : (finish len s u).cc = u.cc := rfl
@[simp] theorem finish_pc (len : Len) (s u : State) : (finish len s u).pc = u.pc := rfl
@[simp] theorem finish_byte (len : Len) (s u : State) (a : Nat) : (finish len s u).byte a = u.byte a := rfl
@[simp] theorem finish_peek (len : Len) (s u : State) (a : Nat) (n : Size) : (finish len s u).peek a n = u.peek a n := rfl

/-- What `ccArith` reports (R9, R37). -/
theorem signCC_ccArith {n : Nat} (c1 : Bool) (v : BitVec n) : signCC c1 v (ccArith c1 v) :=
  ⟨rfl, by simp [ccArith], by simp [ccArith], by simp [ccArith]⟩

theorem wroteWord_finish {len : Len} {r : Reg} {v : Word} {c1 : Bool} {s u : State}
    (h : ∀ q, u.reg q = s.reg q) : wroteWord r v c1 s (finish len s ((u.setReg r v).setCC (ccArith c1 v))) where
  value := by simp
  others := fun q hq => by simp [hq, h]
  cc := signCC_ccArith c1 v

theorem wrotePair_finish {len : Len} {r : Reg} {v : Dword} {c1 : Bool} {s u : State}
    (h : ∀ q, u.reg q = s.reg q) : wrotePair r v c1 s (finish len s ((u.setPair r v).setCC (ccArith c1 v))) where
  high := by simp
  low := by simp
  others := fun q hq hq' => by rw [finish_reg, State.reg_setCC, State.reg_setPair, if_neg hq, if_neg hq', h]
  cc := signCC_ccArith c1 v

end Sys2Proof.Machine
end

