-- ==== Sys2Proof/Laws/Numbers.lean ====
section
/-!
SUPPORT. Bit fields as numbers: a field of the manual's numbering is a quotient and a remainder of the value.
-/

namespace Sys2Proof.Machine

theorem bits_toNat {n : Nat} (v : BitVec n) (a l : Nat) :
    (bits v a l).toNat = v.toNat / 2 ^ (n - a - l) % 2 ^ l := by
  simp [bits, BitVec.extractLsb'_toNat, Nat.shiftRight_eq_div_pow]

theorem bitAt_eq_decide {n : Nat} (v : BitVec n) (a : Nat) :
    bitAt v a = decide (v.toNat / 2 ^ (n - 1 - a) % 2 = 1) := by
  simp [bitAt, BitVec.getLsbD, Nat.testBit_eq_decide_div_mod_eq]

theorem append_toNat {n m : Nat} (a : BitVec n) (b : BitVec m) : (a ++ b).toNat = a.toNat * 2 ^ m + b.toNat := by
  rw [BitVec.toNat_append, Nat.shiftLeft_eq, Nat.mul_comm, Nat.two_pow_add_eq_or_of_lt b.isLt]

theorem wordAlign_toNat (a : Addr) : (wordAlign a).toNat = a.toNat / 4 * 4 := by
  have h := append_toNat (bits a 0 22) (0 : BitVec 2)
  have := a.isLt
  rw [bits_toNat] at h
  refine h.trans ?_
  simp
  omega

theorem dwordAlign_toNat (a : Addr) : (dwordAlign a).toNat = a.toNat / 8 * 8 := by
  have h := append_toNat (bits a 0 21) (0 : BitVec 3)
  have := a.isLt
  rw [bits_toNat] at h
  refine h.trans ?_
  simp
  omega

theorem halfAlign_toNat (a : Addr) : (operandAddr .half a).toNat = a.toNat / 2 * 2 := by
  have h := append_toNat (bits a 0 23) (0 : BitVec 1)
  have := a.isLt
  rw [bits_toNat] at h
  refine h.trans ?_
  simp
  omega

end Sys2Proof.Machine
end

