-- ==== Sys2Proof/Laws/PerInstr.lean ====
section
/-!
SUPPORT. One lemma for each instruction: the length that its encoding shows by its operation code (R161) is the
length by which the machine advances the pc (R35).
-/

namespace Sys2Proof.Laws.EncodedLength

open Sys2Proof.Machine

/-- The length that the encoded word shows is the length of the instruction. -/
def Statement (i : Instr) : Prop := lenOf (encode i) = i.len

theorem opOf_toNat (w : Word) : opOf w = w.toNat / 2 ^ 26 % 2 ^ 6 := bits_toNat w 0 6

theorem f6_toNat (w : Word) : (f6 w).toNat = w.toNat / 2 ^ 23 % 2 ^ 3 := bits_toNat w 6 3

/-- A 32-bit instruction by its operation code alone. -/
theorem len_word {w : Word} (h : w.toNat / 2 ^ 26 % 2 ^ 6 = 0x0D ∨ 0x20 ≤ w.toNat / 2 ^ 26 % 2 ^ 6)
    (h3E : w.toNat / 2 ^ 26 % 2 ^ 6 = 0x3E → w.toNat / 2 ^ 23 % 2 ^ 3 < 6) : lenOf w = .word := by
  have h6 : w.toNat / 2 ^ 26 % 2 ^ 6 = 0x3E → f6 w ≠ 6 ∧ f6 w ≠ 7 := fun e =>
    ⟨fun k => by have := h3E e; rw [← f6_toNat, k] at this; simp at this,
     fun k => by have := h3E e; rw [← f6_toNat, k] at this; simp at this⟩
  unfold lenOf isHalfLen
  rw [opOf_toNat]
  split
  · rename_i hh
    simp only [Bool.or_eq_true, Bool.and_eq_true, decide_eq_true_eq] at hh
    rcases hh with ⟨a, b⟩ | ⟨a, b⟩
    · omega
    · have := h6 a; rcases b with b | b <;> simp [b] at this
  · rfl

/-- A 16-bit instruction by its operation code alone. -/
theorem len_half {w : Word} (h : w.toNat / 2 ^ 26 % 2 ^ 6 < 0x20) (hD : w.toNat / 2 ^ 26 % 2 ^ 6 ≠ 0x0D) :
    lenOf w = .half := by
  unfold lenOf isHalfLen
  rw [opOf_toNat, decide_eq_true h, decide_eq_true hD]
  rfl

theorem len_memWord (op : BitVec 6) (r : BitVec 3) (m : MemRef) (h : op = 0x0D ∨ 0x20 ≤ op.toNat)
    (h3E : op = 0x3E → r.toNat < 6) : lenOf (memWord op r m) = .word := by
  have e : (memWord op r m).toNat = _ := append_toNat (op ++ r ++ m.x ++ BitVec.ofBool m.i) m.a
  rw [append_toNat, append_toNat, append_toNat] at e
  have := op.isLt; have := r.isLt; have := m.x.isLt; have := (BitVec.ofBool m.i).isLt; have := m.a.isLt
  have ho : (memWord op r m).toNat / 2 ^ 26 % 2 ^ 6 = op.toNat := by rw [e]; omega
  have hr : (memWord op r m).toNat / 2 ^ 23 % 2 ^ 3 = r.toNat := by rw [e]; omega
  refine len_word ?_ ?_
  · rw [ho]; rcases h with rfl | h
    · exact .inl rfl
    · exact .inr h
  · rw [ho, hr]; exact fun k => h3E (BitVec.eq_of_toNat_eq k)

theorem len_halfWord (op : BitVec 6) (rd rs : Reg) (aug : BitVec 4) (h : op.toNat < 0x20) (hD : op ≠ 0x0D) :
    lenOf (halfWord op rd rs aug) = .half := by
  have e : (halfWord op rd rs aug).toNat = _ := append_toNat (op ++ rd ++ rs ++ aug) (0 : Half)
  rw [append_toNat, append_toNat, append_toNat] at e
  have := op.isLt; have := rd.isLt; have := rs.isLt; have := aug.isLt
  have ho : (halfWord op rd rs aug).toNat / 2 ^ 26 % 2 ^ 6 = op.toNat := by
    rw [e]; simp; omega
  exact len_half (by omega) (by rw [ho]; exact fun k => hD (BitVec.eq_of_toNat_eq k))

theorem len_shiftWord (op : BitVec 6) (r : Reg) (left : Bool) (n : BitVec 5) (h : op.toNat < 0x20) (hD : op ≠ 0x0D) :
    lenOf (shiftWord op r left n) = .half := by
  have e : (shiftWord op r left n).toNat = _ := append_toNat (op ++ r ++ BitVec.ofBool left ++ (0 : BitVec 1) ++ n) (0 : Half)
  rw [append_toNat, append_toNat, append_toNat, append_toNat] at e
  have := op.isLt; have := r.isLt; have := (BitVec.ofBool left).isLt; have := n.isLt
  have ho : (shiftWord op r left n).toNat / 2 ^ 26 % 2 ^ 6 = op.toNat := by
    rw [e]; simp only [BitVec.ofNat_eq_ofNat, BitVec.toNat_ofNat]; omega
  exact len_half (by omega) (by rw [ho]; exact fun k => hD (BitVec.eq_of_toNat_eq k))

theorem len_bitWord (op : BitVec 6) (b : BitVec 3) (r : Reg) (y : BitVec 2) (h : op.toNat < 0x20) (hD : op ≠ 0x0D) :
    lenOf (bitWord op b r y) = .half := by
  have e : (bitWord op b r y).toNat = _ := append_toNat (op ++ b ++ r ++ (0 : BitVec 2) ++ y) (0 : Half)
  rw [append_toNat, append_toNat, append_toNat, append_toNat] at e
  have := op.isLt; have := b.isLt; have := r.isLt; have := y.isLt
  have ho : (bitWord op b r y).toNat / 2 ^ 26 % 2 ^ 6 = op.toNat := by
    rw [e]; simp only [BitVec.ofNat_eq_ofNat, BitVec.toNat_ofNat]; omega
  exact len_half (by omega) (by rw [ho]; exact fun k => hD (BitVec.eq_of_toNat_eq k))

theorem len_calmWord (flags : BitVec 10) : lenOf (calmWord flags) = .half := by
  have e : (calmWord flags).toNat = _ := append_toNat ((0x0C : BitVec 6) ++ flags) (0 : Half)
  rw [append_toNat] at e
  have := flags.isLt
  have ho : (calmWord flags).toNat / 2 ^ 26 % 2 ^ 6 = 0x0C := by
    rw [e]; simp only [BitVec.ofNat_eq_ofNat, BitVec.toNat_ofNat]; omega
  exact len_half (by omega) (by omega)

theorem len_protWord (sub : BitVec 3) (p : BitVec 4) (r : Reg) (h : 6 ≤ sub.toNat) : lenOf (protWord sub p r) = .half := by
  have e : (protWord sub p r).toNat = _ := append_toNat ((0x3E : BitVec 6) ++ sub ++ p ++ r) (0 : Half)
  rw [append_toNat, append_toNat, append_toNat] at e
  have := sub.isLt; have := p.isLt; have := r.isLt
  have ho : (protWord sub p r).toNat / 2 ^ 26 % 2 ^ 6 = 0x3E := by
    rw [e]; simp only [BitVec.ofNat_eq_ofNat, BitVec.toNat_ofNat]; omega
  have hs : (f6 (protWord sub p r)).toNat = sub.toNat := by
    rw [f6_toNat, e]; simp only [BitVec.ofNat_eq_ofNat, BitVec.toNat_ofNat]; omega
  have h67 : f6 (protWord sub p r) = 6 ∨ f6 (protWord sub p r) = 7 := by
    rcases Nat.lt_or_ge sub.toNat 7 with k | k
    · exact .inl (BitVec.eq_of_toNat_eq (by rw [hs]; simp; omega))
    · exact .inr (BitVec.eq_of_toNat_eq (by rw [hs]; simp; omega))
  unfold lenOf isHalfLen
  rw [opOf_toNat, ho]
  rcases h67 with k | k <;> rw [k] <;> rfl

theorem len_immWord (r : Reg) (aug : BitVec 3) (v : Half) : lenOf (immWord r aug v) = .word := by
  have e : (immWord r aug v).toNat = _ := append_toNat ((0x32 : BitVec 6) ++ r ++ (0 : BitVec 4) ++ aug) v
  rw [append_toNat, append_toNat, append_toNat] at e
  have := r.isLt; have := aug.isLt; have := v.isLt
  have ho : (immWord r aug v).toNat / 2 ^ 26 % 2 ^ 6 = 0x32 := by
    rw [e]; simp only [BitVec.ofNat_eq_ofNat, BitVec.toNat_ofNat]; omega
  exact len_word (by omega) (by omega)

theorem len_extWord (rd rs : Reg) (aug : BitVec 4) (rz : Reg) : lenOf (extWord rd rs aug rz) = .word := by
  have e : (extWord rd rs aug rz).toNat = _ := append_toNat ((0x32 : BitVec 6) ++ rd ++ rs ++ aug ++ (0 : BitVec 13)) rz
  rw [append_toNat, append_toNat, append_toNat, append_toNat] at e
  have := rd.isLt; have := rs.isLt; have := aug.isLt; have := rz.isLt
  have ho : (extWord rd rs aug rz).toNat / 2 ^ 26 % 2 ^ 6 = 0x32 := by
    rw [e]; simp only [BitVec.ofNat_eq_ofNat, BitVec.toNat_ofNat]; omega
  exact len_word (by omega) (by omega)

theorem len_levelWord (l : Level) (aug : BitVec 3) (c : Half) : lenOf (levelWord l aug c) = .word := by
  have e : (levelWord l aug c).toNat = _ := append_toNat ((0x3F : BitVec 6) ++ l ++ aug) c
  rw [append_toNat, append_toNat] at e
  have := l.isLt; have := aug.isLt; have := c.isLt
  have ho : (levelWord l aug c).toNat / 2 ^ 26 % 2 ^ 6 = 0x3F := by
    rw [e]; simp only [BitVec.ofNat_eq_ofNat, BitVec.toNat_ofNat]; omega
  exact len_word (by omega) (by omega)

theorem len_classFWord (r : Reg) (sub : BitVec 4) (k : Half) : lenOf (classFWord r sub k) = .word := by
  have e : (classFWord r sub k).toNat = _ := append_toNat ((0x3F : BitVec 6) ++ r ++ sub ++ (7 : BitVec 3)) k
  rw [append_toNat, append_toNat, append_toNat] at e
  have := r.isLt; have := sub.isLt; have := k.isLt
  have ho : (classFWord r sub k).toNat / 2 ^ 26 % 2 ^ 6 = 0x3F := by
    rw [e]; simp only [BitVec.ofNat_eq_ofNat, BitVec.toNat_ofNat]; omega
  exact len_word (by omega) (by omega)

theorem lb (r : Reg) (m : MemRef) : Statement (.lb r m) :=
  len_memWord _ _ _ (by decide) (fun h => absurd h (by decide))

theorem lh (r : Reg) (m : MemRef) : Statement (.lh r m) :=
  len_memWord _ _ _ (by decide) (fun h => absurd h (by decide))

theorem lw (r : Reg) (m : MemRef) : Statement (.lw r m) :=
  len_memWord _ _ _ (by decide) (fun h => absurd h (by decide))

theorem ld (r : Reg) (m : MemRef) : Statement (.ld r m) :=
  len_memWord _ _ _ (by decide) (fun h => absurd h (by decide))

theorem lmb (r : Reg) (m : MemRef) : Statement (.lmb r m) :=
  len_memWord _ _ _ (by decide) (fun h => absurd h (by decide))

theorem lmh (r : Reg) (m : MemRef) : Statement (.lmh r m) :=
  len_memWord _ _ _ (by decide) (fun h => absurd h (by decide))

theorem lmw (r : Reg) (m : MemRef) : Statement (.lmw r m) :=
  len_memWord _ _ _ (by decide) (fun h => absurd h (by decide))

theorem lmd (r : Reg) (m : MemRef) : Statement (.lmd r m) :=
  len_memWord _ _ _ (by decide) (fun h => absurd h (by decide))

theorem lnb (r : Reg) (m : MemRef) : Statement (.lnb r m) :=
  len_memWord _ _ _ (by decide) (fun h => absurd h (by decide))

theorem lnh (r : Reg) (m : MemRef) : Statement (.lnh r m) :=
  len_memWord _ _ _ (by decide) (fun h => absurd h (by decide))

theorem lnw (r : Reg) (m : MemRef) : Statement (.lnw r m) :=
  len_memWord _ _ _ (by decide) (fun h => absurd h (by decide))

theorem lnd (r : Reg) (m : MemRef) : Statement (.lnd r m) :=
  len_memWord _ _ _ (by decide) (fun h => absurd h (by decide))

theorem li (r : Reg) (v : Half) : Statement (.li r v) :=
  len_immWord _ _ _

theorem lea (r : Reg) (m : MemRef) : Statement (.lea r m) :=
  len_memWord _ _ _ (by decide) (fun h => absurd h (by decide))

theorem lear (r : Reg) (m : MemRef) : Statement (.lear r m) :=
  len_memWord _ _ _ (by decide) (fun h => absurd h (by decide))

theorem la (r : Reg) (m : MemRef) : Statement (.la r m) :=
  len_memWord _ _ _ (by decide) (fun h => absurd h (by decide))

theorem lem (rd : Reg) (rs : Reg) (rz : Reg) : Statement (.lem rd rs rz) :=
  len_extWord _ _ _ _

theorem cema (rd : Reg) (rs : Reg) (rz : Reg) : Statement (.cema rd rs rz) :=
  len_extWord _ _ _ _

theorem lf (r : Reg) (m : MemRef) : Statement (.lf r m) :=
  len_memWord _ _ _ (by decide) (fun h => absurd h (by decide))

theorem stb (r : Reg) (m : MemRef) : Statement (.stb r m) :=
  len_memWord _ _ _ (by decide) (fun h => absurd h (by decide))

theorem sth (r : Reg) (m : MemRef) : Statement (.sth r m) :=
  len_memWord _ _ _ (by decide) (fun h => absurd h (by decide))

theorem stw (r : Reg) (m : MemRef) : Statement (.stw r m) :=
  len_memWord _ _ _ (by decide) (fun h => absurd h (by decide))

theorem std (r : Reg) (m : MemRef) : Statement (.std r m) :=
  len_memWord _ _ _ (by decide) (fun h => absurd h (by decide))

theorem stmb (r : Reg) (m : MemRef) : Statement (.stmb r m) :=
  len_memWord _ _ _ (by decide) (fun h => absurd h (by decide))

theorem stmh (r : Reg) (m : MemRef) : Statement (.stmh r m) :=
  len_memWord _ _ _ (by decide) (fun h => absurd h (by decide))

theorem stmw (r : Reg) (m : MemRef) : Statement (.stmw r m) :=
  len_memWord _ _ _ (by decide) (fun h => absurd h (by decide))

theorem stmd (r : Reg) (m : MemRef) : Statement (.stmd r m) :=
  len_memWord _ _ _ (by decide) (fun h => absurd h (by decide))

theorem stf (r : Reg) (m : MemRef) : Statement (.stf r m) :=
  len_memWord _ _ _ (by decide) (fun h => absurd h (by decide))

theorem sem (rd : Reg) (rs : Reg) (rz : Reg) : Statement (.sem rd rs rz) :=
  len_extWord _ _ _ _

theorem zmb (m : MemRef) : Statement (.zmb m) :=
  len_memWord _ _ _ (by decide) (by decide)

theorem zmh (m : MemRef) : Statement (.zmh m) :=
  len_memWord _ _ _ (by decide) (by decide)

theorem zmw (m : MemRef) : Statement (.zmw m) :=
  len_memWord _ _ _ (by decide) (by decide)

theorem zmd (m : MemRef) : Statement (.zmd m) :=
  len_memWord _ _ _ (by decide) (by decide)

theorem zr (r : Reg) : Statement (.zr r) :=
  len_halfWord _ _ _ _ (by decide) (by decide)

theorem tscr (rd : Reg) (rs : Reg) : Statement (.tscr rd rs) :=
  len_halfWord _ _ _ _ (by decide) (by decide)

theorem trsc (rd : Reg) (rs : Reg) : Statement (.trsc rd rs) :=
  len_halfWord _ _ _ _ (by decide) (by decide)

theorem trr (rd : Reg) (rs : Reg) : Statement (.trr rd rs) :=
  len_halfWord _ _ _ _ (by decide) (by decide)

theorem trrm (rd : Reg) (rs : Reg) : Statement (.trrm rd rs) :=
  len_halfWord _ _ _ _ (by decide) (by decide)

theorem trn (rd : Reg) (rs : Reg) : Statement (.trn rd rs) :=
  len_halfWord _ _ _ _ (by decide) (by decide)

theorem trnm (rd : Reg) (rs : Reg) : Statement (.trnm rd rs) :=
  len_halfWord _ _ _ _ (by decide) (by decide)

theorem trc (rd : Reg) (rs : Reg) : Statement (.trc rd rs) :=
  len_halfWord _ _ _ _ (by decide) (by decide)

theorem trcm (rd : Reg) (rs : Reg) : Statement (.trcm rd rs) :=
  len_halfWord _ _ _ _ (by decide) (by decide)

theorem xcr (rd : Reg) (rs : Reg) : Statement (.xcr rd rs) :=
  len_halfWord _ _ _ _ (by decide) (by decide)

theorem xcrm (rd : Reg) (rs : Reg) : Statement (.xcrm rd rs) :=
  len_halfWord _ _ _ _ (by decide) (by decide)

theorem trp (p : BitVec 4) (r : Reg) : Statement (.trp p r) :=
  len_protWord _ _ _ (by decide)

theorem tpr (p : BitVec 4) (r : Reg) : Statement (.tpr p r) :=
  len_protWord _ _ _ (by decide)

theorem trsw (r : Reg) : Statement (.trsw r) :=
  len_halfWord _ _ _ _ (by decide) (by decide)

theorem sea : Statement .sea :=
  len_halfWord _ _ _ _ (by decide) (by decide)

theorem cea : Statement .cea :=
  len_halfWord _ _ _ _ (by decide) (by decide)

theorem lmap (r : Reg) : Statement (.lmap r) :=
  len_halfWord _ _ _ _ (by decide) (by decide)

theorem tmapr (rd : Reg) (rs : Reg) : Statement (.tmapr rd rs) :=
  len_halfWord _ _ _ _ (by decide) (by decide)

theorem wwcs (rd : Reg) (rs : Reg) : Statement (.wwcs rd rs) :=
  len_halfWord _ _ _ _ (by decide) (by decide)

theorem rwcs (rd : Reg) (rs : Reg) : Statement (.rwcs rd rs) :=
  len_halfWord _ _ _ _ (by decide) (by decide)

theorem jwcs (m : MemRef) : Statement (.jwcs m) :=
  len_memWord _ _ _ (by decide) (by decide)

theorem bu (m : MemRef) : Statement (.bu m) :=
  len_memWord _ _ _ (by decide) (fun h => absurd h (by decide))

theorem bct (d : BitVec 3) (m : MemRef) : Statement (.bct d m) :=
  len_memWord _ _ _ (by decide) (fun h => absurd h (by decide))

theorem bcf (d : BitVec 3) (m : MemRef) : Statement (.bcf d m) :=
  len_memWord _ _ _ (by decide) (fun h => absurd h (by decide))

theorem bft (m : MemRef) : Statement (.bft m) :=
  len_memWord _ _ _ (by decide) (fun h => absurd h (by decide))

theorem bl (m : MemRef) : Statement (.bl m) :=
  len_memWord _ _ _ (by decide) (by decide)

theorem bib (r : Reg) (i : Bool) (a : BitVec 20) : Statement (.bib r i a) :=
  len_memWord _ _ _ (by decide) (fun h => absurd h (by decide))

theorem bih (r : Reg) (i : Bool) (a : BitVec 20) : Statement (.bih r i a) :=
  len_memWord _ _ _ (by decide) (fun h => absurd h (by decide))

theorem biw (r : Reg) (i : Bool) (a : BitVec 20) : Statement (.biw r i a) :=
  len_memWord _ _ _ (by decide) (fun h => absurd h (by decide))

theorem bid (r : Reg) (i : Bool) (a : BitVec 20) : Statement (.bid r i a) :=
  len_memWord _ _ _ (by decide) (fun h => absurd h (by decide))

theorem camb (r : Reg) (m : MemRef) : Statement (.camb r m) :=
  len_memWord _ _ _ (by decide) (fun h => absurd h (by decide))

theorem camh (r : Reg) (m : MemRef) : Statement (.camh r m) :=
  len_memWord _ _ _ (by decide) (fun h => absurd h (by decide))

theorem camw (r : Reg) (m : MemRef) : Statement (.camw r m) :=
  len_memWord _ _ _ (by decide) (fun h => absurd h (by decide))

theorem camd (r : Reg) (m : MemRef) : Statement (.camd r m) :=
  len_memWord _ _ _ (by decide) (fun h => absurd h (by decide))

theorem car (rd : Reg) (rs : Reg) : Statement (.car rd rs) :=
  len_halfWord _ _ _ _ (by decide) (by decide)

theorem ci (r : Reg) (v : Half) : Statement (.ci r v) :=
  len_immWord _ _ _

theorem cmmb (r : Reg) (m : MemRef) : Statement (.cmmb r m) :=
  len_memWord _ _ _ (by decide) (fun h => absurd h (by decide))

theorem cmmh (r : Reg) (m : MemRef) : Statement (.cmmh r m) :=
  len_memWord _ _ _ (by decide) (fun h => absurd h (by decide))

theorem cmmw (r : Reg) (m : MemRef) : Statement (.cmmw r m) :=
  len_memWord _ _ _ (by decide) (fun h => absurd h (by decide))

theorem cmmd (r : Reg) (m : MemRef) : Statement (.cmmd r m) :=
  len_memWord _ _ _ (by decide) (fun h => absurd h (by decide))

theorem cmr (rd : Reg) (rs : Reg) : Statement (.cmr rd rs) :=
  len_halfWord _ _ _ _ (by decide) (by decide)

theorem anmb (r : Reg) (m : MemRef) : Statement (.anmb r m) :=
  len_memWord _ _ _ (by decide) (fun h => absurd h (by decide))

theorem anmh (r : Reg) (m : MemRef) : Statement (.anmh r m) :=
  len_memWord _ _ _ (by decide) (fun h => absurd h (by decide))

theorem anmw (r : Reg) (m : MemRef) : Statement (.anmw r m) :=
  len_memWord _ _ _ (by decide) (fun h => absurd h (by decide))

theorem anmd (r : Reg) (m : MemRef) : Statement (.anmd r m) :=
  len_memWord _ _ _ (by decide) (fun h => absurd h (by decide))

theorem anr (rd : Reg) (rs : Reg) : Statement (.anr rd rs) :=
  len_halfWord _ _ _ _ (by decide) (by decide)

theorem ormb (r : Reg) (m : MemRef) : Statement (.ormb r m) :=
  len_memWord _ _ _ (by decide) (fun h => absurd h (by decide))

theorem ormh (r : Reg) (m : MemRef) : Statement (.ormh r m) :=
  len_memWord _ _ _ (by decide) (fun h => absurd h (by decide))

theorem ormw (r : Reg) (m : MemRef) : Statement (.ormw r m) :=
  len_memWord _ _ _ (by decide) (fun h => absurd h (by decide))

theorem ormd (r : Reg) (m : MemRef) : Statement (.ormd r m) :=
  len_memWord _ _ _ (by decide) (fun h => absurd h (by decide))

theorem orr (rd : Reg) (rs : Reg) : Statement (.orr rd rs) :=
  len_halfWord _ _ _ _ (by decide) (by decide)

theorem orrm (rd : Reg) (rs : Reg) : Statement (.orrm rd rs) :=
  len_halfWord _ _ _ _ (by decide) (by decide)

theorem eomb (r : Reg) (m : MemRef) : Statement (.eomb r m) :=
  len_memWord _ _ _ (by decide) (fun h => absurd h (by decide))

theorem eomh (r : Reg) (m : MemRef) : Statement (.eomh r m) :=
  len_memWord _ _ _ (by decide) (fun h => absurd h (by decide))

theorem eomw (r : Reg) (m : MemRef) : Statement (.eomw r m) :=
  len_memWord _ _ _ (by decide) (fun h => absurd h (by decide))

theorem eomd (r : Reg) (m : MemRef) : Statement (.eomd r m) :=
  len_memWord _ _ _ (by decide) (fun h => absurd h (by decide))

theorem eor (rd : Reg) (rs : Reg) : Statement (.eor rd rs) :=
  len_halfWord _ _ _ _ (by decide) (by decide)

theorem eorm (rd : Reg) (rs : Reg) : Statement (.eorm rd rs) :=
  len_halfWord _ _ _ _ (by decide) (by decide)

theorem nor (r : Reg) (rc : Reg) : Statement (.nor r rc) :=
  len_halfWord _ _ _ _ (by decide) (by decide)

theorem nord (r : Reg) (rc : Reg) : Statement (.nord r rc) :=
  len_halfWord _ _ _ _ (by decide) (by decide)

theorem scz (r : Reg) (rc : Reg) : Statement (.scz r rc) :=
  len_halfWord _ _ _ _ (by decide) (by decide)

theorem sla (r : Reg) (n : BitVec 5) : Statement (.sla r n) :=
  len_shiftWord _ _ _ _ (by decide) (by decide)

theorem sll (r : Reg) (n : BitVec 5) : Statement (.sll r n) :=
  len_shiftWord _ _ _ _ (by decide) (by decide)

theorem slc (r : Reg) (n : BitVec 5) : Statement (.slc r n) :=
  len_shiftWord _ _ _ _ (by decide) (by decide)

theorem slad (r : Reg) (n : BitVec 5) : Statement (.slad r n) :=
  len_shiftWord _ _ _ _ (by decide) (by decide)

theorem slld (r : Reg) (n : BitVec 5) : Statement (.slld r n) :=
  len_shiftWord _ _ _ _ (by decide) (by decide)

theorem sra (r : Reg) (n : BitVec 5) : Statement (.sra r n) :=
  len_shiftWord _ _ _ _ (by decide) (by decide)

theorem srl (r : Reg) (n : BitVec 5) : Statement (.srl r n) :=
  len_shiftWord _ _ _ _ (by decide) (by decide)

theorem src (r : Reg) (n : BitVec 5) : Statement (.src r n) :=
  len_shiftWord _ _ _ _ (by decide) (by decide)

theorem srad (r : Reg) (n : BitVec 5) : Statement (.srad r n) :=
  len_shiftWord _ _ _ _ (by decide) (by decide)

theorem srld (r : Reg) (n : BitVec 5) : Statement (.srld r n) :=
  len_shiftWord _ _ _ _ (by decide) (by decide)

theorem sbm (b : BitVec 3) (m : MemRef) : Statement (.sbm b m) :=
  len_memWord _ _ _ (by decide) (fun h => absurd h (by decide))

theorem zbm (b : BitVec 3) (m : MemRef) : Statement (.zbm b m) :=
  len_memWord _ _ _ (by decide) (fun h => absurd h (by decide))

theorem abm (b : BitVec 3) (m : MemRef) : Statement (.abm b m) :=
  len_memWord _ _ _ (by decide) (fun h => absurd h (by decide))

theorem tbm (b : BitVec 3) (m : MemRef) : Statement (.tbm b m) :=
  len_memWord _ _ _ (by decide) (fun h => absurd h (by decide))

theorem sbr (b : BitVec 3) (r : Reg) (y : BitVec 2) : Statement (.sbr b r y) :=
  len_bitWord _ _ _ _ (by decide) (by decide)

theorem zbr (b : BitVec 3) (r : Reg) (y : BitVec 2) : Statement (.zbr b r y) :=
  len_bitWord _ _ _ _ (by decide) (by decide)

theorem abr (b : BitVec 3) (r : Reg) (y : BitVec 2) : Statement (.abr b r y) :=
  len_bitWord _ _ _ _ (by decide) (by decide)

theorem tbr (b : BitVec 3) (r : Reg) (y : BitVec 2) : Statement (.tbr b r y) :=
  len_bitWord _ _ _ _ (by decide) (by decide)

theorem admb (r : Reg) (m : MemRef) : Statement (.admb r m) :=
  len_memWord _ _ _ (by decide) (fun h => absurd h (by decide))

theorem admh (r : Reg) (m : MemRef) : Statement (.admh r m) :=
  len_memWord _ _ _ (by decide) (fun h => absurd h (by decide))

theorem admw (r : Reg) (m : MemRef) : Statement (.admw r m) :=
  len_memWord _ _ _ (by decide) (fun h => absurd h (by decide))

theorem admd (r : Reg) (m : MemRef) : Statement (.admd r m) :=
  len_memWord _ _ _ (by decide) (fun h => absurd h (by decide))

theorem adr (rd : Reg) (rs : Reg) : Statement (.adr rd rs) :=
  len_halfWord _ _ _ _ (by decide) (by decide)

theorem adrm (rd : Reg) (rs : Reg) : Statement (.adrm rd rs) :=
  len_halfWord _ _ _ _ (by decide) (by decide)

theorem adi (r : Reg) (v : Half) : Statement (.adi r v) :=
  len_immWord _ _ _

theorem armb (r : Reg) (m : MemRef) : Statement (.armb r m) :=
  len_memWord _ _ _ (by decide) (fun h => absurd h (by decide))

theorem armh (r : Reg) (m : MemRef) : Statement (.armh r m) :=
  len_memWord _ _ _ (by decide) (fun h => absurd h (by decide))

theorem armw (r : Reg) (m : MemRef) : Statement (.armw r m) :=
  len_memWord _ _ _ (by decide) (fun h => absurd h (by decide))

theorem armd (r : Reg) (m : MemRef) : Statement (.armd r m) :=
  len_memWord _ _ _ (by decide) (fun h => absurd h (by decide))

theorem sumb (r : Reg) (m : MemRef) : Statement (.sumb r m) :=
  len_memWord _ _ _ (by decide) (fun h => absurd h (by decide))

theorem sumh (r : Reg) (m : MemRef) : Statement (.sumh r m) :=
  len_memWord _ _ _ (by decide) (fun h => absurd h (by decide))

theorem sumw (r : Reg) (m : MemRef) : Statement (.sumw r m) :=
  len_memWord _ _ _ (by decide) (fun h => absurd h (by decide))

theorem sumd (r : Reg) (m : MemRef) : Statement (.sumd r m) :=
  len_memWord _ _ _ (by decide) (fun h => absurd h (by decide))

theorem sur (rd : Reg) (rs : Reg) : Statement (.sur rd rs) :=
  len_halfWord _ _ _ _ (by decide) (by decide)

theorem surm (rd : Reg) (rs : Reg) : Statement (.surm rd rs) :=
  len_halfWord _ _ _ _ (by decide) (by decide)

theorem sui (r : Reg) (v : Half) : Statement (.sui r v) :=
  len_immWord _ _ _

theorem es (r : Reg) : Statement (.es r) :=
  len_halfWord _ _ _ _ (by decide) (by decide)

theorem rnd (r : Reg) : Statement (.rnd r) :=
  len_halfWord _ _ _ _ (by decide) (by decide)

theorem mpmb (r : Reg) (m : MemRef) : Statement (.mpmb r m) :=
  len_memWord _ _ _ (by decide) (fun h => absurd h (by decide))

theorem mpmh (r : Reg) (m : MemRef) : Statement (.mpmh r m) :=
  len_memWord _ _ _ (by decide) (fun h => absurd h (by decide))

theorem mpmw (r : Reg) (m : MemRef) : Statement (.mpmw r m) :=
  len_memWord _ _ _ (by decide) (fun h => absurd h (by decide))

theorem mpr (rd : Reg) (rs : Reg) : Statement (.mpr rd rs) :=
  len_halfWord _ _ _ _ (by decide) (by decide)

theorem mpi (r : Reg) (v : Half) : Statement (.mpi r v) :=
  len_immWord _ _ _

theorem dvmb (r : Reg) (m : MemRef) : Statement (.dvmb r m) :=
  len_memWord _ _ _ (by decide) (fun h => absurd h (by decide))

theorem dvmh (r : Reg) (m : MemRef) : Statement (.dvmh r m) :=
  len_memWord _ _ _ (by decide) (fun h => absurd h (by decide))

theorem dvmw (r : Reg) (m : MemRef) : Statement (.dvmw r m) :=
  len_memWord _ _ _ (by decide) (fun h => absurd h (by decide))

theorem dvr (rd : Reg) (rs : Reg) : Statement (.dvr rd rs) :=
  len_halfWord _ _ _ _ (by decide) (by decide)

theorem dvi (r : Reg) (v : Half) : Statement (.dvi r v) :=
  len_immWord _ _ _

theorem adfw (r : Reg) (m : MemRef) : Statement (.adfw r m) :=
  len_memWord _ _ _ (by decide) (fun h => absurd h (by decide))

theorem adfd (r : Reg) (m : MemRef) : Statement (.adfd r m) :=
  len_memWord _ _ _ (by decide) (fun h => absurd h (by decide))

theorem sufw (r : Reg) (m : MemRef) : Statement (.sufw r m) :=
  len_memWord _ _ _ (by decide) (fun h => absurd h (by decide))

theorem sufd (r : Reg) (m : MemRef) : Statement (.sufd r m) :=
  len_memWord _ _ _ (by decide) (fun h => absurd h (by decide))

theorem mpfw (r : Reg) (m : MemRef) : Statement (.mpfw r m) :=
  len_memWord _ _ _ (by decide) (fun h => absurd h (by decide))

theorem mpfd (r : Reg) (m : MemRef) : Statement (.mpfd r m) :=
  len_memWord _ _ _ (by decide) (fun h => absurd h (by decide))

theorem dvfw (r : Reg) (m : MemRef) : Statement (.dvfw r m) :=
  len_memWord _ _ _ (by decide) (fun h => absurd h (by decide))

theorem dvfd (r : Reg) (m : MemRef) : Statement (.dvfd r m) :=
  len_memWord _ _ _ (by decide) (fun h => absurd h (by decide))

theorem bri (m : MemRef) : Statement (.bri m) :=
  len_memWord _ _ _ (by decide) (by decide)

theorem lpsd (m : MemRef) : Statement (.lpsd m) :=
  len_memWord _ _ _ (by decide) (by decide)

theorem lpsdcm (m : MemRef) : Statement (.lpsdcm m) :=
  len_memWord _ _ _ (by decide) (by decide)

theorem lcs (r : Reg) : Statement (.lcs r) :=
  len_halfWord _ _ _ _ (by decide) (by decide)

theorem exr (r : Reg) : Statement (.exr r) :=
  len_immWord _ _ _

theorem exrr (r : Reg) : Statement (.exrr r) :=
  len_immWord _ _ _

theorem exm (m : MemRef) : Statement (.exm m) :=
  len_memWord _ _ _ (by decide) (fun h => absurd h (by decide))

theorem halt : Statement .halt :=
  len_halfWord _ _ _ _ (by decide) (by decide)

theorem wait : Statement .wait :=
  len_halfWord _ _ _ _ (by decide) (by decide)

theorem nop : Statement .nop :=
  len_halfWord _ _ _ _ (by decide) (by decide)

theorem calm (flags : BitVec 10) : Statement (.calm flags) :=
  len_calmWord _

theorem svc (ind : BitVec 4) (call : BitVec 12) : Statement (.svc ind call) :=
  len_immWord _ _ _

theorem setcpu (r : Reg) : Statement (.setcpu r) :=
  len_halfWord _ _ _ _ (by decide) (by decide)

theorem rdsts (r : Reg) : Statement (.rdsts r) :=
  len_halfWord _ _ _ _ (by decide) (by decide)

theorem eae : Statement .eae :=
  len_halfWord _ _ _ _ (by decide) (by decide)

theorem dae : Statement .dae :=
  len_halfWord _ _ _ _ (by decide) (by decide)

theorem ei (l : Level) : Statement (.ei l) :=
  len_levelWord _ _ _

theorem di (l : Level) : Statement (.di l) :=
  len_levelWord _ _ _

theorem ri (l : Level) : Statement (.ri l) :=
  len_levelWord _ _ _

theorem ai (l : Level) : Statement (.ai l) :=
  len_levelWord _ _ _

theorem dai (l : Level) : Statement (.dai l) :=
  len_levelWord _ _ _

theorem eci (r : Reg) (k : Half) : Statement (.eci r k) :=
  len_classFWord _ _ _

theorem dci (r : Reg) (k : Half) : Statement (.dci r k) :=
  len_classFWord _ _ _

theorem aci (r : Reg) (k : Half) : Statement (.aci r k) :=
  len_classFWord _ _ _

theorem daci (r : Reg) (k : Half) : Statement (.daci r k) :=
  len_classFWord _ _ _

theorem bei : Statement .bei :=
  len_halfWord _ _ _ _ (by decide) (by decide)

theorem uei : Statement .uei :=
  len_halfWord _ _ _ _ (by decide) (by decide)

theorem cd (d : BitVec 7) (c : Half) : Statement (.cd d c) :=
  len_levelWord _ _ _

theorem td (d : BitVec 7) (c : Half) : Statement (.td d c) :=
  len_levelWord _ _ _

theorem sio (r : Reg) (k : Half) : Statement (.sio r k) :=
  len_classFWord _ _ _

theorem tio (r : Reg) (k : Half) : Statement (.tio r k) :=
  len_classFWord _ _ _

theorem stpio (r : Reg) (k : Half) : Statement (.stpio r k) :=
  len_classFWord _ _ _

theorem rschnl (r : Reg) (k : Half) : Statement (.rschnl r k) :=
  len_classFWord _ _ _

theorem hio (r : Reg) (k : Half) : Statement (.hio r k) :=
  len_classFWord _ _ _

theorem grio (r : Reg) (k : Half) : Statement (.grio r k) :=
  len_classFWord _ _ _

theorem rsctl (r : Reg) (k : Half) : Statement (.rsctl r k) :=
  len_classFWord _ _ _

theorem ecwcs (r : Reg) (k : Half) : Statement (.ecwcs r k) :=
  len_classFWord _ _ _

theorem wcwcs (r : Reg) (k : Half) : Statement (.wcwcs r k) :=
  len_classFWord _ _ _

end Sys2Proof.Laws.EncodedLength
end

