-- ==== Sys2Proof/Laws/Step.lean ====
section
/-!
SUPPORT. What a fetch answers and what a step does at a boundary, each said once.
-/

namespace Sys2Proof.Machine

/-- A fetch that meets no error answers the word at the pc, as it stands once other agents have stored. -/
theorem fetch_ok {s : State} {pa : Addr} (h : s.translate .fetch false (fetchAddr s.pc) = .ok pa)
    (hp : s.present pa .word = true) (hf : s.fetchParity = false) :
    fetch s = .ok (s.interleave.peek pa.toNat .word) (s.interleave.askHalt s.instrStopHit) := by
  have h1 : s.interleave.present pa .word = true := by rw [(interleave_spec s).1]; exact hp
  have h2 : s.interleave.fetchParity = false := by rw [(interleave_spec s).1]; exact hf
  have h3 : s.interleave.instrStopHit = s.instrStopHit := by rw [(interleave_spec s).1]; rfl
  simp [fetch, fetchNow, h, h1, h2, h3]

@[simp] theorem askHalt_false (s : State) : s.askHalt false = s := by
  simp [State.askHalt]

@[simp] theorem boundary_nil {s : State} (h : s.inputs = []) : boundary s = s := by
  simp [boundary, h]

/-- A step of a halted machine without events. -/
theorem step_halted {s : State} (h : s.inputs = []) (hr : s.run = .halt) : step s = .next s := by
  simp [step, h, hr]

/-- A step that takes an interrupt. -/
theorem step_interrupt {s : State} {l : Level} (h : s.inputs = []) (hr : s.run ≠ .halt) (hl : s.sensed = some l) :
    step s = .next (takeInterrupt l s) := by
  cases hq : s.run <;> simp_all [step]

/-- A step that runs an instruction. -/
theorem step_runs {s : State} (h : s.inputs = []) (hr : s.run = .run) (hl : s.sensed = none) :
    step s = runInstr { s with noIntNext := false } := by
  simp [step, h, hr, hl]

/-- The instruction that is run is the one decoded. -/
theorem runInstr_ok {s : State} {pa : Addr} {i : Instr} (h : s.translate .fetch false (fetchAddr s.pc) = .ok pa)
    (hp : s.present pa .word = true) (hf : s.fetchParity = false)
    (hd : decodeFetched (s.interleave.peek pa.toNat .word) (nrOf s.pc) = .ok i) :
    runInstr s = settleOutcome (exec i (s.interleave.askHalt s.instrStopHit)) := by
  simp only [runInstr, fetch_ok h hp hf, decodeAt, hd]

/-- A word that is no instruction raises Undefined Instruction. -/
theorem runInstr_undefined {s : State} {pa : Addr} {e : DecodeError}
    (h : s.translate .fetch false (fetchAddr s.pc) = .ok pa)
    (hp : s.present pa .word = true) (hf : s.fetchParity = false)
    (hd : decodeFetched (s.interleave.peek pa.toNat .word) (nrOf s.pc) = .error e) :
    runInstr s = settleOutcome (perform (lenOf (fetchImage (s.interleave.peek pa.toNat .word) (nrOf s.pc)))
      (trapNow (.undefined false)) (s.interleave.askHalt s.instrStopHit)) := by
  simp only [runInstr, fetch_ok h hp hf, decodeAt, hd]

/-- Every instruction is its effect run at its own length. -/
theorem exec_eq (i : Instr) (s : State) : exec i s = perform i.len (effectOf i) s := by
  cases i <;> rfl

end Sys2Proof.Machine
end

