-- ==== Sys2Proof/Tests/Slice0.lean ====
section
/-!
SUPPORT. The model's own tests: ill-formed terms refused, words written out from the encodings of the spec
(printed in spec/95_test_vectors.md where it prints one) decoded, one small step for each instruction, with the
values that spec/95_test_vectors.md gives, and a witness for the hypotheses of each statement.
-/

open Sys2Proof Sys2Proof.Machine

namespace Sys2Proof.Tests

/-! ### Well-formedness: one refused term for each check -/

theorem test_wf_refuses :
  [Instr.lb 1 ⟨0, false, 0x01101⟩, .lh 1 ⟨0, false, 0x01100⟩, .lw 1 ⟨0, false, 0x01102⟩, .ld 1 ⟨0, false, 0x81102⟩,
    .mpmw 2 ⟨0, false, 0x01101⟩, .adfw 2 ⟨0, false, 0x02000⟩, .adfw 2 ⟨0, false, 0x82002⟩, .sufd 2 ⟨0, false, 0x82002⟩,
    .sufd 2 ⟨0, false, 0x02000⟩, .bct 0 ⟨0, false, 0x02000⟩, .bcf 0 ⟨0, false, 0x02000⟩, .eor 3 3].all
    (fun i => i.wf == false) = true := rfl

theorem test_wf_admits :
  [Instr.lb 1 ⟨0, false, 0x81101⟩, .lh 1 ⟨0, false, 0x01103⟩, .lw 1 ⟨0, false, 0x01100⟩, .ld 1 ⟨0, false, 0x01102⟩,
    .mpmw 2 ⟨0, false, 0x01102⟩, .adfw 2 ⟨0, false, 0x82000⟩, .adfd 2 ⟨0, false, 0x82002⟩, .sufd 2 ⟨0, false, 0x02002⟩,
    .bct 1 ⟨0, false, 0x02000⟩, .bcf 7 ⟨0, false, 0x02000⟩, .eor 3 4, .zr 3].all Instr.wf = true := rfl

/-! ### Decoding: one word for each row of the table -/

theorem test_decode_load_store :
  decode 0xAC881101 = .ok (.lb 1 ⟨0, false, 0x81101⟩) ∧
  decode 0xAE000503 = .ok (.lh 4 ⟨0, false, 0x00503⟩) ∧
  decode 0xAF8027A4 = .ok (.lw 7 ⟨0, false, 0x027A4⟩) ∧
  decode 0xAF028B7A = .ok (.ld 6 ⟨0, false, 0x28B7A⟩) ∧
  decode 0xB08800A3 = .ok (.lmb 1 ⟨0, false, 0x800A3⟩) ∧
  decode 0xB28003A1 = .ok (.lmh 5 ⟨0, false, 0x003A1⟩) ∧
  decode 0xB3800FFC = .ok (.lmw 7 ⟨0, false, 0x00FFC⟩) ∧
  decode 0xB30002F2 = .ok (.lmd 6 ⟨0, false, 0x002F2⟩) ∧
  decode 0xB488D102 = .ok (.lnb 1 ⟨0, false, 0x8D102⟩) ∧
  decode 0xB6008403 = .ok (.lnh 4 ⟨0, false, 0x08403⟩) ∧
  decode 0xB68006C8 = .ok (.lnw 5 ⟨0, false, 0x006C8⟩) ∧
  decode 0xB50024A2 = .ok (.lnd 2 ⟨0, false, 0x024A2⟩) ∧
  decode 0xC880FFFB = .ok (.li 1 0xFFFB) ∧
  decode 0xD0804000 = .ok (.lea 1 ⟨0, false, 0x04000⟩) ∧
  decode 0x82B51A7C = .ok (.lear 5 ⟨1, true, 0x51A7C⟩) ∧
  decode 0x36B51A7C = .ok (.la 5 ⟨1, true, 0x51A7C⟩) ∧
  decode 0xCAB90004 = .ok (.lem 5 3 4) ∧
  decode 0xCABA0004 = .ok (.cema 5 3 4) ∧
  decode 0xCE000200 = .ok (.lf 4 ⟨0, false, 0x00200⟩) ∧
  decode 0xD4883A13 = .ok (.stb 1 ⟨0, false, 0x83A13⟩) ∧
  decode 0xD6008313 = .ok (.sth 4 ⟨0, false, 0x08313⟩) ∧
  decode 0xD7003B3C = .ok (.stw 6 ⟨0, false, 0x03B3C⟩) ∧
  decode 0xD7005C4A = .ok (.std 6 ⟨0, false, 0x05C4A⟩) ∧
  decode 0xD8081E91 = .ok (.stmb 0 ⟨0, false, 0x81E91⟩) ∧
  decode 0xDA8011AF = .ok (.stmh 5 ⟨0, false, 0x011AF⟩) ∧
  decode 0xDB00437C = .ok (.stmw 6 ⟨0, false, 0x0437C⟩) ∧
  decode 0xDB00A652 = .ok (.stmd 6 ⟨0, false, 0x0A652⟩) ∧
  decode 0xDE002100 = .ok (.stf 4 ⟨0, false, 0x02100⟩) ∧
  decode 0xCAB80004 = .ok (.sem 5 3 4) ∧
  decode 0xF808049F = .ok (.zmb ⟨0, false, 0x8049F⟩) ∧
  decode 0xF802A427 = .ok (.zmh ⟨0, false, 0x2A427⟩) ∧
  decode 0xF8005F90 = .ok (.zmw ⟨0, false, 0x05F90⟩) ∧
  decode 0xF8015D6A = .ok (.zmd ⟨0, false, 0x15D6A⟩) ∧
  decode 0x0C900000 = .ok (.zr 1) := by
  and_intros <;> rfl

theorem test_decode_register_transfer :
  decode 0x2E5F0000 = .ok (.tscr 4 5) ∧
  decode 0x2E5E0000 = .ok (.trsc 4 5) ∧
  decode 0x2CA00000 = .ok (.trr 1 2) ∧
  decode 0x2CA80000 = .ok (.trrm 1 2) ∧
  decode 0x2FE40000 = .ok (.trn 7 6) ∧
  decode 0x2FEC0000 = .ok (.trnm 7 6) ∧
  decode 0x2FE30000 = .ok (.trc 7 6) ∧
  decode 0x2FEB0000 = .ok (.trcm 7 6) ∧
  decode 0x2CA50000 = .ok (.xcr 1 2) ∧
  decode 0x2CAD0000 = .ok (.xcrm 1 2) ∧
  decode 0xFB0F0000 = .ok (.trp 0x1 7) ∧
  decode 0xFB8F0000 = .ok (.tpr 0x1 7) ∧
  decode 0x28000000 = .ok (.trsw 0) ∧
  decode 0x000D0000 = .ok .sea ∧
  decode 0x000F0000 = .ok .cea := by
  and_intros <;> rfl

theorem test_decode_memory_management :
  decode 0x2E070000 = .ok (.lmap 4) ∧
  decode 0x2E5A0000 = .ok (.tmapr 4 5) ∧
  decode 0x025C0000 = .ok (.wwcs 4 5) ∧
  decode 0x025B0000 = .ok (.rwcs 4 5) ∧
  decode 0xFA351A7C = .ok (.jwcs ⟨1, true, 0x51A7C⟩) := by
  and_intros <;> rfl

theorem test_decode_branch :
  decode 0xEC001414 = .ok (.bu ⟨0, false, 0x01414⟩) ∧
  decode 0xEC801414 = .ok (.bct 1 ⟨0, false, 0x01414⟩) ∧
  decode 0xF100214C = .ok (.bcf 2 ⟨0, false, 0x0214C⟩) ∧
  decode 0xF0002000 = .ok (.bft ⟨0, false, 0x02000⟩) ∧
  decode 0xF880A378 = .ok (.bl ⟨0, false, 0x0A378⟩) ∧
  decode 0xF401B1A8 = .ok (.bib 0 false 0x1B1A8) ∧
  decode 0xF5203948 = .ok (.bih 2 false 0x3948) ∧
  decode 0xF7404B2C = .ok (.biw 6 false 0x4B2C) ∧
  decode 0xF5E091A6 = .ok (.bid 3 false 0x91A6) := by
  and_intros <;> rfl

theorem test_decode_compare :
  decode 0x908810B5 = .ok (.camb 1 ⟨0, false, 0x810B5⟩) ∧
  decode 0x92003977 = .ok (.camh 4 ⟨0, false, 0x03977⟩) ∧
  decode 0x93005C78 = .ok (.camw 6 ⟨0, false, 0x05C78⟩) ∧
  decode 0x92027F52 = .ok (.camd 4 ⟨0, false, 0x27F52⟩) ∧
  decode 0x10100000 = .ok (.car 0 1) ∧
  decode 0xC88571A2 = .ok (.ci 1 0x71A2) ∧
  decode 0x94080917 = .ok (.cmmb 0 ⟨0, false, 0x80917⟩) ∧
  decode 0x95006293 = .ok (.cmmh 2 ⟨0, false, 0x06293⟩) ∧
  decode 0x97013C94 = .ok (.cmmw 6 ⟨0, false, 0x13C94⟩) ∧
  decode 0x970031BA = .ok (.cmmd 6 ⟨0, false, 0x031BA⟩) ∧
  decode 0x14A00000 = .ok (.cmr 1 2) := by
  and_intros <;> rfl

theorem test_decode_logical :
  decode 0x84880373 = .ok (.anmb 1 ⟨0, false, 0x80373⟩) ∧
  decode 0x870012A3 = .ok (.anmh 6 ⟨0, false, 0x012A3⟩) ∧
  decode 0x87800FD0 = .ok (.anmw 7 ⟨0, false, 0x00FD0⟩) ∧
  decode 0x8600081A = .ok (.anmd 4 ⟨0, false, 0x0081A⟩) ∧
  decode 0x04F00000 = .ok (.anr 1 7) ∧
  decode 0x888808A3 = .ok (.ormb 1 ⟨0, false, 0x808A3⟩) ∧
  decode 0x8B001945 = .ok (.ormh 6 ⟨0, false, 0x01945⟩) ∧
  decode 0x8980520C = .ok (.ormw 3 ⟨0, false, 0x0520C⟩) ∧
  decode 0x8B000C32 = .ok (.ormd 6 ⟨0, false, 0x00C32⟩) ∧
  decode 0x08A00000 = .ok (.orr 1 2) ∧
  decode 0x0B580000 = .ok (.orrm 6 5) ∧
  decode 0x8C0813A1 = .ok (.eomb 0 ⟨0, false, 0x813A1⟩) ∧
  decode 0x8E800A41 = .ok (.eomh 5 ⟨0, false, 0x00A41⟩) ∧
  decode 0x8F818694 = .ok (.eomw 7 ⟨0, false, 0x18694⟩) ∧
  decode 0x8F00053A = .ok (.eomd 6 ⟨0, false, 0x0053A⟩) ∧
  decode 0x0FE00000 = .ok (.eor 7 6) ∧
  decode 0x0FE80000 = .ok (.eorm 7 6) := by
  and_intros <;> rfl

theorem test_decode_shift :
  decode 0x63100000 = .ok (.nor 6 1) ∧
  decode 0x67100000 = .ok (.nord 6 1) ∧
  decode 0x6A200000 = .ok (.scz 4 2) ∧
  decode 0x6F4C0000 = .ok (.sla 6 12) ∧
  decode 0x73D40000 = .ok (.sll 7 20) ∧
  decode 0x77D00000 = .ok (.slc 7 16) ∧
  decode 0x7A580000 = .ok (.slad 4 24) ∧
  decode 0x7F580000 = .ok (.slld 6 24) ∧
  decode 0x6E0A0000 = .ok (.sra 4 10) ∧
  decode 0x720A0000 = .ok (.srl 4 10) ∧
  decode 0x760C0000 = .ok (.src 4 12) ∧
  decode 0x7B180000 = .ok (.srad 6 24) ∧
  decode 0x7F180000 = .ok (.srld 6 24) := by
  and_intros <;> rfl

theorem test_decode_bit :
  decode 0x98881403 = .ok (.sbm 1 ⟨0, false, 0x81403⟩) ∧
  decode 0x9E8A0122 = .ok (.zbm 5 ⟨0, false, 0xA0122⟩) ∧
  decode 0xA2083192 = .ok (.abm 4 ⟨0, false, 0x83192⟩) ∧
  decode 0xA6085B21 = .ok (.tbm 4 ⟨0, false, 0x85B21⟩) ∧
  decode 0x1B820000 = .ok (.sbr 7 0 2) ∧
  decode 0x1C510000 = .ok (.zbr 0 5 1) ∧
  decode 0x21610000 = .ok (.abr 2 6 1) ∧
  decode 0x25D30000 = .ok (.tbr 3 5 3) := by
  and_intros <;> rfl

theorem test_decode_add_subtract :
  decode 0xBA080915 = .ok (.admb 4 ⟨0, false, 0x80915⟩) ∧
  decode 0xBB841097 = .ok (.admh 7 ⟨0, false, 0x41097⟩) ∧
  decode 0xBB0011AC = .ok (.admw 6 ⟨0, false, 0x011AC⟩) ∧
  decode 0xBA009252 = .ok (.admd 4 ⟨0, false, 0x09252⟩) ∧
  decode 0x3B700000 = .ok (.adr 6 7) ∧
  decode 0x3B780000 = .ok (.adrm 6 7) ∧
  decode 0xC80186B2 = .ok (.adi 0 0x86B2) ∧
  decode 0xEB081A97 = .ok (.armb 6 ⟨0, false, 0x81A97⟩) ∧
  decode 0xEA820919 = .ok (.armh 5 ⟨0, false, 0x20919⟩) ∧
  decode 0xEB803100 = .ok (.armw 7 ⟨0, false, 0x03100⟩) ∧
  decode 0xEB0083AA = .ok (.armd 6 ⟨0, false, 0x083AA⟩) ∧
  decode 0xBC881201 = .ok (.sumb 1 ⟨0, false, 0x81201⟩) ∧
  decode 0xBF001877 = .ok (.sumh 6 ⟨0, false, 0x01877⟩) ∧
  decode 0xBC86F914 = .ok (.sumw 1 ⟨0, false, 0x6F914⟩) ∧
  decode 0xBF003102 = .ok (.sumd 6 ⟨0, false, 0x03102⟩) ∧
  decode 0x3CA00000 = .ok (.sur 1 2) ∧
  decode 0x3F580000 = .ok (.surm 6 5) ∧
  decode 0xCB82839A = .ok (.sui 7 0x839A) ∧
  decode 0x00840000 = .ok (.es 1) ∧
  decode 0x03050000 = .ok (.rnd 6) := by
  and_intros <;> rfl

theorem test_decode_multiply_divide :
  decode 0xC00AC3D9 = .ok (.mpmb 0 ⟨0, false, 0xAC3D9⟩) ∧
  decode 0xC1009B57 = .ok (.mpmh 2 ⟨0, false, 0x09B57⟩) ∧
  decode 0xC3004B1C = .ok (.mpmw 6 ⟨0, false, 0x04B1C⟩) ∧
  decode 0x40100000 = .ok (.mpr 0 1) ∧
  decode 0xCB030100 = .ok (.mpi 6 0x100) ∧
  decode 0xC40830BF = .ok (.dvmb 0 ⟨0, false, 0x830BF⟩) ∧
  decode 0xC7005D6B = .ok (.dvmh 6 ⟨0, false, 0x05D6B⟩) ∧
  decode 0xC6007B5C = .ok (.dvmw 4 ⟨0, false, 0x07B5C⟩) ∧
  decode 0x47200000 = .ok (.dvr 6 2) ∧
  decode 0xC904FFFD = .ok (.dvi 2 0xFFFD) := by
  and_intros <;> rfl

theorem test_decode_float :
  decode 0xE2BD1A7C = .ok (.adfw 5 ⟨1, true, 0xD1A7C⟩) ∧
  decode 0xE2BD1A7E = .ok (.adfd 5 ⟨1, true, 0xD1A7E⟩) ∧
  decode 0xE2B51A7C = .ok (.sufw 5 ⟨1, true, 0x51A7C⟩) ∧
  decode 0xE2B51A7E = .ok (.sufd 5 ⟨1, true, 0x51A7E⟩) ∧
  decode 0xE6BD1A7C = .ok (.mpfw 5 ⟨1, true, 0xD1A7C⟩) ∧
  decode 0xE6BD1A7E = .ok (.mpfd 5 ⟨1, true, 0xD1A7E⟩) ∧
  decode 0xE6B51A7C = .ok (.dvfw 5 ⟨1, true, 0x51A7C⟩) ∧
  decode 0xE6B51A7E = .ok (.dvfd 5 ⟨1, true, 0x51A7E⟩) := by
  and_intros <;> rfl

theorem test_decode_control :
  decode 0xF91001A0 = .ok (.bri ⟨0, true, 0x001A0⟩) ∧
  decode 0xF9800800 = .ok (.lpsd ⟨0, false, 0x00800⟩) ∧
  decode 0xFAB51A7C = .ok (.lpsdcm ⟨1, true, 0x51A7C⟩) ∧
  decode 0x03830000 = .ok (.lcs 7) ∧
  decode 0xC9070000 = .ok (.exr 2) ∧
  decode 0xC9070002 = .ok (.exrr 2) ∧
  decode 0xA8002002 = .ok (.exm ⟨0, false, 0x02002⟩) ∧
  decode 0x00000000 = .ok .halt ∧
  decode 0x00010000 = .ok .wait ∧
  decode 0x00020000 = .ok .nop ∧
  decode 0x30000000 = .ok (.calm 0x0) ∧
  decode 0xC8062123 = .ok (.svc 0x2 0x123) ∧
  decode 0x2C190000 = .ok (.setcpu 1) ∧
  decode 0x01090000 = .ok (.rdsts 2) ∧
  decode 0x00080000 = .ok .eae ∧
  decode 0x000E0000 = .ok .dae := by
  and_intros <;> rfl

theorem test_decode_interrupt :
  decode 0xFD400000 = .ok (.ei 0x28) ∧
  decode 0xFD410000 = .ok (.di 0x28) ∧
  decode 0xFD520000 = .ok (.ri 0x2A) ∧
  decode 0xFD530000 = .ok (.ai 0x2A) ∧
  decode 0xFD440000 = .ok (.dai 0x28) ∧
  decode 0xFC670800 = .ok (.eci 0 0x800) ∧
  decode 0xFC6F0800 = .ok (.dci 0 0x800) ∧
  decode 0xFC770800 = .ok (.aci 0 0x800) ∧
  decode 0xFC7F0800 = .ok (.daci 0 0x800) ∧
  decode 0x00060000 = .ok .bei ∧
  decode 0x00070000 = .ok .uei := by
  and_intros <;> rfl

theorem test_decode_input_output :
  decode 0xFFD68000 = .ok (.cd 0x7A 0x8000) ∧
  decode 0xFC858000 = .ok (.td 0x10 0x8000) ∧
  decode 0xFC170800 = .ok (.sio 0 0x800) ∧
  decode 0xFC1F0800 = .ok (.tio 0 0x800) ∧
  decode 0xFC270801 = .ok (.stpio 0 0x801) ∧
  decode 0xFC2F0800 = .ok (.rschnl 0 0x800) ∧
  decode 0xFC370800 = .ok (.hio 0 0x800) ∧
  decode 0xFC3F0802 = .ok (.grio 0 0x802) ∧
  decode 0xFC470801 = .ok (.rsctl 0 0x801) ∧
  decode 0xFC4F0800 = .ok (.ecwcs 0 0x800) ∧
  decode 0xFC5F0800 = .ok (.wcwcs 0 0x800) := by
  and_intros <;> rfl


theorem test_decode_refuses :
  decode 0x48000000 = .error .unassignedOperation ∧
  decode 0x000A0000 = .error .unassignedAugment ∧
  decode 0xC80B0000 = .error .unassignedAugment ∧
  decode 0xFC070000 = .error .unassignedSubOperation ∧
  decodeFetched 0x0002AC00 true = .error .wordInRightHalf := by
  and_intros <;> rfl

/-! ### One step of each instruction -/

/-- A state to build on: running in PSW mode, not privileged, everything else as at reset. -/
def base : State := { State.reset with run := .run, mode := .psw, priv := false }

/-- One step of a state built by the setters, left to right; does what it leaves meet the test. -/
def run1 (l : List (State → State)) (q : State → Bool) : Bool :=
  match step (l.foldl (fun s f => f s) base) with
  | .next t => q t
  | .fault _ => false
  | .refused _ => false

/-- Word 1 of the program status as the vectors write it, HIST left out. -/
def status (s : State) : Word := s.storedPsd1 &&& 0xFDFFFFFF

/-- The program status of a vector: PRIV, the condition codes, EXT, AEXP and the pc. -/
def psw (v : Word) (s : State) : State :=
  { s with priv := bitAt v 0, cc := ccOf v, ext := bitAt v 5, aexp := bitAt v 7, pc := bits v 13 18 }
/-- PSD mode. -/
def psd (s : State) : State := ({ s with mode := .psd }).setStat 1
/-- A word, a halfword, a byte of memory; a register; a protect register; a MAP register; a scratchpad cell. -/
def w (a : Nat) (v : Word) (s : State) : State := s.poke a .word v
def h (a : Nat) (v : Word) (s : State) : State := s.poke a .half v
def b (a : Nat) (v : Word) (s : State) : State := s.poke a .byte v
def r (n : Reg) (v : Word) (s : State) : State := s.setReg n v
def p (n : BitVec 4) (v : Half) (s : State) : State := s.setProtReg n v
def mp (n : BitVec 5) (v : Half) (s : State) : State := s.setMapReg n v
def cell (n : BitVec 8) (v : Word) (s : State) : State := s.setCell n v
/-- A Class F channel 8 on level 0x16. -/
def chan8 (s : State) : State := { s with dev := s.dev.set 8 (some ⟨0, 0xF, 0x16, 1, 0⟩) }
/-- The channel's next answer. -/
def answer (a : ChanAnswer) (pa : Addr) (s : State) : State := { s with chanReplies := [some ⟨a, pa⟩] }
/-- RTOM board 1 behind level 0x28. -/
def rtom (s : State) : State := { s with int := s.int.set 0x28 (some ⟨1, 6⟩) }

theorem test_lb :
  run1 [w 0x1000 0xAC881101, psw 0x1000, b 0x1101 0xB6, r 1 0x517CD092] (fun t => decide (
        t.reg 1 = 0xB6 ∧ status t = 0x20001004)) = true := rfl

theorem test_lh :
  run1 [w 0x408 0xAE000503, psw 0x10000408, h 0x502 0x930C, r 4 0x5C00D34A] (fun t => decide (
        t.reg 4 = 0xFFFF930C ∧ status t = 0x1000040C)) = true := rfl

theorem test_lw :
  run1 [w 0x2390 0xAF8027A4, psw 0x2390, w 0x27A4 0x4D61A28C, r 7 0x56879A] (fun t => decide (
        t.reg 7 = 0x4D61A28C ∧ status t = 0x20002394)) = true := rfl

theorem test_ld :
  run1 [w 0x281C4 0xAF028B7A, psw 0x400281C4, w 0x28B78 0xF05B169A, w 0x28B7C 0x137F8CA2] (fun t => decide (
        t.reg 6 = 0xF05B169A ∧ t.reg 7 = 0x137F8CA2 ∧ status t = 0x100281C8)) = true := rfl

theorem test_lmb :
  run1 [w 0x900 0xB08800A3, psw 0x900, b 0xA3 0x29, r 4 0xF0, r 1 0xAA3689B0] (fun t => decide (
        t.reg 1 = 0x20 ∧ status t = 0x20000904)) = true := rfl

theorem test_lmh :
  run1 [w 0x300 0xB28003A1, psw 0x8000300, h 0x3A0 0xA58D, r 4 0xFF00FF0, r 5 0xC427B319] (fun t => decide (
        t.reg 5 = 0xFF00580 ∧ status t = 0x20000304)) = true := rfl

theorem test_lmw :
  run1 [w 0xF00 0xB3800FFC, psw 0xF00, w 0xFFC 0x8923F8E8, r 4 0xFF00007C, r 7 0x12345678] (fun t => decide (
        t.reg 7 = 0x89000068 ∧ status t = 0x10000F04)) = true := rfl

theorem test_lmd :
  run1 [w 0x200 0xB30002F2, psw 0x200, r 4 0x3F3F3F3F, w 0x2F0 0xAE69D10C,
      w 0x2F4 0x63B208F0] (fun t => decide (
        t.reg 6 = 0x2E29110C ∧ t.reg 7 = 0x23320830 ∧ status t = 0x20000204)) = true := rfl

theorem test_lnb :
  run1 [w 0xD000 0xB488D102, psw 0xD000, b 0xD102 0x3A] (fun t => decide (
        t.reg 1 = 0xFFFFFFC6 ∧ status t = 0x1000D004)) = true := rfl

theorem test_lnh :
  run1 [w 0x8000 0xB6008403, psw 0x40008000, h 0x8402 0x960C, r 4 0x12345678] (fun t => decide (
        t.reg 4 = 0x69F4 ∧ status t = 0x20008004)) = true := rfl

theorem test_lnw :
  run1 [w 0x500 0xB68006C8, psw 0x8000500, w 0x6C8 0x185E0D76] (fun t => decide (
        t.reg 5 = 0xE7A1F28A ∧ status t = 0x10000504)) = true := rfl

theorem test_lnd :
  run1 [w 0x2344 0xB50024A2, psw 0x2344, w 0x24A0 0x0, w 0x24A4 0x1] (fun t => decide (
        t.reg 2 = 0xFFFFFFFF ∧ t.reg 3 = 0xFFFFFFFF ∧ status t = 0x10002348)) = true := rfl

theorem test_li :
  run1 [w 0x630C 0xC880FFFB, psw 0x630C, r 1 0x12345678] (fun t => decide (
        t.reg 1 = 0xFFFFFFFB ∧ status t = 0x10006310)) = true := rfl

theorem test_lea :
  run1 [w 0x1000 0xD0804000, psw 0x8001000, r 1 0x0] (fun t => decide (
        t.reg 1 = 0xD0804000 ∧ status t = 0x8001004)) = true := rfl

theorem test_lear :
  run1 [psw 0x80001000, w 0x1000 0x80810004, w 0x2000 0x80FF7F01, w 0x2004 0x0, w 0x2008 0x80000000,
      w 0x200C 0x1, psd, mp 0 0x8000, (fun s => { s with mapActive := true }), mp 2 0x8012] (fun t => decide (
        t.reg 1 = 0x90004)) = true := rfl

theorem test_la :
  run1 [psw 0x1000, w 0x1000 0x34C02000, w 0x2000 0x80FF7F01, w 0x2004 0x0, w 0x2008 0x80000000, w 0x200C 0x1,
      psd, r 2 0x10, r 1 0xFFFFFFFF] (fun t => decide (
        t.reg 1 = 0x2010)) = true := rfl

theorem test_lem :
  run1 [psw 0x80000800, psd, (fun s => { s with psdTrapEn := true }), w 0x198 0x600, w 0x608 0x80000A00,
      w 0x60C 0x0, w 0x800 0xFA800900, w 0x900 0x8000, w 0x904 0x4000000C, w 0x100C 0x2001100,
      w 0x1100 0x2001200, w 0x1104 0x1001210, w 0x1200 0x8010C011, w 0x1210 0x80120000, w 0x88000 0xAC810004,
      w 0x88004 0xD4800100, w 0x88008 0xD4808100, w 0x90004 0xCAFE0001, cell 0xF3 0x1000, w 0x800 0xC8A90003,
      r 2 0x900, r 3 0x10004, (·.setCC ⟨true, false, false, false⟩)] (fun t => decide (
        t.reg 1 = 0xCAFE0001 ∧ t.cc = ⟨true, false, true, false⟩)) = true := rfl

theorem test_cema :
  run1 [psw 0x80000800, psd, (fun s => { s with psdTrapEn := true }), w 0x198 0x600, w 0x608 0x80000A00,
      w 0x60C 0x0, w 0x800 0xFA800900, w 0x900 0x8000, w 0x904 0x4000000C, w 0x100C 0x2001100,
      w 0x1100 0x2001200, w 0x1104 0x1001210, w 0x1200 0x8010C011, w 0x1210 0x80120000, w 0x88000 0xAC810004,
      w 0x88004 0xD4800100, w 0x88008 0xD4808100, w 0x90004 0xCAFE0001, cell 0xF3 0x1000, w 0x800 0xC8AA0003,
      r 2 0x900, r 3 0x10004, (·.setCC ⟨true, true, true, true⟩)] (fun t => decide (
        t.reg 1 = 0x90004 ∧ t.mapReg 0 = 0x0 ∧ t.mapReg 1 = 0x0 ∧ t.mapReg 2 = 0x0 ∧
        t.cc = ⟨true, true, true, true⟩)) = true := rfl

theorem test_lf :
  run1 [w 0x300 0xCE000200, psw 0x8000300, w 0x200 0x1, w 0x204 0x2, w 0x208 0x3,
      w 0x20C 0x4] (fun t => decide (
        t.reg 4 = 0x1 ∧ t.reg 5 = 0x2 ∧ t.reg 6 = 0x3 ∧ t.reg 7 = 0x4 ∧ status t = 0x8000304)) = true := rfl

theorem test_stb :
  run1 [w 0x3708 0xD4883A13, psw 0x10003708, r 1 0x1020304] (fun t => decide (
        t.byte 0x3A13 = 0x4 ∧ status t = 0x1000370C)) = true := rfl

theorem test_sth :
  run1 [w 0x82A4 0xD6008313, psw 0x82A4, r 4 0x1020304, h 0x8312 0xA49C] (fun t => decide (
        t.peek 0x8312 .half = 0x304 ∧ status t = 0x82A8)) = true := rfl

theorem test_stw :
  run1 [w 0x3904 0xD7003B3C, psw 0x10003904, r 6 0x485A276, w 0x3B3C 0x0] (fun t => decide (
        t.peek 0x3B3C .word = 0x485A276 ∧ status t = 0x10003908)) = true := rfl

theorem test_std :
  run1 [w 0x596C 0xD7005C4A, psw 0x2000596C, r 6 0xE24675C2, r 7 0x5923F8E8] (fun t => decide (
        t.peek 0x5C48 .word = 0xE24675C2 ∧ t.peek 0x5C4C .word = 0x5923F8E8 ∧ status t = 0x20005970)) = true := rfl

theorem test_stmb :
  run1 [w 0x1D80 0xD8081E91, psw 0x10001D80, r 0 0xAC089417, r 4 0xFFFC] (fun t => decide (
        t.byte 0x1E91 = 0x14 ∧ status t = 0x10001D84)) = true := rfl

theorem test_stmh :
  run1 [w 0x1000 0xDA8011AF, psw 0x20001000, r 4 0x3FFC, r 5 0x716A58AB] (fun t => decide (
        t.peek 0x11AE .half = 0x18A8 ∧ status t = 0x20001004)) = true := rfl

theorem test_stmw :
  run1 [w 0x4000 0xDB00437C, psw 0x8004000, r 4 0xFF00FF, r 6 0x718C3594] (fun t => decide (
        t.peek 0x437C .word = 0x8C0094 ∧ status t = 0x8004004)) = true := rfl

theorem test_stmd :
  run1 [w 0xA498 0xDB00A652, psw 0x1000A498, r 4 0x7FFFC, r 6 0xAC88A819, r 7 0x988B1407] (fun t => decide (
        t.peek 0xA650 .word = 0xA818 ∧ t.peek 0xA654 .word = 0x31404 ∧ status t = 0x1000A49C)) = true := rfl

theorem test_stf :
  run1 [w 0x2000 0xDE002100, psw 0x40002000, r 4 0x11111111, r 5 0x22222222, r 6 0x33333333,
      r 7 0x44444444] (fun t => decide (
        status t = 0x40002004 ∧ t.peek 0x2100 .word = 0x11111111 ∧ t.peek 0x2104 .word = 0x22222222 ∧
        t.peek 0x2108 .word = 0x33333333 ∧ t.peek 0x210C .word = 0x44444444)) = true := rfl

theorem test_sem :
  run1 [psw 0x80000800, psd, (fun s => { s with psdTrapEn := true }), w 0x198 0x600, w 0x608 0x80000A00,
      w 0x60C 0x0, w 0x800 0xFA800900, w 0x900 0x8000, w 0x904 0x4000000C, w 0x100C 0x2001100,
      w 0x1100 0x2001200, w 0x1104 0x1001210, w 0x1200 0x8010C011, w 0x1210 0x80120000, w 0x88000 0xAC810004,
      w 0x88004 0xD4800100, w 0x88008 0xD4808100, w 0x90004 0xCAFE0001, cell 0xF3 0x1000, w 0x800 0xC8A80003,
      r 2 0x900, r 1 0x12345678, r 3 0x8100] (fun t => decide (
        t.peek 0x88100 .word = 0x12345678)) = true := rfl

theorem test_zmb :
  run1 [w 0x308 0xF808049F, psw 0x10000308, b 0x49F 0x55] (fun t => decide (
        status t = 0x1000030C ∧ t.byte 0x49F = 0x0)) = true := rfl

theorem test_zmh :
  run1 [w 0x2895C 0xF802A427, psw 0x802895C, h 0x2A426 0x9AE3] (fun t => decide (
        t.peek 0x2A426 .half = 0x0 ∧ status t = 0x8028960)) = true := rfl

theorem test_zmw :
  run1 [w 0x5A14 0xF8005F90, psw 0x5A14, w 0x5F90 0x12345678] (fun t => decide (
        t.peek 0x5F90 .word = 0x0 ∧ status t = 0x5A18)) = true := rfl

theorem test_zmd :
  run1 [w 0x15B3C 0xF8015D6A, psw 0x10015B3C, w 0x15D68 0x617E853C, w 0x15D6C 0xA2976283] (fun t => decide (
        status t = 0x10015B40 ∧ t.peek 0x15D68 .word = 0x0 ∧ t.peek 0x15D6C .word = 0x0)) = true := rfl

theorem test_zr :
  run1 [h 0x309A6 0xC90, psw 0x100309A6, r 1 0x8495A6B7] (fun t => decide (
        t.reg 1 = 0x0 ∧ status t = 0x80309A8)) = true := rfl

theorem test_tscr :
  run1 [psw 0x80001000, h 0x1000 0x2D1F, r 1 0x910000, (·.setStat 0x1)] (fun t => decide (
        t.reg 2 = 0x1 ∧ t.stat = 0x1)) = true := rfl

theorem test_trsc :
  run1 [psw 0x80001000, h 0x1000 0x2D1E, r 1 0x1000, r 2 0xF30000] (fun t => decide (
        t.cell 0xF3 = 0x1000)) = true := rfl

theorem test_trr :
  run1 [h 0x206 0x2CA0, psw 0x206, r 2 0x803AB, r 1 0x0] (fun t => decide (
        t.reg 1 = 0x803AB ∧ status t = 0x20000208)) = true := rfl

theorem test_trrm :
  run1 [h 0x206 0x2CA8, psw 0x206, r 2 0x803AB, r 4 0x7FFFD] (fun t => decide (
        t.reg 1 = 0x3A9 ∧ status t = 0x20000208)) = true := rfl

theorem test_trn :
  run1 [h 0xAAE 0x2FE4, psw 0xAAE, r 6 0xFFF, r 7 0x12345678] (fun t => decide (
        t.reg 7 = 0xFFFFF001 ∧ status t = 0x10000AB0)) = true := rfl

theorem test_trnm :
  run1 [h 0xAAE 0x2FEC, psw 0xAAE, r 4 0x7FFFFFFF, r 6 0xFFF] (fun t => decide (
        t.reg 7 = 0x7FFFF001 ∧ status t = 0x20000AB0)) = true := rfl

theorem test_trc :
  run1 [h 0x100A 0x2FE3, psw 0x800100A, r 6 0x55555555] (fun t => decide (
        t.reg 7 = 0xAAAAAAAA ∧ status t = 0x1000100C)) = true := rfl

theorem test_trcm :
  run1 [h 0x100A 0x2FEB, psw 0x800100A, r 4 0xFFFF00, r 6 0x55555555] (fun t => decide (
        t.reg 7 = 0xAAAA00 ∧ status t = 0x2000100C)) = true := rfl

theorem test_xcr :
  run1 [h 0x2002 0x2CA5, psw 0x40002002, r 1 0x0, r 2 0xAC8823C1] (fun t => decide (
        t.reg 1 = 0xAC8823C1 ∧ t.reg 2 = 0x0 ∧ status t = 0x8002004)) = true := rfl

theorem test_xcrm :
  run1 [h 0x2002 0x2CAD, psw 0x40002002, r 1 0x6B000000, r 2 0xAC8823C1, r 4 0xFFFFF] (fun t => decide (
        t.reg 1 = 0x823C1 ∧ t.reg 2 = 0x0 ∧ status t = 0x8002004)) = true := rfl

theorem test_trp :
  run1 [psw 0x80001000, h 0x1000 0xFB0F, r 7 0x1234FFFE,
      (·.setCC ⟨true, false, true, false⟩)] (fun t => decide (
        t.protReg 1 = 0xFFFE ∧ t.cc = ⟨true, false, true, false⟩)) = true := rfl

theorem test_tpr :
  run1 [psw 0x1000, h 0x1000 0xFB8F, p 1 0xFFFE, r 7 0xFFFFFFFF] (fun t => decide (
        t.reg 7 = 0xFFFE)) = true := rfl

theorem test_trsw :
  run1 [h 0x69E 0x2800, psw 0x6000069E, r 0 0xA0000B4C] (fun t => decide (
        status t = 0x20000B4C)) = true := rfl

theorem test_sea :
  run1 [psw 0x1000, h 0x1000 0xD] (fun t => decide (
        status t = 0x4001002)) = true := rfl

theorem test_cea :
  run1 [psw 0x4001002, h 0x1002 0xF] (fun t => decide (
        status t = 0x1004)) = true := rfl

theorem test_lmap :
  run1 [psw 0x80000800, psd, (fun s => { s with psdTrapEn := true }), w 0x198 0x600, w 0x608 0x80000A00,
      w 0x60C 0x0, h 0x800 0x2D07, w 0x900 0x8000, w 0x904 0x4000000C, w 0x100C 0x2001100, w 0x1100 0x2001200,
      w 0x1104 0x1001210, w 0x1200 0x8010C011, w 0x1210 0x80120000, w 0x88000 0xAC810004, w 0x88004 0xD4800100,
      w 0x88008 0xD4808100, w 0x90004 0xCAFE0001, cell 0xF3 0x1000, r 2 0x900] (fun t => decide (
        t.mapReg 0 = 0x8010 ∧ t.mapReg 1 = 0xC011 ∧ t.mapReg 2 = 0x8012 ∧ t.storedPsd2 = 0x0 ∧ t.pc = 0x401)) = true := rfl

theorem test_tmapr :
  run1 [psw 0x80001000, h 0x1000 0x2D1A, psd, r 1 0x2, mp 2 0x8012] (fun t => decide (
        t.reg 2 = 0x80120000)) = true := rfl

theorem test_wwcs :
  run1 [psw 0x80001000, h 0x1000 0x11C, r 2 0x10, r 1 0x2000, w 0x2000 0x11111111, w 0x2004 0x22222222,
      (·.setCC ⟨true, true, true, true⟩)] (fun t => decide (
        t.cc = ⟨false, false, false, false⟩ ∧ t.wcsAt 0x10 = 0x1111111122222222)) = true := rfl

theorem test_rwcs :
  run1 [psw 0x80001000, h 0x1000 0xAB, r 2 0x10, r 1 0x3000,
      (fun s => { s with wcs := [(0x10,0x1111111122222222)] })] (fun t => decide (
        t.peek 0x3000 .word = 0x11111111 ∧ t.peek 0x3004 .word = 0x22222222 ∧
        t.cc = ⟨false, false, false, false⟩)) = true := rfl

theorem test_jwcs :
  run1 [psw 0x1000, w 0x1000 0xFA000047] (fun t => decide (
        t.pc = 0x802 ∧ t.sent = [.wcs 7])) = true := rfl

theorem test_bu :
  run1 [w 0x1000 0xEC001414, psw 0x20001000] (fun t => decide (
        status t = 0x20001414)) = true := rfl

theorem test_bct :
  run1 [w 0x1000 0xEC801414, psw 0x50001000] (fun t => decide (
        status t = 0x50001414)) = true := rfl

theorem test_bcf :
  run1 [w 0x2094 0xF100214C, psw 0x10002094] (fun t => decide (
        status t = 0x1000214C)) = true := rfl

theorem test_bft :
  run1 [w 0x1000 0xF0002000, psw 0x70001000, r 4 0x2] (fun t => decide (
        status t = 0x70002000)) = true := rfl

theorem test_bl :
  run1 [w 0x894C 0xF880A378, psw 0x1000894C, r 0 0x12345678] (fun t => decide (
        t.reg 0 = 0x10008950 ∧ status t = 0x1000A378)) = true := rfl

theorem test_bib :
  run1 [w 0x1B204 0xF401B1A8, psw 0x2001B204, r 0 0xFFFFFFFF] (fun t => decide (
        t.reg 0 = 0x0 ∧ status t = 0x2001B208)) = true := rfl

theorem test_bih :
  run1 [w 0x39A0 0xF5203948, psw 0x100039A0, r 2 0xFFFFD72A] (fun t => decide (
        t.reg 2 = 0xFFFFD72C ∧ status t = 0x10003948)) = true := rfl

theorem test_biw :
  run1 [w 0x4A38 0xF7404B2C, psw 0x60004A38, r 6 0xFFFFDC18] (fun t => decide (
        t.reg 6 = 0xFFFFDC1C ∧ status t = 0x60004B2C)) = true := rfl

theorem test_bid :
  run1 [w 0x930C 0xF5E091A6, psw 0x800930C, r 3 0xFFFFFFF8] (fun t => decide (
        t.reg 3 = 0x0 ∧ status t = 0x8009310)) = true := rfl

theorem test_camb :
  run1 [w 0x1000 0x908810B5, psw 0x8001000, r 1 0xB6, b 0x10B5 0xC7] (fun t => decide (
        status t = 0x10001004)) = true := rfl

theorem test_camh :
  run1 [w 0x379C 0x92003977, psw 0x800379C, r 4 0x8540, h 0x3976 0x8640] (fun t => decide (
        status t = 0x200037A0)) = true := rfl

theorem test_camw :
  run1 [w 0x5B20 0x93005C78, psw 0x40005B20, r 6 0x9E03B651, w 0x5C78 0xA184F207] (fun t => decide (
        status t = 0x10005B24)) = true := rfl

theorem test_camd :
  run1 [w 0x27C14 0x92027F52, psw 0x20027C14, r 4 0x7AE0156D, r 5 0x47B39208, w 0x27F50 0x7AE0156D,
      w 0x27F54 0x47B39208] (fun t => decide (
        status t = 0x8027C18)) = true := rfl

theorem test_car :
  run1 [h 0xB3C2 0x1010, psw 0x800B3C2, r 0 0x58DF620A, r 1 0x6A92B730] (fun t => decide (
        status t = 0x1000B3C4)) = true := rfl

theorem test_ci :
  run1 [w 0xA794 0xC88571A2, psw 0x4000A794, r 1 0x5719] (fun t => decide (
        status t = 0x1000A798)) = true := rfl

theorem test_cmmb :
  run1 [w 0x800 0x94080917, psw 0x10000800, r 0 0xA1, r 4 0xF0, b 0x917 0xA9] (fun t => decide (
        status t = 0x8000804)) = true := rfl

theorem test_cmmh :
  run1 [w 0x61B8 0x95006293, psw 0x100061B8, r 2 0x9A043B6, r 4 0x4284, h 0x6292 0x46FC] (fun t => decide (
        status t = 0x80061BC)) = true := rfl

theorem test_cmmw :
  run1 [w 0x13A74 0x97013C94, psw 0x8013A74, r 6 0x472A3D04, r 4 0xFFFF00,
      w 0x13C94 0x132A1C04] (fun t => decide (
        status t = 0x13A78)) = true := rfl

theorem test_cmmd :
  run1 [w 0x3000 0x970031BA, psw 0x10003000, r 4 0xFFFFF, r 6 0xFFF3791B, r 7 0x890A45D6, w 0x31B8 0x3791B,
      w 0x31BC 0x890A45C2] (fun t => decide (
        status t = 0x3004)) = true := rfl

theorem test_cmr :
  run1 [h 0x50D2 0x14A0, psw 0x100050D2, r 1 0x583C94A2, r 2 0xC68C5F6, r 4 0xAAAAAAAA] (fun t => decide (
        status t = 0x80050D4)) = true := rfl

theorem test_anmb :
  run1 [w 0x200 0x84880373, psw 0x200, r 1 0x36AC718F, b 0x373 0x87] (fun t => decide (
        t.reg 1 = 0x36AC7187 ∧ status t = 0x20000204)) = true := rfl

theorem test_anmh :
  run1 [w 0x1000 0x870012A3, psw 0x40001000, r 6 0x4F638301, h 0x12A2 0x70F6] (fun t => decide (
        t.reg 6 = 0x4F630000 ∧ status t = 0x8001004)) = true := rfl

theorem test_anmw :
  run1 [w 0xF1C 0x87800FD0, psw 0x8000F1C, r 7 0xF0F0F0F0, w 0xFD0 0x9ED13854] (fun t => decide (
        t.reg 7 = 0x90D03050 ∧ status t = 0x10000F20)) = true := rfl

theorem test_anmd :
  run1 [w 0x674 0x8600081A, psw 0x674, r 4 0x9045C64A, r 5 0x32B08F00, w 0x818 0x684A711C,
      w 0x81C 0x8104A2BC] (fun t => decide (
        t.reg 4 = 0x404008 ∧ t.reg 5 = 0x8200 ∧ status t = 0x20000678)) = true := rfl

theorem test_anr :
  run1 [h 0x3812 0x4F0, psw 0x40003812, r 1 0xAC881101, r 7 0xFFFFF] (fun t => decide (
        t.reg 1 = 0x81101 ∧ status t = 0x20003814)) = true := rfl

theorem test_ormb :
  run1 [w 0x600 0x888808A3, psw 0x600, r 1 0x40404040, b 0x8A3 0x3C] (fun t => decide (
        t.reg 1 = 0x4040407C ∧ status t = 0x20000604)) = true := rfl

theorem test_ormh :
  run1 [w 0x18AC 0x8B001945, psw 0x18AC, r 6 0xBD71A4C6, h 0x1944 0x45F3] (fun t => decide (
        t.reg 6 = 0xBD71E5F7 ∧ status t = 0x100018B0)) = true := rfl

theorem test_ormw :
  run1 [w 0x5000 0x8980520C, psw 0x40005000, r 3 0x88888888, w 0x520C 0xEDC4657] (fun t => decide (
        t.reg 3 = 0x8EDCCEDF ∧ status t = 0x10005004)) = true := rfl

theorem test_ormd :
  run1 [w 0xB68 0x8B000C32, psw 0x10000B68, r 6 0x2A0031, r 7 0x1D0039, w 0xC30 0x18004C00,
      w 0xC34 0x9002400] (fun t => decide (
        t.reg 6 = 0x182A4C31 ∧ t.reg 7 = 0x91D2439 ∧ status t = 0x20000B6C)) = true := rfl

theorem test_orr :
  run1 [h 0xF8A 0x8A0, psw 0x40000F8A, r 1 0xD63F, r 2 0x88880000] (fun t => decide (
        t.reg 1 = 0x8888D63F ∧ status t = 0x10000F8C)) = true := rfl

theorem test_orrm :
  run1 [h 0x3956 0xB58, psw 0x8003956, r 4 0xEEEEEEEE, r 5 0x37735814, r 6 0x2561CA95] (fun t => decide (
        t.reg 6 = 0x2662CA84 ∧ status t = 0x20003958)) = true := rfl

theorem test_eomb :
  run1 [w 0x12F8 0x8C0813A1, psw 0x12F8, r 0 0xD396F458, b 0x13A1 0xA9] (fun t => decide (
        t.reg 0 = 0xD396F4F1 ∧ status t = 0x100012FC)) = true := rfl

theorem test_eomh :
  run1 [w 0x958 0x8E800A41, psw 0x40000958, r 5 0x96969696, h 0xA40 0x5CAB] (fun t => decide (
        t.reg 5 = 0x9696CA3D ∧ status t = 0x1000095C)) = true := rfl

theorem test_eomw :
  run1 [w 0x185BC 0x8F818694, psw 0x185BC, r 7 0x13579BDF, w 0x18694 0x22222222] (fun t => decide (
        t.reg 7 = 0x3175B9FD ∧ status t = 0x200185C0)) = true := rfl

theorem test_eomd :
  run1 [w 0x448 0x8F00053A, psw 0x448, r 6 0xFFFF00, r 7 0xFFF000, w 0x538 0x482144C0,
      w 0x53C 0x2881433A] (fun t => decide (
        t.reg 6 = 0x48DEBBC0 ∧ t.reg 7 = 0x287EB33A ∧ status t = 0x2000044C)) = true := rfl

theorem test_eor :
  run1 [h 0x139E 0xFE0, psw 0x139E, r 6 0x33333333, r 7 0x55555555] (fun t => decide (
        t.reg 7 = 0x66666666 ∧ status t = 0x200013A0)) = true := rfl

theorem test_eorm :
  run1 [h 0x25A32 0xFE8, psw 0x25A32, r 4 0xFEDF00, r 6 0x9725A2C8, r 7 0x6C248237] (fun t => decide (
        t.reg 7 = 0x0 ∧ status t = 0x8025A34)) = true := rfl

theorem test_nor :
  run1 [h 0xD32 0x6310, psw 0x20000D32, r 1 0x12345678, r 6 0x2E915] (fun t => decide (
        t.reg 6 = 0x2E915000 ∧ t.reg 1 = 0x3D ∧ status t = 0x20000D34)) = true := rfl

theorem test_nord :
  run1 [h 0x46E 0x6710, psw 0x1000046E, r 1 0x9ABCDEF0, r 6 0xFFFFFFFF, r 7 0xFF3AD915] (fun t => decide (
        t.reg 6 = 0xF3AD9150 ∧ t.reg 7 = 0x0 ∧ t.reg 1 = 0x37 ∧ status t = 0x10000470)) = true := rfl

theorem test_scz :
  run1 [h 0x399E 0x6A20, psw 0x2000399E, r 2 0x12345678, r 4 0x300611] (fun t => decide (
        t.reg 4 = 0x80308800 ∧ t.reg 2 = 0xA ∧ status t = 0x39A0)) = true := rfl

theorem test_sla :
  run1 [h 0x106 0x6F4C, psw 0x10000106, r 6 0x13AD] (fun t => decide (
        t.reg 6 = 0x13AD000 ∧ status t = 0x108)) = true := rfl

theorem test_sll :
  run1 [h 0x812 0x73D4, psw 0xA0000812, r 7 0x12345678] (fun t => decide (
        t.reg 7 = 0x67800000 ∧ status t = 0xA0000814)) = true := rfl

theorem test_slc :
  run1 [h 0x1FA 0x77D0, psw 0x1FA, r 7 0x12345678] (fun t => decide (
        t.reg 7 = 0x56781234 ∧ status t = 0x1FC)) = true := rfl

theorem test_slad :
  run1 [h 0x2DF6 0x7A58, psw 0x80002DF6, r 4 0xFFFFFFA3, r 5 0x9A178802] (fun t => decide (
        t.reg 4 = 0xA39A1788 ∧ t.reg 5 = 0x2000000 ∧ status t = 0x80002DF8)) = true := rfl

theorem test_slld :
  run1 [h 0x1FE 0x7F58, psw 0x100001FE, r 6 0x1234567, r 7 0x89ABCDEF] (fun t => decide (
        t.reg 6 = 0x6789ABCD ∧ t.reg 7 = 0xEF000000 ∧ status t = 0x10000200)) = true := rfl

theorem test_sra :
  run1 [h 0x372 0x6E0A, psw 0x10000372, r 4 0xB69825F1] (fun t => decide (
        t.reg 4 = 0xFFEDA609 ∧ status t = 0x10000374)) = true := rfl

theorem test_srl :
  run1 [h 0x372 0x720A, psw 0x10000372, r 4 0xB69825F1] (fun t => decide (
        t.reg 4 = 0x2DA609 ∧ status t = 0x10000374)) = true := rfl

theorem test_src :
  run1 [h 0x372 0x760C, psw 0x20000372, r 4 0x1234567] (fun t => decide (
        t.reg 4 = 0x56701234 ∧ status t = 0x20000374)) = true := rfl

theorem test_srad :
  run1 [h 0x2B46 0x7B18, psw 0x20002B46, r 6 0x8E2A379B, r 7 0x58C1964D] (fun t => decide (
        t.reg 6 = 0xFFFFFF8E ∧ t.reg 7 = 0x2A379B58 ∧ status t = 0x20002B48)) = true := rfl

theorem test_srld :
  run1 [h 0x2B46 0x7F18, psw 0x20002B46, r 6 0x8E2A379B, r 7 0x58C1964D] (fun t => decide (
        t.reg 6 = 0x8E ∧ t.reg 7 = 0x2A379B58 ∧ status t = 0x20002B48)) = true := rfl

theorem test_sbm :
  run1 [w 0x1000 0x98881403, psw 0x20001000, b 0x1403 0x1A] (fun t => decide (
        t.byte 0x1403 = 0x5A ∧ status t = 0x10001004)) = true := rfl

theorem test_zbm :
  run1 [w 0x1F684 0x9E8A0122, psw 0x1001F684, b 0x20122 0x34] (fun t => decide (
        status t = 0x4801F688 ∧ t.byte 0x20122 = 0x30)) = true := rfl

theorem test_abm :
  run1 [w 0x3000 0xA2083192, psw 0x3000, w 0x3190 0x51A3F926] (fun t => decide (
        t.peek 0x3190 .word = 0x51A40126 ∧ status t = 0x20003004)) = true := rfl

theorem test_tbm :
  run1 [w 0x5A38 0xA6085B21, psw 0x10005A38, b 0x5B21 0x29] (fun t => decide (
        status t = 0x48005A3C)) = true := rfl

theorem test_sbr :
  run1 [h 0x1002 0x1B82, psw 0x10001002, r 0 0x374B891] (fun t => decide (
        t.reg 0 = 0x374B991 ∧ status t = 0x8001004)) = true := rfl

theorem test_zbr :
  run1 [h 0xC56 0x1C51, psw 0x10000C56, r 5 0x76A43B19] (fun t => decide (
        t.reg 5 = 0x76243B19 ∧ status t = 0x48000C58)) = true := rfl

theorem test_abr :
  run1 [h 0x184E 0x2161, psw 0x800184E, r 6 0x3BE9AC48] (fun t => decide (
        t.reg 6 = 0x3C09AC48 ∧ status t = 0x20001850)) = true := rfl

theorem test_tbr :
  run1 [h 0x1982 0x25D3, psw 0x18001982, r 5 0x81A2C64D] (fun t => decide (
        status t = 0x8001984)) = true := rfl

theorem test_admb :
  run1 [w 0x800 0xBA080915, psw 0x10000800, r 4 0x99, b 0x915 0x8A] (fun t => decide (
        t.reg 4 = 0x123 ∧ status t = 0x20000804)) = true := rfl

theorem test_admh :
  run1 [w 0x40D68 0xBB841097, psw 0x20040D68, r 7 0x6C4, h 0x41096 0x8C42] (fun t => decide (
        t.reg 7 = 0xFFFF9306 ∧ status t = 0x10040D6C)) = true := rfl

theorem test_admw :
  run1 [w 0xD50 0xBB0011AC, psw 0x40000D50, r 6 0x37C1F3, w 0x11AC 0x4FC276] (fun t => decide (
        t.reg 6 = 0x878469 ∧ status t = 0x20000D54)) = true := rfl

theorem test_admd :
  run1 [w 0x8E3C 0xBA009252, psw 0x8008E3C, r 4 0x298A1, r 5 0x815BC63E, w 0x9250 0x3B69A07E,
      w 0x9254 0x7F3579A4] (fun t => decide (
        t.reg 4 = 0x3B6C3920 ∧ t.reg 5 = 0x913FE2 ∧ status t = 0x20008E40)) = true := rfl

theorem test_adr :
  run1 [h 0x3FA2 0x3B70, psw 0x8003FA2, r 6 0xFF03C67D, r 7 0x45C6E3F] (fun t => decide (
        t.reg 6 = 0x36034BC ∧ status t = 0x20003FA4)) = true := rfl

theorem test_adrm :
  run1 [h 0x16A9A 0x3B78, psw 0x40016A9A, r 4 0x7FFFFC, r 6 0x4FC276, r 7 0x37C1F3] (fun t => decide (
        t.reg 6 = 0x78468 ∧ status t = 0x20016A9C)) = true := rfl

theorem test_adi :
  run1 [w 0xD88 0xC80186B2, psw 0x20000D88, r 0 0x794E] (fun t => decide (
        t.reg 0 = 0x0 ∧ status t = 0x8000D8C)) = true := rfl

theorem test_armb :
  run1 [psw 0x1000, w 0x1000 0xE9082000, r 2 0x1, b 0x2000 0xFF] (fun t => decide (
        t.byte 0x2000 = 0x0 ∧ t.cc.cc4 = false)) = true := rfl

theorem test_armh :
  run1 [w 0x200B4 0xEA820919, psw 0x200B4, r 5 0xFFFF8C42, h 0x20918 0x6C4] (fun t => decide (
        t.peek 0x20918 .half = 0x9306)) = true := rfl

theorem test_armw :
  run1 [w 0x3000 0xEB803100, psw 0x8003000, r 7 0x245C6E3F, w 0x3100 0xFF03C67D] (fun t => decide (
        t.peek 0x3100 .word = 0x236034BC ∧ status t = 0x20003004)) = true := rfl

theorem test_armd :
  run1 [w 0x819C 0xEB0083AA, psw 0x4000819C, r 6 0x1A298A1, r 7 0xF15BC63E, w 0x83A8 0x3B69A07E,
      w 0x83AC 0x7F3579A4] (fun t => decide (
        t.peek 0x83A8 .word = 0x3D0C3920 ∧ t.peek 0x83AC .word = 0x70913FE2 ∧ status t = 0x200081A0)) = true := rfl

theorem test_sumb :
  run1 [w 0x1000 0xBC881201, psw 0x40001000, r 1 0x194A7F2, b 0x1201 0x9A] (fun t => decide (
        t.reg 1 = 0x194A758 ∧ status t = 0x20001004)) = true := rfl

theorem test_sumh :
  run1 [w 0x1604 0xBF001877, psw 0x10001604, r 6 0x24CB3, h 0x1876 0x34C6] (fun t => decide (
        t.reg 6 = 0x217ED ∧ status t = 0x20001608)) = true := rfl

theorem test_sumw :
  run1 [w 0x6C208 0xBC86F914, psw 0x6C208, r 1 0xA6264D, w 0x6F914 0x74BC3] (fun t => decide (
        t.reg 1 = 0x9EDA8A ∧ status t = 0x2006C20C)) = true := rfl

theorem test_sumd :
  run1 [w 0x3000 0xBF003102, psw 0x10003000, r 6 0x5AD983B7, r 7 0xC833D509, w 0x3100 0x153B0492,
      w 0x3104 0x5BE87A16] (fun t => decide (
        t.reg 6 = 0x459E7F25 ∧ t.reg 7 = 0x6C4B5AF3 ∧ status t = 0x20003004)) = true := rfl

theorem test_sur :
  run1 [h 0x106AE 0x3CA0, psw 0x100106AE, r 1 0x12345678, r 2 0x12345678] (fun t => decide (
        t.reg 1 = 0x0 ∧ status t = 0x80106B0)) = true := rfl

theorem test_surm :
  run1 [h 0x496 0x3F58, psw 0x10000496, r 4 0xFFFF00, r 5 0x74BC3, r 6 0xA6264D] (fun t => decide (
        t.reg 6 = 0x9EDA00 ∧ status t = 0x20000498)) = true := rfl

theorem test_sui :
  run1 [w 0x19B8 0xCB82839A, psw 0x100019B8, r 7 0xFFFF839A] (fun t => decide (
        t.reg 7 = 0x0 ∧ status t = 0x80019BC)) = true := rfl

theorem test_es :
  run1 [h 0x83A 0x84, psw 0x800083A, r 1 0xB074, r 2 0x8000C361] (fun t => decide (
        t.reg 1 = 0xFFFFFFFF ∧ status t = 0x1000083C)) = true := rfl

theorem test_rnd :
  run1 [h 0xFFE 0x305, psw 0x40000FFE, r 6 0x783A05B2, r 7 0x92CD061F] (fun t => decide (
        t.reg 6 = 0x783A05B3 ∧ status t = 0x20001000)) = true := rfl

theorem test_mpmb :
  run1 [w 0x2BA28 0xC00AC3D9, psw 0x2BA28, r 0 0x12345678, r 1 0x6F90C859, b 0x2C3D9 0x40] (fun t => decide (
        t.reg 0 = 0x1B ∧ t.reg 1 = 0xE4321640 ∧ status t = 0x2002BA2C)) = true := rfl

theorem test_mpmh :
  run1 [w 0x96A4 0xC1009B57, psw 0x80096A4, r 2 0x12345678, r 3 0x3, h 0x9B56 0xFFFD] (fun t => decide (
        t.reg 2 = 0xFFFFFFFF ∧ t.reg 3 = 0xFFFFFFF7 ∧ status t = 0x100096A8)) = true := rfl

theorem test_mpmw :
  run1 [w 0x4AC8 0xC3004B1C, psw 0x10004AC8, r 6 0x0, r 7 0x80000000, w 0x4B1C 0x80000000] (fun t => decide (
        t.reg 6 = 0x40000000 ∧ t.reg 7 = 0x0 ∧ status t = 0x20004ACC)) = true := rfl

theorem test_mpr :
  run1 [h 0x98E 0x4010, psw 0x1000098E, r 1 0xF] (fun t => decide (
        t.reg 0 = 0x0 ∧ t.reg 1 = 0xE1 ∧ status t = 0x20000990)) = true := rfl

theorem test_mpi :
  run1 [w 0x634 0xCB030100, psw 0x20000634, r 6 0x12345678, r 7 0xF37A9B15] (fun t => decide (
        t.reg 6 = 0xFFFFFFF3 ∧ t.reg 7 = 0x7A9B1500 ∧ status t = 0x10000638)) = true := rfl

theorem test_dvmb :
  run1 [w 0x3000 0xC40830BF, psw 0x10003000, r 0 0x0, r 1 0x139, b 0x30BF 0x4] (fun t => decide (
        t.reg 0 = 0x1 ∧ t.reg 1 = 0x4E ∧ status t = 0x20003004)) = true := rfl

theorem test_dvmh :
  run1 [w 0x5A94 0xC7005D6B, psw 0x8005A94, r 6 0x0, r 7 0x3B, h 0x5D6A 0xFFF8] (fun t => decide (
        t.reg 7 = 0xFFFFFFF9 ∧ t.reg 6 = 0x3 ∧ status t = 0x10005A98)) = true := rfl

theorem test_dvmw :
  run1 [w 0x78C0 0xC6007B5C, psw 0x400078C0, r 4 0x0, r 5 0x39A20CF, w 0x7B5C 0xFC000000] (fun t => decide (
        t.reg 4 = 0x39A20CF ∧ t.reg 5 = 0x0 ∧ status t = 0x80078C4)) = true := rfl

theorem test_dvr :
  run1 [h 0x4136 0x4720, psw 0x10004136, r 2 0xA, r 6 0x0, r 7 0xFF] (fun t => decide (
        t.reg 6 = 0x5 ∧ t.reg 7 = 0x19 ∧ status t = 0x20004138)) = true := rfl

theorem test_dvi :
  run1 [w 0x8000 0xC904FFFD, psw 0x8000, r 2 0x0, r 3 0x1B7] (fun t => decide (
        t.reg 2 = 0x1 ∧ t.reg 3 = 0xFFFFFF6E ∧ status t = 0x10008004)) = true := rfl

theorem test_adfw :
  run1 [psw 0x1000, w 0x1000 0xE1082000, r 2 0x41100000, w 0x2000 0x41200000] (fun t => decide (
        t.reg 2 = 0x41300000 ∧ t.cc = ⟨false, true, false, false⟩)) = true := rfl

theorem test_adfd :
  run1 [psw 0x1000, w 0x1000 0xE1082002, r 2 0x41100000, r 3 0x0, w 0x2000 0x41200000,
      w 0x2004 0x0] (fun t => decide (
        t.reg 2 = 0x41300000 ∧ t.reg 3 = 0x0 ∧ t.cc = ⟨false, true, false, false⟩)) = true := rfl

theorem test_sufw :
  run1 [psw 0x1000, w 0x1000 0xE1002000, r 2 0x41300000, w 0x2000 0x41100000] (fun t => decide (
        t.reg 2 = 0x41200000 ∧ t.cc = ⟨false, true, false, false⟩)) = true := rfl

theorem test_sufd :
  run1 [psw 0x1000, w 0x1000 0xE1002002, r 2 0x41234567, r 3 0x89ABCDEF, w 0x2000 0x41234567,
      w 0x2004 0x89ABCDEF] (fun t => decide (
        t.reg 2 = 0x0 ∧ t.reg 3 = 0x0 ∧ t.cc = ⟨false, false, false, true⟩)) = true := rfl

theorem test_mpfw :
  run1 [psw 0x1000, w 0x1000 0xE5082000, r 2 0x41200000, w 0x2000 0x41300000] (fun t => decide (
        t.reg 2 = 0x41600000 ∧ t.cc = ⟨false, true, false, false⟩)) = true := rfl

theorem test_mpfd :
  run1 [psw 0x1000, w 0x1000 0xE5082002, r 2 0x41200000, r 3 0x0, w 0x2000 0x41300000,
      w 0x2004 0x0] (fun t => decide (
        t.reg 2 = 0x41600000 ∧ t.reg 3 = 0x0 ∧ t.cc = ⟨false, true, false, false⟩)) = true := rfl

theorem test_dvfw :
  run1 [psw 0x1000, w 0x1000 0xE5002000, r 2 0x41600000, w 0x2000 0x41300000] (fun t => decide (
        t.reg 2 = 0x41200000 ∧ t.cc = ⟨false, true, false, false⟩)) = true := rfl

theorem test_dvfd :
  run1 [psw 0x1000, w 0x1000 0xE5002002, r 2 0x41100000, r 3 0x0, w 0x2000 0x41300000,
      w 0x2004 0x0] (fun t => decide (
        t.reg 2 = 0x40555555 ∧ t.reg 3 = 0x55555555 ∧ t.cc = ⟨false, true, false, false⟩)) = true := rfl

theorem test_bri :
  run1 [psw 0x80001000, w 0x1000 0xF91001A0, (·.setActive 0x28 true), w 0x1A0 0x20002468] (fun t => decide (
        status t = 0x20002468 ∧ t.active.getLsbD 0x28 = false)) = true := rfl

theorem test_lpsd :
  run1 [psw 0x80001000, w 0x1000 0xF9800800, psd, (fun s => { s with blocked := true }),
      w 0x800 0x20003000] (fun t => decide (
        status t = 0x20003000 ∧ t.storedPsd2 = 0x0 ∧ t.blocked = false)) = true := rfl

theorem test_lpsdcm :
  run1 [psw 0x80001000, w 0x1000 0xFA800800, psd, w 0x800 0x90003000, w 0x804 0x40000000, cell 0xF3 0x4000,
      w 0x4000 0x01004100, w 0x4100 0x01004200, w 0x4200 0x80120000] (fun t => decide (
        status t = 0x90003000 ∧ t.mapActive = true ∧ t.mapReg 0 = 0x8012 ∧ t.mapReg 1 = 0)) = true := rfl

theorem test_lcs :
  run1 [h 0x6002 0x383, psw 0x6002, r 7 0xFFFFFFFF, (fun s => { s with csw := 0x8200 })] (fun t => decide (
        t.reg 7 = 0x82000000 ∧ status t = 0x10006004)) = true := rfl

theorem test_exr :
  run1 [psw 0x1000, w 0x1000 0xC9070000, r 2 0xC8810005, r 1 0x3] (fun t => decide (
        t.reg 1 = 0x8 ∧ status t = 0x20001004)) = true := rfl

theorem test_exrr :
  run1 [psw 0x1000, w 0x1000 0xC9070002, r 2 0x20C00, r 0 0x12345678] (fun t => decide (
        t.reg 0 = 0x0 ∧ status t = 0x8001004)) = true := rfl

theorem test_exm :
  run1 [psw 0x1000, w 0x1000 0xA8002002, w 0x2000 0xC000002] (fun t => decide (
        status t = 0x1004)) = true := rfl

theorem test_halt :
  run1 [psw 0x80001000, h 0x1000 0x0] (fun t => decide (
        t.run = .halt ∧ status t = 0x80001002)) = true := rfl

theorem test_wait :
  run1 [psw 0x1000, h 0x1000 0x1, psd] (fun t => decide (
        t.run = .wait ∧ t.pc = 0x800)) = true := rfl

theorem test_nop :
  run1 [psw 0x20001002, h 0x1002 0x2] (fun t => decide (
        status t = 0x20001004)) = true := rfl

theorem test_calm :
  run1 [psw 0x1000, h 0x1000 0x3000, psd] (fun t => decide (
        t.request.getLsbD 0x27 = true)) = true := rfl

theorem test_svc :
  run1 [psw 0x20002000, psd, w 0x180 0x400, w 0x408 0x500, w 0x508 0x80003000, w 0x50C 0x4000,
      w 0x2000 0xC8062123, w 0x2004 0x10000, w 0x3000 0xAC800510, w 0x3004 0xF9800500] (fun t => decide (
        t.stat = 0x21 ∧ status t = 0x80003000 ∧ t.storedPsd2 = 0x4000 ∧ t.blocked = true ∧ t.psd2=0)) = true := rfl

theorem test_setcpu :
  run1 [psw 0x80001000, h 0x1000 0x2C19, psd, r 1 0x11000, (fun s => { s with bmtEn := true }),
      (·.setStat 0x41)] (fun t => decide (
        t.mode = .psd ∧ t.stat = 0x1 ∧ t.psdTrapEn = true ∧ t.bmtEn = false)) = true := rfl

theorem test_rdsts :
  run1 [psw 0x80001000, h 0x1000 0x109, psd, (·.setStat 0x100041)] (fun t => decide (
        t.reg 2 = 0x100041 ∧ t.cc = ⟨false, true, false, false⟩ ∧ t.stat = 0x41)) = true := rfl

theorem test_eae :
  run1 [psw 0x80001000, h 0x1000 0x8, psd, (·.setStat 0x1)] (fun t => decide (
        status t = 0x81001002 ∧ t.stat = 0x81)) = true := rfl

theorem test_dae :
  run1 [psw 0x81001000, h 0x1000 0xE, psd, (·.setStat 0x81)] (fun t => decide (
        status t = 0x80001002 ∧ t.stat = 0x1)) = true := rfl

theorem test_ei :
  run1 [psw 0x80001000, w 0x1000 0xFD400000, rtom] (fun t => decide (
        t.enabled = 1 <<< 0x28 ∧ t.pc = 0x802)) = true := rfl

theorem test_di :
  run1 [psw 0x80001000, w 0x1000 0xFD410000, (fun s => { s with int := s.int.set 0x28 (some ⟨1,6⟩) }),
      (·.setRequest 0x28 true), (·.setEnabled 0x28 true), (·.setActive 0x28 true)] (fun t => decide (
        t.enabled.getLsbD 0x28 = false ∧ t.request.getLsbD 0x28 = false ∧ t.active.getLsbD 0x28 = true)) = true := rfl

theorem test_ri :
  run1 [psw 0x80001000, w 0x1000 0xFD520000,
      (fun s => { s with int := s.int.set 0x2A (some ⟨1,5⟩) })] (fun t => decide (
        t.request.getLsbD 0x2A = true)) = true := rfl

theorem test_ai :
  run1 [psw 0x80001000, w 0x1000 0xFD530000,
      (fun s => { s with int := s.int.set 0x2A (some ⟨1,5⟩) })] (fun t => decide (
        t.active.getLsbD 0x2A = true)) = true := rfl

theorem test_dai :
  run1 [psw 0x80001000, w 0x1000 0xFD440000, rtom, (·.setActive 0x28 true), (·.setRequest 0x28 true)]
      (fun t => decide (t.active = 0 ∧ t.request = 1 <<< 0x28 ∧ t.noIntNext = false)) = true := rfl

theorem test_eci :
  run1 [psw 0x80001000, w 0x1000 0xFC670800, psd, chan8, w 0x148 0x2000, w 0x2010 0x3000,
      answer .queued 0] (fun t => decide (
        t.enabled.getLsbD 0x16 = true ∧ t.cc = ⟨true, false, false, false⟩)) = true := rfl

theorem test_dci :
  run1 [psw 0x80001000, w 0x1000 0xFC6F0800, psd, chan8, w 0x148 0x2000, w 0x2010 0x3000, answer .activated 0,
      (·.setEnabled 0x16 true), (·.setCC ⟨true, true, true, true⟩)] (fun t => decide (
        t.enabled.getLsbD 0x16 = false ∧ t.cc = ⟨false, false, false, false⟩)) = true := rfl

theorem test_aci :
  run1 [psw 0x80001000, w 0x1000 0xFC770800, psd, chan8, w 0x148 0x2000, w 0x2010 0x3000,
      answer .activated 0] (fun t => decide (
        t.active.getLsbD 0x16 = true)) = true := rfl

theorem test_daci :
  run1 [psw 0x80001000, w 0x1000 0xFC7F0800, psd, chan8, w 0x148 0x2000, answer .activated 0, (·.setActive 0x16 true)]
      (fun t => decide (t.active = 0 ∧ t.noIntNext = true ∧ t.sent = [.channel .daci 8 0 none])) = true := rfl

theorem test_bei :
  run1 [psw 0x80001000, h 0x1000 0x6, psd, (·.setCC ⟨true, false, true, false⟩)] (fun t => decide (
        t.blocked = true ∧ t.pc = 0x801 ∧ t.cc = ⟨true, false, true, false⟩)) = true := rfl

theorem test_uei :
  run1 [psw 0x80001000, h 0x1000 0x7, psd, (·.setBlocked true)] (fun t => decide (
        t.blocked = false ∧ t.stat = 0x1 ∧ t.pc = 0x801)) = true := rfl

theorem test_cd :
  run1 [psw 0x80001000, w 0x1000 0xFFD68000,
      (fun s => { s with dev := s.dev.set 0x7A (some ⟨0,0,0x21,1,0⟩) })] (fun t => decide (
        t.pc = 0x802 ∧ t.sent = [.command 0x7A 0x8000])) = true := rfl

theorem test_td :
  run1 [psw 0x80001000, w 0x1000 0xFC858000, (·.setCC ⟨true, true, true, true⟩),
      (fun s => { s with devReplies := [some ⟨false,false,false,false⟩] }),
      (fun s => { s with dev := s.dev.set 0x10 (some ⟨0,0xE,0x18,1,0⟩) })] (fun t => decide (
        t.cc = ⟨false, false, false, false⟩)) = true := rfl

theorem test_sio :
  run1 [psw 0x80001000, w 0x1000 0xFC170800, psd, chan8, w 0x148 0x2000, w 0x2010 0x3000,
      answer .activated 0] (fun t => decide (
        t.cc = ⟨false, false, false, false⟩ ∧ t.pc = 0x802 ∧ t.sent = [.channel .sio 8 0 (some 0x3000)])) = true := rfl

theorem test_tio :
  run1 [psw 0x80001000, w 0x1000 0xFC1F0800, psd, chan8, w 0x148 0x2000, w 0x2010 0x3000,
      answer .statusStored 0x4000] (fun t => decide (
        t.cc = ⟨false, true, false, false⟩ ∧ t.peek 0x2014 .word = 0x4000)) = true := rfl

theorem test_stpio :
  run1 [psw 0x80001000, w 0x1000 0xFC270801, psd, chan8, w 0x148 0x2000, w 0x2010 0x3000,
      answer .busy 0] (fun t => decide (
        t.cc = ⟨false, false, false, true⟩ ∧ t.sent = [.channel .stpio 8 1 none])) = true := rfl

theorem test_rschnl :
  run1 [psw 0x80001000, w 0x1000 0xFC2F0800, psd, chan8, w 0x148 0x2000, w 0x2010 0x3000, answer .activated 0,
      (·.setRequest 0x16 true), (·.setActive 0x16 true)] (fun t => decide (
        t.request.getLsbD 0x16 = false ∧ t.active.getLsbD 0x16 = false ∧ t.cc = ⟨false, false, false, false⟩)) = true := rfl

theorem test_hio :
  run1 [psw 0x80001000, w 0x1000 0xFC370800, psd, chan8, w 0x148 0x2000, w 0x2010 0x3000,
      answer .queued 0] (fun t => decide (
        t.cc = ⟨true, false, false, false⟩)) = true := rfl

theorem test_grio :
  run1 [psw 0x80001000, w 0x1000 0xFC3F0802, psd, chan8, w 0x148 0x2000, w 0x2010 0x3000,
      answer .activated 0] (fun t => decide (
        t.sent = [.channel .grio 8 2 none])) = true := rfl

theorem test_rsctl :
  run1 [psw 0x80001000, w 0x1000 0xFC470801, psd, chan8, w 0x148 0x2000, w 0x2010 0x3000,
      answer .activated 0] (fun t => decide (
        t.sent = [.channel .rsctl 8 1 none])) = true := rfl

theorem test_ecwcs :
  run1 [psw 0x80001000, w 0x1000 0xFC4F0800, psd, chan8, w 0x148 0x2000, w 0x2010 0x3000,
      answer .activated 0] (fun t => decide (
        t.ecwcsArmed = some 8 ∧ t.cc = ⟨false, false, false, false⟩)) = true := rfl

theorem test_wcwcs :
  run1 [psw 0x80001000, w 0x1000 0xFC5F0800, psd, chan8, w 0x148 0x2000, w 0x2010 0x3000, answer .activated 0,
      (fun s => { s with ecwcsArmed := some 8 })] (fun t => decide (
        t.sent = [.channel .wcwcs 8 0 (some 0x3000)] ∧ t.ecwcsArmed = none)) = true := rfl

/-! ### Witnesses: a state and operands that meet the hypotheses of each statement -/

/-- A state built by the setters. -/
def st (l : List (State → State)) : State := l.foldl (fun s f => f s) base

/-- Privileged in PSD mode, with numbers at the ends of their ranges in registers and memory. -/
def demo : State := st [psd, psw 0xC0001000, r 1 1, r 2 0x80000000, r 3 3, r 4 0xFF00FF00, r 5 0x80000000,
  r 6 0xFFFFFFFF, r 7 0x7FFFFFFF, w 0x2000 0x80FF7F01, w 0x2008 0x80000000, w 0x200C 1, w 0x2010 0x80000000,
  w 0x2018 0x00102010]

/-- A byte, a halfword, a word and a doubleword of `demo`. -/
def mB : MemRef := ⟨0, false, 0x82000⟩
def mH : MemRef := ⟨0, false, 0x02001⟩
def mW : MemRef := ⟨0, false, 0x02008⟩
def mD : MemRef := ⟨0, false, 0x02012⟩
/-- The word of `demo` at 0x2010, by the indirect word at 0x2018, which itself is indirect once more. -/
def mI : MemRef := ⟨0, true, 0x02018⟩

theorem quiet_demo : demo.quiet := ⟨rfl, fun _ h => absurd h (by decide)⟩

theorem witness_DecodeEncode : (Instr.lb 7 ⟨3, true, 0xFFFFF⟩).wf = true ∧ (Instr.eor 3 4).wf = true := ⟨rfl, rfl⟩

theorem witness_UndefinedWords : isHalfLen (fetchImage 0x0002AC00 true) = false := rfl

theorem witness_StepRunsDecoded : ∀ l ∈ [[], [[((0x1002 : Addr), (0x2D : Byte)), (0x1003, 0x10)]]], ∃ (s : State) (pa : Addr)
    (i : Instr) (t : State), s.between = l ∧ s.inputs = [] ∧ s.run = .run ∧ s.sensed = none ∧
    s.translate .fetch false (fetchAddr s.pc) = .ok pa ∧ s.present pa .word = true ∧ s.fetchParity = false ∧
    decodeFetched ((State.interleave { s with noIntNext := false }).peek pa.toNat .word) (nrOf s.pc) = .ok i ∧
    s.haltReq = .none ∧ s.instrStopHit = false ∧
    exec i (State.interleave { s with noIntNext := false }) = .next t ∧ t.haltReq = .none := by
  intro l hl
  rcases List.mem_cons.mp hl with rfl | hl
  · exact ⟨st [psw 0x1002, h 0x1002 0x2D10, r 1 7], _, _, _, rfl, rfl, rfl, rfl, rfl, rfl, rfl, rfl, rfl, rfl, rfl, rfl⟩
  · obtain rfl := List.mem_singleton.mp hl
    exact ⟨{ st [psw 0x1002, r 1 7] with between := [[(0x1002, 0x2D), (0x1003, 0x10)]] }, _, _, _, rfl, rfl, rfl, rfl, rfl,
      rfl, rfl, rfl, rfl, rfl, rfl, rfl⟩

theorem witness_StepTrapsUndefined : ∃ (s : State) (pa : Addr) (e : DecodeError), s.inputs = [] ∧ s.run = .run ∧ s.sensed = none ∧
    s.translate .fetch false (fetchAddr s.pc) = .ok pa ∧ s.present pa .word = true ∧ s.fetchParity = false ∧
    s.haltReq = .none ∧ s.instrStopHit = false ∧
    decodeFetched ((State.interleave { s with noIntNext := false }).peek pa.toNat .word) (nrOf s.pc) = .error e :=
  ⟨st [psw 0x1002, w 0x1000 0x0002AC00], _, _, rfl, rfl, rfl, rfl, rfl, rfl, rfl, rfl, rfl⟩

theorem witness_InterruptPriority :
    (State.reset.inputs = [] ∧ State.reset.run = .halt) ∧
    (∃ s : State, s.inputs = [] ∧ s.run = .wait ∧ s.sensed = none) ∧
    (∃ (s : State) (l : Level), s.inputs = [] ∧ s.run ≠ .halt ∧ s.sensed = some l) ∧
    (∃ s : State, s.mode = .psd ∧ s.run ≠ .halt ∧ (∀ e ∈ [EnvEvent.clockTick] ++ [.parityFetch], s.asyncTrap e = none) ∧
      Trap.privilege.priority ≠ 0 ∧ s.inputs = ([.clockTick] ++ .powerFail :: [.parityFetch]) :: []) ∧
    (∀ e ∈ [EnvEvent.powerFail], ∀ b d, e ≠ .busFailure b d) :=
  ⟨⟨rfl, rfl⟩, ⟨st [(·.setRun .wait)], rfl, rfl, rfl⟩,
    ⟨st [(·.setEnabled 0x7F true), (·.setRequest 0x7F true)], 0x7F, rfl, (by decide), rfl⟩,
    ⟨{ demo with inputs := [[.clockTick, .powerFail, .parityFetch]] }, rfl, by decide, by decide, by decide, rfl⟩,
    by simp⟩

theorem witness_MemoryWrites : Memory.wf demo.mem = true ∧ demo.between = [] ∧
    (∃ (s : State) (a pa : Addr), s.between = [] ∧ s.translate .operand true a = .ok pa ∧ s.priv = false ∧
      s.pageProtected pa = true) ∧
    (∃ (s : State) (a pa : Addr), s.between = [] ∧ s.translate .operand true a = .ok pa ∧ s.pageProtected pa = false ∧
      s.present pa .word = false ∧ pa.toNat + 4 = s.cfg.memBytes + 1) ∧
    (∃ (s : State) (a pa : Addr), s.between = [] ∧ s.translate .operand true a = .ok pa ∧ s.priv = true ∧
      s.present pa .byte = true ∧ pa.toNat + 1 = s.cfg.memBytes) :=
  ⟨rfl, rfl, ⟨st [p 15 0x8000], 0x7F800, _, rfl, rfl, rfl, rfl⟩, ⟨base, 0xFFFFFD, _, rfl, rfl, rfl, rfl, rfl⟩,
    ⟨demo, 0xFFFFFF, _, rfl, rfl, rfl, rfl, rfl⟩⟩

/-- The words before and after a hole are installed, the word that reaches into it is not. -/
theorem test_hole :
    (let s : State := { base with cfg := { base.cfg with holes := [⟨0x8000, 0x8000⟩] } };
      [0x7FFC, 0x7FFE, 0x8000, 0xFFFC, 0x10000].map (fun a => s.installed a 4)) =
      [true, false, false, false, true] := rfl

/-- Mapped, page 31 valid and protected, page 0 valid. -/
def mappedState : State := st [psd, mp 0 0x8001, mp 31 0xC1FF, (fun s => { s with mapActive := true, ext := true })]

theorem witness_Translation : demo.mapActive = false ∧ mappedState.mapActive = true ∧ mappedState.ext = true ∧
    mappedState.priv = false ∧ 32 ≤ (0x100000 : Addr).toNat / 32768 ∧ (0x0FFFFF : Addr).toNat / 32768 = 31 ∧
    2 ^ 15 ≤ mappedState.mapRegs[31].toNat ∧ 2 ^ 14 ≤ mappedState.mapRegs[31].toNat % 2 ^ 15 ∧
    mappedState.mapRegs[1].toNat < 2 ^ 15 ∧ 2 ^ 15 ≤ mappedState.mapRegs[0].toNat ∧
    mappedState.mapRegs[0].toNat % 2 ^ 15 < 2 ^ 14 := by
  and_intros <;> decide

theorem witness_EffectiveAddress : demo.ext = false ∧ mappedState.ext = true := ⟨rfl, rfl⟩

theorem witness_IndirectChain : ∃ e t, chainReads .operand [0x00102010, 0x80000000] mI demo e t :=
  ⟨_, _, rfl, _, rfl, rfl, _, rfl, rfl, rfl, rfl⟩

/-- A word that names itself as an indirect word never ends, however many reads are allowed. -/
def loopState : State := st [w 0x2000 0x00102000]

theorem loop_chase (n : Nat) (last : Option Word) :
    chase .operand n ⟨0, true, 0x02000⟩ last loopState = .stop (.stuck .endlessIndirect) loopState := by
  induction n generalizing last with
  | zero => rfl
  | succ n ih =>
    have h : memRead .operand (wordAlign (loopState.combine ⟨0, true, 0x02000⟩).addr) .word loopState =
        .ok 0x00102000 loopState := rfl
    have hm : memRefOf 0x00102000 = ⟨0, true, 0x02000⟩ := rfl
    simp only [chase, h, Res.bind, hm, ih, if_true]

theorem witness_IndirectChain_stuck :
    resolve .operand ⟨0, true, 0x02000⟩ loopState = .stop (.stuck .endlessIndirect) loopState :=
  loop_chase _ _

theorem witness_OperandReads : demo.operandParity = false ∧ demo.between = [] ∧
    (∃ x u pa, resolve .operand mB demo = .ok x u ∧ x.ea.width = .byte ∧
      u.translate .operand false (operandAddr x.ea.width x.ea.addr) = .ok pa ∧ demo.installed pa.toNat 1 = true) ∧
    (∃ x u pa, resolve .operand mH demo = .ok x u ∧ x.ea.width = .half ∧
      u.translate .operand false (operandAddr x.ea.width x.ea.addr) = .ok pa ∧ demo.installed pa.toNat 2 = true) ∧
    (∃ x u pa, resolve .operand mW demo = .ok x u ∧ x.ea.width = .word ∧
      u.translate .operand false (operandAddr x.ea.width x.ea.addr) = .ok pa ∧ demo.installed pa.toNat 4 = true) ∧
    (∃ x u pa, resolve .operand mD demo = .ok x u ∧ x.ea.width = .dword ∧
      u.translate .operand false (operandAddr x.ea.width x.ea.addr) = .ok pa ∧ demo.installed pa.toNat 8 = true) :=
  ⟨rfl, rfl, ⟨_, _, _, rfl, rfl, rfl, rfl⟩, ⟨_, _, _, rfl, rfl, rfl, rfl⟩,
    ⟨_, _, _, rfl, rfl, rfl, rfl⟩, ⟨_, _, _, rfl, rfl, rfl, rfl⟩⟩

/-- A small installation, with a hole of one word. -/
def small : State := { demo with cfg := { demo.cfg with memBytes := 32768, holes := [⟨0x4000, 4⟩] } }

theorem witness_OperandReads_traps : small.between = [] ∧
    (∃ x u e, resolve .operand ⟨0, false, 0x08002⟩ mappedState = .ok x u ∧
      u.translate .operand false (operandAddr x.ea.width x.ea.addr) = .error e) ∧
    (∃ x u pa, resolve .operand ⟨0, false, 0x08000⟩ small = .ok x u ∧ x.ea.width = .word ∧
      u.translate .operand false (operandAddr x.ea.width x.ea.addr) = .ok pa ∧ small.installed pa.toNat 4 = false) ∧
    (∃ (s : State) (x : Target) (u : State) (pa : Addr), resolve .operand ⟨0, false, 0x07FFC⟩ s = .ok x u ∧ x.ea.width = .word ∧
      u.translate .operand false (operandAddr x.ea.width x.ea.addr) = .ok pa ∧ s.installed pa.toNat 4 = true ∧
      u.operandParity = true) ∧
    (∃ x u pa, resolve .operand ⟨0, false, 0x08002⟩ small = .ok x u ∧ x.ea.width = .dword ∧
      u.translate .operand false (operandAddr x.ea.width x.ea.addr) = .ok pa ∧
      small.installed (pa.toNat + 4) 4 = false) ∧
    (∃ x u pa, resolve .operand ⟨0, false, 0x04002⟩ small = .ok x u ∧ x.ea.width = .dword ∧
      u.translate .operand false (operandAddr x.ea.width x.ea.addr) = .ok pa ∧
      small.installed (pa.toNat + 4) 4 = true ∧ u.operandParity = false ∧ small.installed pa.toNat 4 = false) :=
  ⟨rfl, ⟨_, _, _, rfl, rfl⟩, ⟨_, _, _, rfl, rfl, rfl, rfl⟩,
    ⟨{ small with operandParity := true }, _, _, _, rfl, rfl, rfl, rfl, rfl⟩, ⟨_, _, _, rfl, rfl, rfl, rfl⟩,
    ⟨_, _, _, rfl, rfl, rfl, rfl, rfl, rfl⟩⟩

/-- Stores of others before each of the next two accesses, two of them to one byte. -/
def shared : State := { demo with between := [[(0x2010, 0x11), (0x2010, 0x22)], [(0x2014, 0x33), (0x2008, 0x44)]] }

theorem witness_InterleavedStores : Memory.wf shared.mem = true ∧ shared.operandParity = false ∧
    shared.translate .operand false 0x2010 = .ok 0x2010 ∧ shared.translate .operand false 0x2014 = .ok 0x2014 ∧
    shared.present 0x2010 .word = true ∧ shared.present 0x2014 .word = true ∧ shared.blocked = false ∧
    storesTo shared ((shared.combine mB).addr) .byte 0x2000 ∧
    storesTo shared (wordAlign (shared.combine mB).addr) .word 0x2000 ∧
    ∃ l l', shared.between = l :: l' :: [] :=
  ⟨rfl, rfl, rfl, rfl, rfl, rfl, rfl, ⟨rfl, .inl rfl, rfl⟩, ⟨rfl, .inl rfl, rfl⟩, _, _, rfl⟩

/-- Each word of a doubleword as it stands at its own read (R110, R130). -/
theorem test_dword_between :
    (match readDword .operand 0x2010 shared with
      | .ok v _ => decide (v = 0x2200000000000000)
      | .stop _ _ => false) = true ∧
    (match readDword .operand 0x2008 { shared with between := shared.between.reverse } with
      | .ok v _ => decide (v = 0x4400000000000001)
      | .stop _ _ => false) = true := ⟨rfl, rfl⟩

/-- Operands of each width, direct and by a chain: for Loads, LoadsNegative, FixedPointMemory, Compares and
LogicalMemory, on `quiet_demo`. The Arithmetic Exception is disabled in `demo`. -/
theorem witness_operands : demo.quiet ∧ demo.arithEnabled = false ∧
    (∃ u, operand mB (demo.start .word) = .ok (.byte 0x80) u) ∧
    (∃ u, operand mH (demo.start .word) = .ok (.half 0x80FF) u) ∧
    (∃ u, operand mW (demo.start .word) = .ok (.word 0x80000000) u) ∧
    (∃ u, operand mD (demo.start .word) = .ok (.dword 0x8000000000000000) u) ∧
    (∃ u, operand mI (demo.start .word) = .ok (.word 0) u) :=
  ⟨quiet_demo, rfl, ⟨_, rfl⟩, ⟨_, rfl⟩, ⟨_, rfl⟩, ⟨_, rfl⟩, ⟨_, rfl⟩⟩

theorem witness_LoadsOfAddresses : demo.mode = .psd ∧ demo.priv = true ∧ base.mode = .psw ∧
    (∃ x u pa, resolve .operand mB (demo.start .word) = .ok x u ∧ u.translate .operand false x.ea.addr = .ok pa) ∧
    (∃ x u, resolve .operand mI (demo.start .word) = .ok x u) ∧
    (∃ x u, resolve .operand ⟨1, false, 0xFFFFF⟩ (base.start .word) = .ok x u) :=
  ⟨rfl, rfl, rfl, ⟨_, _, _, rfl, rfl⟩, ⟨_, _, rfl⟩, ⟨_, _, rfl⟩⟩

theorem witness_Files : demo.cfg.wf = true ∧ Memory.wf demo.mem = true ∧ demo.operandParity = false ∧
    ∃ x u pa, resolve .operand ⟨0, false, 0x7FFFC⟩ (demo.start .word) = .ok x u ∧ x.ea.addr.toNat / 4 % 8 = 7 ∧
      u.translate .operand false (BitVec.ofNat 24 (x.ea.addr.toNat / 32 * 32)) = .ok pa ∧
      storesTo u (BitVec.ofNat 24 (x.ea.addr.toNat / 32 * 32)) .word pa ∧ demo.installed pa.toNat 32 = true :=
  ⟨rfl, rfl, rfl, _, _, _, rfl, rfl, rfl, ⟨rfl, .inl rfl, rfl⟩, rfl⟩

/-- For Stores and AddToMemory: the place of an operand of each width, the last byte and doubleword of memory
among them. -/
theorem witness_Stores : Memory.wf demo.mem = true ∧ demo.operandParity = false ∧
    (∃ x u, resolve .operand ⟨0, false, 0xFFFFF⟩ (demo.start .word) = .ok x u ∧ x.ea.width = .byte ∧
      storesTo u (operandAddr .byte x.ea.addr) .byte 0x7FFFF) ∧
    (∃ x u, resolve .operand mH (demo.start .word) = .ok x u ∧ x.ea.width = .half ∧
      storesTo u (operandAddr .half x.ea.addr) .half 0x2000) ∧
    (∃ x u, resolve .operand mW (demo.start .word) = .ok x u ∧ x.ea.width = .word ∧
      storesTo u (operandAddr .word x.ea.addr) .word 0x2008) ∧
    (∃ x u, resolve .operand ⟨0, false, 0x7FFFA⟩ (demo.start .word) = .ok x u ∧ x.ea.width = .dword ∧
      storesTo u (operandAddr .dword x.ea.addr) .word 0x7FFF8 ∧ demo.installed 0x7FFF8 8 = true) :=
  ⟨rfl, rfl, ⟨_, _, rfl, rfl, ⟨rfl, .inl rfl, rfl⟩⟩, ⟨_, _, rfl, rfl, ⟨rfl, .inl rfl, rfl⟩⟩,
    ⟨_, _, rfl, rfl, ⟨rfl, .inl rfl, rfl⟩⟩, ⟨_, _, rfl, rfl, ⟨rfl, .inl rfl, rfl⟩, by decide⟩⟩

/-- For the register operations (RegisterWordOps, FixedPointRegister, Shifts, ShiftsOfPairs, Normalizes,
RegisterBits): results at and past the ends of the range. -/
theorem witness_FixedPointRegister : demo.quiet ∧ demo.arithEnabled = false ∧
    (demo.reg 7).toInt + (demo.reg 1).toInt = 2 ^ 31 ∧ -(demo.reg 2).toInt = 2 ^ 31 ∧
    (demo.reg 6).toInt + (demo.reg 2).toInt < -2 ^ 31 ∧ (demo.reg 7).toInt + (demo.reg 6).toInt < 2 ^ 31 :=
  ⟨quiet_demo, rfl, by decide, by decide, by decide, by decide⟩

theorem witness_ShiftsOfPairs : demo.quiet ∧ demo.arithEnabled = false ∧
    (demo.reg 1).toInt * 2 ^ (31 : BitVec 5).toNat = 2 ^ 31 ∧ (demo.reg 6).toInt * 2 ^ (31 : BitVec 5).toNat = -2 ^ 31 :=
  ⟨quiet_demo, rfl, by decide, by decide⟩

theorem witness_Normalizes : demo.quiet ∧ demo.reg 0 = 0 ∧ demo.reg 1 ≠ 0 := ⟨quiet_demo, rfl, by decide⟩

theorem witness_AddToMemory_bit : ∃ x u, resolve .operand ⟨0, false, 0x02004⟩ (demo.start .word) = .ok x u ∧
    storesTo u (wordAlign x.ea.addr) .word 0x2004 ∧
    (demo.peek 0x2004 .word).toInt + 2 ^ (31 - (8 * (x.ea.addr.toNat % 4) + (0 : BitVec 3).toNat)) = 2 ^ 31 :=
  ⟨_, _, rfl, ⟨rfl, .inl rfl, rfl⟩, by decide⟩

theorem witness_MemoryBits : ∃ x u, resolve .operand mH (demo.start .word) = .ok x u ∧
    storesTo u x.ea.addr .byte 0x2001 ∧ u.translate .operand false x.ea.addr = .ok 0x2001 ∧
    demo.present 0x2001 .byte = true :=
  ⟨_, _, rfl, ⟨rfl, .inl rfl, rfl⟩, rfl, rfl⟩

/-- The last quotient that fits, the first that does not, and a divisor of zero. -/
theorem witness_MultipliesAndDivides : demo.quiet ∧ demo.arithEnabled = false ∧
    (∃ u, operandNoDword mW (demo.start .word) = .ok 0x80000000 u) ∧
    (∃ u, operandNoDword mB (demo.start .word) = .ok 0x80 u) ∧
    (∃ u, operandNoDword mH (demo.start .word) = .ok 0xFFFF80FF u) ∧
    (let s := st [psd, r 2 0xFFFFFFFF, r 3 0x80000000];
      s.quiet ∧ (s.reg 2 ++ s.reg 3).toInt = 1 * (-2 ^ 31) + 0) ∧
    (let s := st [psd, r 2 0, r 3 0x80000000];
      s.quiet ∧ s.arithEnabled = false ∧ (s.reg 2 ++ s.reg 3).toInt.natAbs / (1 : Int).natAbs ≥ 2 ^ 31 ∧
        (s.reg 2 ++ s.reg 3).toInt.tdiv 1 ≠ -2 ^ 31) ∧
    (demo.reg 0).toInt = 0 :=
  ⟨quiet_demo, rfl, ⟨_, rfl⟩, ⟨_, rfl⟩, ⟨_, rfl⟩, ⟨⟨rfl, fun _ h => absurd h (by decide)⟩, by decide⟩,
    ⟨⟨rfl, fun _ h => absurd h (by decide)⟩, rfl, by decide, by decide⟩, by decide⟩

theorem witness_FloatInstructions : demo.quiet ∧ demo.arithEnabled = false ∧
    (∃ u, floatOperand mW (demo.start .word) = .ok (.word 0x80000000) u) ∧
    (∃ u, floatOperand mD (demo.start .word) = .ok (.dword 0x8000000000000000) u) ∧
    (fDiv (fDecode (demo.reg 1)) (fDecode (0 : Word)) : FResult 32).2.cc1 = true :=
  ⟨quiet_demo, rfl, ⟨_, rfl⟩, ⟨_, rfl⟩, rfl⟩

/-- The greatest and the least magnitude of a number, and what rounds past either end. -/
theorem witness_FloatResults :
    (∃ v c, fFinish 32 false 63 (0xFFFFFF * 16) = (some v, c)) ∧ (∃ v c, fFinish 64 true (-64) (2 ^ 52) = (some v, c)) ∧
    (∃ c, fFinish 32 false 63 (2 ^ 28 - 1) = (none, c)) ∧ (∃ c, fFinish 64 true (-64) 1 = (none, c)) ∧
    0 < 0xFFFFFF * 16 ∧ 0xFFFFFF * 16 < 2 ^ (32 + 40) ∧ 2 ^ 52 < 2 ^ (64 + 40) ∧
    (let x : FNum := ⟨false, 63, 2 ^ 24 - 1⟩;
      x.exp ≤ 63 ∧ 2 ^ (32 - 12) ≤ x.frac ∧ x.frac < 2 ^ (32 - 8)) ∧
    (let x : FNum := ⟨true, -64, 2 ^ 52⟩;
      -64 ≤ x.exp ∧ 2 ^ (64 - 12) ≤ x.frac ∧ x.frac < 2 ^ (64 - 8)) ∧
    ((1 : Int) * ((2 ^ 20 * 16 : Nat) : Int) + -1 * (((2 ^ 24 - 1) * 16 / 16 ^ 1 : Nat) : Int) ≠ 0 ∧
      (1 : Int) * ((2 ^ 52 * 1 : Nat) : Int) + -1 * ((2 ^ 52 * 1 / 16 ^ 0 : Nat) : Int) = 0) :=
  ⟨⟨_, _, rfl⟩, ⟨_, _, rfl⟩, ⟨_, rfl⟩, ⟨_, rfl⟩, by decide, by decide, by decide, by decide, by decide, by decide⟩

/-- A third: 7 digits 5555555, rounded to 555555; two thirds: AAAAAAA, rounded to AAAAAB (R565, R576). -/
theorem test_float_rounds :
    (fDiv (fDecode (0x41100000 : Word)) (fDecode (0x41300000 : Word)) : FResult 32).1 = some 0x40555555 ∧
    (fDiv (fDecode (0x41200000 : Word)) (fDecode (0x41300000 : Word)) : FResult 32).1 = some 0x40AAAAAB := ⟨rfl, rfl⟩

theorem witness_Branches : demo.quiet ∧ demo.cc.cc1 = true ∧ demo.cc.cc2 = false ∧
    (∃ x u, resolve .branch mW (demo.start .word) = .ok x u) ∧
    (∃ x u, resolve .branch mI (demo.start .word) = .ok x u) :=
  ⟨quiet_demo, rfl, rfl, ⟨_, _, rfl⟩, ⟨_, _, rfl⟩⟩

theorem witness_BranchesIncrementing : demo.quiet ∧ demo.reg 6 + 1 = 0 ∧ demo.reg 7 + 1 ≠ 0 ∧
    (∃ x u, resolve .branch ⟨0, true, 0x02018⟩ ((demo.start .word).setReg 7 (demo.reg 7 + 1)) = .ok x u) ∧
    demo.run = .run ∧ demo.panel.locked = false ∧ demo.lastBix = false ∧
    ({ demo with inputs := [[.key .runHalt]], lastBix := true } : State).inputs = [[.key .runHalt]] ∧
    (∀ k ∈ [PanelKey.instrStep, .runHalt], ∃ s : State, s.run = .halt ∧ s.panel.locked = false ∧ s.inputs = [[.key k]]) :=
  ⟨quiet_demo, rfl, by decide, ⟨_, _, rfl⟩, rfl, rfl, rfl, rfl,
    fun k _ => ⟨{ State.reset with inputs := [[.key k]] }, rfl, rfl, rfl⟩⟩

/-- A step with a halt asked for: after a BIx it waits, after a NOP it comes and the displays show it. -/
theorem witness_BranchesIncrementing_halt :
    (∃ s t : State, s.inputs = [] ∧ s.run = .run ∧ s.sensed = none ∧ s.haltReq = .key ∧ step s = .next t ∧
      t.lastBix = true ∧ t.run = .run) ∧
    (∃ s t : State, s.inputs = [] ∧ s.run = .run ∧ s.sensed = none ∧ s.haltReq = .key ∧ step s = .next t ∧
      t.lastBix = false ∧ t.panel.aDisplay = 0x80801002 ∧ t.panel.bDisplay = 0x00020000) :=
  ⟨⟨{ st [psw 0x80001000, w 0x1000 0xF4002000] with haltReq := .key }, _, rfl, rfl, rfl, rfl, rfl, rfl, rfl⟩,
    ⟨{ st [psd, psw 0x80001000, w 0x1000 0x00020000] with haltReq := .key }, _, rfl, rfl, rfl, rfl, rfl, rfl, rfl, rfl⟩⟩

/-- An instruction stop on a BIx and on a NOP; the operand stops at the last byte of a word, and one past it. -/
theorem witness_BranchesIncrementing_stops :
    (∀ x ∈ [((0xF4002000 : Word), true), (0x00020000, false)], ∃ (s t : State) (pa : Addr), s.inputs = [] ∧ s.run = .run ∧
      s.sensed = none ∧ s.translate .fetch false (fetchAddr s.pc) = .ok pa ∧ s.present pa .word = true ∧
      s.fetchParity = false ∧ s.stops.instr = true ∧ s.stops.addr.toNat / 2 = s.pc.toNat ∧ step s = .next t ∧
      t.lastBix = x.2 ∧ t.panel.stopLight = !x.2) ∧
    (∀ x ∈ [((0x2003 : Addr), HaltReq.stop), (0x2004, .none)], ∃ s t u : State, ∃ v : Word,
      s.translate .operand true 0x2000 = .ok 0x2000 ∧ s.translate .operand false 0x2000 = .ok 0x2000 ∧
      s.stops = ⟨x.1, false, true, true⟩ ∧ memWrite 0x2000 .word 7 s = .ok () t ∧ t.haltReq = x.2 ∧
      memRead .operand 0x2000 .word s = .ok v u ∧ u.haltReq = x.2) := by
  refine ⟨fun x hx => ?_, fun x hx => ?_⟩ <;>
    rcases List.mem_cons.mp hx with rfl | hx <;> try obtain rfl := List.mem_singleton.mp hx
  · exact ⟨{ st [psw 0x80001000, w 0x1000 0xF4002000] with stops := ⟨0x1000, true, false, false⟩ }, _, _, rfl, rfl, rfl, rfl,
      rfl, rfl, rfl, rfl, rfl, rfl, rfl⟩
  · exact ⟨{ st [psw 0x80001000, w 0x1000 0x00020000] with stops := ⟨0x1000, true, false, false⟩ }, _, _, rfl, rfl, rfl, rfl,
      rfl, rfl, rfl, rfl, rfl, rfl, rfl⟩
  · exact ⟨{ demo with stops := ⟨0x2003, false, true, true⟩ }, _, _, _, rfl, rfl, rfl, rfl, rfl, rfl, rfl⟩
  · exact ⟨{ demo with stops := ⟨0x2004, false, true, true⟩ }, _, _, _, rfl, rfl, rfl, rfl, rfl, rfl, rfl⟩

theorem witness_SpecialTransfers : demo.quiet ∧ demo.priv = true := ⟨quiet_demo, rfl⟩

/-- A task at the MPL entry of CPIX 0: one segment of 32 pages at 0x4200, all of them the valid block 3; and at
CPIX 1 no segment. A PSD2 for the first at 0x4004. -/
def mapDemo : State := st ([psd, psw 0x80001000, cell 0xF3 0x5000, w 0x5000 0x01004100, w 0x4100 0x20004200,
  w 0x4000 0x80003000, w 0x4004 0x80000000, w 0x4008 0x80003000, w 0x400C 0x80000004, w 0x4010 0, w 0x4014 0,
  w 0x5008 0x01004104, w 0x4104 0x02004200, w 0x401C 0x80000008, r 1 0x4000, r 2 0x4018, r 3 0x00000004, r 4 0x7FFFC,
  r 5 0x4010, r 6 0x00010000] ++
  (List.range 15).map fun k => w (0x4204 + 4 * k) 0x80038003)

theorem quiet_mapDemo : mapDemo.quiet := ⟨rfl, fun _ h => absurd h (by decide)⟩

theorem witness_MapLoading : mapDemo.mode = .psd ∧ mapDemo.priv = true ∧ mapDemo.mapActive = false ∧
    (∃ u, loadMap (switchErr false) 0x80000000 mapDemo = .ok 32 u) ∧
    (∃ u, loadMap (switchErr false) 0x80000004 mapDemo = .ok 0 u) ∧
    mapDemo.present (addrOf (mapDemo.reg 1) + 4) .word = true ∧ mapDemo.operandParity = false ∧
    (∃ n u, loadMap (switchErr false) (mapDemo.peek (addrOf (mapDemo.reg 1) + 4).toNat .word) (mapDemo.start .half) =
      .ok n u) :=
  ⟨rfl, rfl, rfl, ⟨_, rfl⟩, ⟨_, rfl⟩, rfl, rfl, ⟨_, _, rfl⟩⟩

/-- Unmapped; a page not loaded, one not valid, one valid; an external doubleword of the last page. -/
theorem witness_ExternalAccesses : mapDemo.mode = .psd ∧ mapDemo.priv = true ∧ mapDemo.operandParity = false ∧
    Memory.wf mapDemo.mem = true ∧ (let p2 := mapDemo.peek 0x4014 .word;
      bitAt p2 0 = false ∧ bitAt p2 1 = false) ∧
    (∃ u, loadMap (switchErr false) (mapDemo.peek 0x401C .word) mapDemo = .ok 2 u ∧
      (u.mapReg (BitVec.ofNat 5 ((0x00000 : BitVec 20).toNat / 32768))).toNat < 2 ^ 15 ∧
      2 ≤ (0x10000 : BitVec 20).toNat / 32768) ∧
    (∃ u, loadMap (switchErr false) (mapDemo.peek 0x4004 .word) mapDemo = .ok 32 u ∧
      2 ^ 15 ≤ (u.mapReg (BitVec.ofNat 5 ((0xFFFFF : BitVec 20).toNat / 32768))).toNat) ∧
    (∃ pa u, extTranslate (addrOf (mapDemo.reg 1)) (bits (mapDemo.reg 6) 12 20) (mapDemo.start .word) = .ok pa u ∧
      mapDemo.installed (operandAddr .dword pa).toNat 8 = true) :=
  ⟨rfl, rfl, rfl, rfl, ⟨rfl, rfl⟩, ⟨_, rfl, by decide, by decide⟩, ⟨_, rfl, by decide⟩, ⟨_, _, rfl, rfl⟩⟩

/-- The last WCS location, and the last word of the 19-bit space with the first one after it; with and without the
option, with and without a routine's reply. -/
theorem witness_ControlStore : ∃ (s : State) (rd rs : Reg) (pa pb : Addr), s.quiet ∧ s.priv = true ∧
    Sparse.wf (0 : Dword) s.wcs = true ∧ (s.reg rd).toNat = 4095 ∧ 4095 < s.cfg.wcsWords ∧ s.operandParity = false ∧
    Memory.wf s.mem = true ∧ s.ext = false ∧ (s.reg rs).toNat % 2 ^ 19 / 4 * 4 = 0x7FFFC ∧
    s.translate .operand false 0x7FFFC = .ok pa ∧
    s.translate .operand false (BitVec.ofNat 24 ((0x7FFFC + 4) % 2 ^ 19)) = .ok pb ∧
    s.present pa .word = true ∧ s.present pb .word = true ∧ storesTo s 0x7FFFC .word pa ∧
    storesTo s (BitVec.ofNat 24 ((0x7FFFC + 4) % 2 ^ 19)) .word pb :=
  ⟨st [psd, psw 0x80001000, r 2 4095, r 3 0x7FFFC], 2, 3, _, _, ⟨rfl, fun _ h => absurd h (by decide)⟩, rfl, rfl, rfl,
    by decide, rfl, rfl, rfl, rfl, rfl, rfl, rfl, rfl, ⟨rfl, .inl rfl, rfl⟩, ⟨rfl, .inl rfl, rfl⟩⟩

theorem witness_ControlStore_jump : demo.cfg.wcsWords ≠ 0 ∧ (∃ x u, resolve .operand mW (demo.start .word) = .ok x u) ∧
    demo.wcsReplies = [] ∧ Memory.wf demo.mem = true ∧
    ({ demo with wcsReplies := [⟨demo.regs, demo.cc, [(0x2000, 1), (0x2000, 2)]⟩] } : State).quiet :=
  ⟨by decide, ⟨_, _, rfl⟩, rfl, rfl, rfl, fun _ h => absurd h (by decide)⟩

/-- The second word of WWCS from the last word of the space is its first one (R104, R326). -/
theorem test_wwcs_wraps :
  run1 [psw 0x80001000, h 0x1000 0xAC, r 1 0x10, r 2 0x7FFFC, w 0x7FFFC 0x11111111, w 0 0x22222222] (fun t => decide (
        t.wcsAt 0x10 = 0x1111111122222222)) = true := rfl

/-- JWCS without the option: CC1, then Undefined Instruction, on its level in PSW mode (R57, R742, R780). -/
theorem test_jwcs_absent :
  run1 [psw 0x10001000, w 0x1000 0xFA000047, (fun s => { s with cfg := { s.cfg with wcsWords := 0 } })]
      (fun t => decide (t.cc = ⟨true, false, true, false⟩ ∧ t.pc = 0x802)) = true := rfl

theorem witness_PlainControls : demo.quiet ∧ demo.priv = true ∧ demo.mode = .psd ∧ demo.blocked = false ∧
    (st [psd, psw 0x80001000, (·.setBlocked true)]).blocked = true ∧
    (st [psd, psw 0x80001000, (·.setBlocked true)]).quiet :=
  ⟨quiet_demo, rfl, rfl, rfl, rfl, ⟨rfl, fun _ _ h => absurd h (by decide)⟩⟩

/-- Blocked, with the last count that no Block Mode Timeout follows. -/
theorem witness_CpuModeAndStatus : ∃ s : State, s.priv = true ∧ s.cfg.modeJumper = .psd ∧ s.blocked = true ∧
    s.blockCount = 127 ∧ s.mode = .psd :=
  ⟨st [psd, psw 0x80001000, (·.setBlocked true), (fun s => { s with blockCount := 127 })], rfl, rfl, rfl, rfl, rfl⟩

/-- A PSD2 that asks for a MAP, and what it loads. -/
theorem mapFor_mapDemo : ∃ v, mapFor (switchErr false) 0x80000000 mapDemo v ∧ v.mapReg 2 = 0x8003 :=
  ⟨_, .inr ⟨fun h => by
    rcases h with ⟨h, -⟩ | h
    · exact absurd h (by decide)
    · exact absurd h (by decide), _, rfl⟩, rfl⟩

theorem witness_LoadsOfPsd : mapDemo.quiet ∧ mapDemo.mode = .psd ∧ mapDemo.priv = true ∧ mapDemo.operandParity = false ∧
    (∃ x u pa, resolve .operand ⟨0, false, 0x04010⟩ (mapDemo.start .word) = .ok x u ∧
      u.translate .operand false (dwordAlign x.ea.addr) = .ok pa ∧ mapDemo.installed pa.toNat 8 = true ∧
      keepsMap (mapDemo.peek (pa.toNat + 4) .word)) ∧
    (∃ x u pa, resolve .operand ⟨0, false, 0x04000⟩ (mapDemo.start .word) = .ok x u ∧
      u.translate .operand false (dwordAlign x.ea.addr) = .ok pa ∧ mapDemo.installed pa.toNat 8 = true ∧
      mapDemo.peek (pa.toNat + 4) .word = 0x80000000) :=
  ⟨quiet_mapDemo, rfl, rfl, rfl, ⟨_, _, _, rfl, rfl, rfl, .inl ⟨rfl, rfl⟩⟩, ⟨_, _, _, rfl, rfl, rfl, rfl⟩⟩

/-- An indirect BRI in either mode, levels 0x14 and 0x7F active. -/
def active2 (s : State) : State := (s.setActive 0x14 true).setActive 0x7F true

theorem witness_BranchAndResetInterrupt :
    (active2 mapDemo).quiet ∧ (active2 mapDemo).priv = true ∧ (active2 mapDemo).mode = .psd ∧
    (active2 mapDemo).operandParity = false ∧ (active2 mapDemo).highestActive 0x14 ∧ mapDemo.active = 0 ∧
    (∃ pa, (active2 mapDemo).translate .operand false (dwordAlign ((active2 mapDemo).combine ⟨0, true, 0x04010⟩).addr) =
      .ok pa ∧ mapDemo.installed pa.toNat 8 = true ∧ keepsMap ((active2 mapDemo).peek (pa.toNat + 4) .word)) ∧
    (∃ pa, (active2 mapDemo).translate .operand false (dwordAlign ((active2 mapDemo).combine ⟨0, true, 0x04000⟩).addr) =
      .ok pa ∧ mapDemo.installed pa.toNat 8 = true ∧ (active2 mapDemo).peek (pa.toNat + 4) .word = 0x80000000) ∧
    (∃ pa, base.translate .operand false (wordAlign (base.combine ⟨0, true, 0x04010⟩).addr) = .ok pa ∧
      base.present pa .word = true) :=
  ⟨⟨rfl, fun _ h => absurd h (by decide)⟩, rfl, rfl, rfl, ⟨by decide, by decide⟩, rfl,
    ⟨_, rfl, rfl, .inl ⟨rfl, rfl⟩⟩, ⟨_, rfl, rfl, rfl⟩, ⟨_, rfl, rfl⟩⟩

/-- A register, its right half and a word of memory hold TRR R1,R2; the whole word an Execute, a PSD mode
instruction, an undefined one. -/
def execDemo : State := st [psd, psw 0x80001000, r 1 (encode (.trr 1 2)), r 2 (encode (.trr 1 2) >>> 16),
  w 0x2000 (encode (.trr 1 2))]

theorem witness_Executes : execDemo.quiet ∧
    execDemo.reg 1 = encode (.trr 1 2) ∧ execDemo.reg 2 <<< 16 = encode (.trr 1 2) ∧
    (∃ x u v, resolve .operand ⟨0, false, 0x02000⟩ (execDemo.start .word) = .ok x u ∧
      memRead .operand (wordAlign x.ea.addr) .word u = .ok (encode (.trr 1 2)) v ∧ x.ea.addr.toNat / 2 % 2 = 0) ∧
    decode (encode (.trr 1 2)) = .ok (.trr 1 2) ∧ needsPsd (.trr 1 2) = false ∧
    (∃ t, effectOf (.trr 1 2) (execDemo.start .word) = .ok () t ∧ effectRegs (execDemo.start .word) t) ∧
    decode 0xC8070000 = .ok (.exr 0) ∧ decode 0x00060000 = .ok .bei ∧ needsPsd .bei = true ∧
    decode 0x000A0000 = .error .unassignedAugment :=
  ⟨⟨rfl, fun _ h => absurd h (by decide)⟩, rfl, rfl, ⟨_, _, _, rfl, rfl, rfl⟩, rfl, rfl, ⟨_, rfl, rfl⟩, rfl, rfl, rfl, rfl⟩

/-- Levels with and without hardware behind them, and the two levels of the jumper. -/
theorem witness_LevelCommands :
    (let s := st [psw 0x80001000, rtom];
      s.quiet ∧ s.priv = true ∧ (isLevel 0x28 && !s.isClassF 0x28 && s.isWired 0x28) = true ∧
      (isLevel 0x29 && !s.isClassF 0x29 && s.isWired 0x29) = false ∧ s.cfg.level01 = .software) ∧
    (let s := st [psw 0x80001000, (fun s => { s with
        int := s.int.set 1 (some ⟨1, 14⟩), cfg := { s.cfg with level01 := .constant } })];
      s.quiet ∧ s.priv = true ∧ (isLevel 1 && !s.isClassF 1 && s.isWired 1) = true ∧
      decide (s.cfg.level01 = .constant ∧ (1 : Level).toNat < 2) = true) :=
  ⟨⟨⟨rfl, fun h => absurd h (by decide)⟩, rfl, rfl, rfl, rfl⟩, ⟨⟨rfl, fun h => absurd h (by decide)⟩, rfl, rfl, rfl⟩⟩

/-- Device 5 of class E, channel 8 of class F, device 9 absent. -/
def devDemo : State := st [psd, psw 0x80001000, chan8, w 0x148 0x2000, w 0x2010 0x3000,
  (fun s => { s with dev := s.dev.set 5 (some ⟨0, 0xE, 0x18, 1, 0⟩), ecwcsArmed := some 8 })]

theorem quiet_devDemo : devDemo.quiet := ⟨rfl, fun _ h => absurd h (by decide)⟩

theorem witness_DeviceCommands : devDemo.quiet ∧ devDemo.priv = true ∧ devDemo.mode = .psd ∧ devDemo.devAt 9 = none ∧
    (∃ e, devDemo.devAt 5 = some e ∧ e.cls ≠ 0xF) ∧ (∃ e, devDemo.devAt 8 = some e ∧ e.cls = 0xF) ∧
    (st [psw 0x80001000, chan8]).mode = .psw ∧ (∃ e, (st [psw 0x80001000, chan8]).devAt 8 = some e ∧ e.cls = 0xF) ∧
    (∃ a rest, ({ devDemo with devReplies := [some ⟨true, false, false, false⟩] } : State).devReplies = some a :: rest) ∧
    (∃ rest, ({ devDemo with devReplies := [none] } : State).devReplies = none :: rest) :=
  ⟨quiet_devDemo, rfl, rfl, rfl, ⟨_, rfl, by decide⟩, ⟨_, rfl, rfl⟩, rfl, ⟨_, rfl, rfl⟩, ⟨_, _, rfl⟩, ⟨_, rfl⟩⟩

/-- Channel 8 by the constant alone and by an index register, WCWCS armed. -/
theorem witness_ChannelInstructions : ∃ (s : State) (d : DevEntry) (rest : List (Option ChanReply)),
    s.quiet ∧ s.mode = .psd ∧ s.priv = true ∧ s.operandParity = false ∧
    BitVec.ofNat 7 (((0x0801 : Half).toNat + 0) % 65536 / 256) = (8 : BitVec 7) ∧
    BitVec.ofNat 7 (((0xF803 : Half).toNat + (s.reg 1).toNat) % 65536 / 256) = (8 : BitVec 7) ∧
    s.devAt 8 = some d ∧ d.cls = 0xF ∧ s.chanReplies = some ⟨.queued, 0⟩ :: rest ∧
    s.present (ivlOf d.level) .word = true ∧
    s.present (addrOf (s.peek (ivlOf d.level).toNat .word) + 16) .word = true ∧ s.ecwcsArmed = some 8 :=
  ⟨{ (devDemo.setReg 1 0x1000) with chanReplies := [some ⟨.queued, 0⟩] }, _, _, ⟨rfl, fun _ h => absurd h (by decide)⟩, rfl, rfl,
    rfl, rfl, rfl, rfl, rfl, rfl, rfl, rfl, rfl⟩

theorem witness_ChannelRefusals : devDemo.quiet ∧ devDemo.devAt 9 = none ∧
    (∃ d, devDemo.devAt 5 = some d ∧ d.cls ≠ 0xF) ∧
    (∃ (s : State) (d : DevEntry), s.devAt 8 = some d ∧ d.cls = 0xF ∧ s.ecwcsArmed ≠ some 8 ∧ s.mode = .psd ∧ s.priv = true) ∧
    (∃ (s : State) (rest : List (Option ChanReply)), s.chanReplies = none :: rest ∧ s.mode = .psd ∧ s.priv = true ∧ s.quiet) ∧
    (∃ (s : State) (d : DevEntry), s.quiet ∧ s.devAt 8 = some d ∧ d.cls = 0xF ∧ s.operandParity = false ∧
      Memory.wf s.mem = true ∧ s.present (ivlOf d.level) .word = true ∧ s.ecwcsArmed = some 8 ∧
      s.present (addrOf (s.peek (ivlOf d.level).toNat .word) + 16) .word = true ∧
      s.present (addrOf (s.peek (ivlOf d.level).toNat .word) + 20) .word = true ∧
      s.chanReplies = some ⟨.statusStored, 0x4000⟩ :: []) :=
  ⟨quiet_devDemo, rfl, ⟨_, rfl, by decide⟩, ⟨{ devDemo with ecwcsArmed := none }, _, rfl, rfl, by decide, rfl, rfl⟩,
    ⟨{ devDemo with chanReplies := [none] }, _, rfl, rfl, rfl, ⟨rfl, fun _ h => absurd h (by decide)⟩⟩,
    ⟨{ devDemo with chanReplies := [some ⟨.statusStored, 0x4000⟩] }, _, ⟨rfl, fun _ h => absurd h (by decide)⟩, rfl, rfl,
      rfl, rfl, rfl, rfl, rfl, rfl, rfl⟩⟩

/-- Unprivileged in PSD mode, blocked. -/
theorem witness_TrappingInstructions : base.mode = .psw ∧ needsPsd .bei = true ∧ needsPriv .halt = true ∧
    needsPsd .halt = false ∧ base.priv = false ∧
    (let s := st [psd, psw 0x80001000, (·.setBlocked true), r 1 4095, r 2 4096, (fun s => { s with
        cfg := { s.cfg with modeJumper := .psw, wcsWords := 2048 } })];
      s.mode = .psd ∧ s.priv = true ∧ s.cfg.modeJumper = .psw ∧ s.blocked = true ∧
      s.cfg.wcsWords ≤ (s.reg 1).toNat ∧ 4095 < (s.reg 2).toNat) ∧
    ({ demo with cfg := { demo.cfg with wcsWords := 0 } } : State).cfg.wcsWords = 0 :=
  ⟨rfl, rfl, rfl, rfl, rfl, ⟨rfl, rfl, rfl, rfl, by decide, by decide⟩, rfl⟩

/-- Vectors to an ICB at 0x600, the secondary SVC vector 3 to another at 0x700; System Check's new PSD asks for the MAP
of `mapDemo`. -/
def trapDemo : State := [(fun s => { s with psdTrapEn := true }), w 0x198 0x600, w 0x180 0x500, w 0x50C 0x700,
  w 0x608 0x80004000, w 0x708 0x80004000, w 0x70C 0x00004000, w 0x188 0x800, w 0x808 0x80004000,
  w 0x80C 0x80000000].foldl (fun s f => f s) mapDemo

theorem witness_TrapEntry : trapDemo.mode = .psd ∧ trapDemo.psdTrapEn = true ∧ trapDemo.cfg.wf = true ∧
    trapDemo.between = [] ∧ Memory.wf trapDemo.mem = true ∧ trapDemo.operandParity = false ∧
    trapDemo.present (Trap.ivl .privilege) .word = true ∧
    trapDemo.installed (addrOf (trapDemo.peek 0x198 .word)).toNat 20 = true ∧ keepsMap (trapDemo.peek 0x60C .word) ∧
    trapDemo.present (addrOf (trapDemo.peek 0x180 .word) + BitVec.ofNat 24 (4 * (3 : BitVec 4).toNat)) .word = true ∧
    trapDemo.installed (addrOf (trapDemo.peek 0x50C .word)).toNat 20 = true ∧ keepsMap (trapDemo.peek 0x70C .word) ∧
    (trapDemo.peek 0x188 .word = 0x800 ∧ trapDemo.peek 0x80C .word = 0x80000000 ∧
      ∃ v, loadMap (switchErr false) 0x80000000 (((((trapDemo.setCell cpuStatCell 1).poke 0x800 .word
        trapDemo.storedPsd1).poke 0x804 .word trapDemo.storedPsd2).poke 0x810 .word 1)) = .ok 32 v) :=
  ⟨rfl, rfl, rfl, rfl, rfl, rfl, rfl, rfl, .inl ⟨rfl, rfl⟩, rfl, rfl, .inl ⟨rfl, rfl⟩, rfl, rfl, _, rfl⟩

theorem witness_TrapHalts : demo.mode = .psd ∧ Trap.arms .mapFault = true ∧
    Trap.arms (.ofDevice ⟨0, 0xF, 0x16, 1, 0⟩ (.systemCheck 0)) = true ∧ demo.psdTrapEn = false ∧ demo.between = [] ∧
    demo.installed 0x530 20 = true ∧ Memory.wf demo.mem = true := ⟨rfl, rfl, rfl, rfl, rfl, rfl, rfl⟩

/-- CD to a Class F channel without the PSD traps: a trap halt (R672, R790); one without a device, shown (R844). -/
theorem test_trap_halt :
  run1 [psd, psw 0x80001000, chan8, w 0x1000 0xFC468000] (fun t => decide (
        t.run = .halt ∧ t.pc = 0xC4 ∧ t.stat = 0x80000001 ∧ t.interruptLight = true)) = true ∧
  run1 [psd, psw 0x80001000, w 0x1000 0x000A0000, w 0x194 0x1234] (fun t => decide (
        t.peek 0x538 .word = 0x00080001 ∧ t.peek 0x53C .word = 0 ∧ t.panel.bDisplay = 0x1234)) = true := ⟨rfl, rfl⟩

/-- Undefined Instruction on an enabled level and on one that a request above it holds back; an interrupt on the
level of the clock. -/
theorem witness_PswInterrupts :
    (let s := st [(·.setEnabled 0x25 true)];
      s.mode = .psw ∧ Trap.pswLevel (.undefined false) = some 0x25 ∧ s.enabledEff.getLsbD 0x25 = true ∧ s.active = 0 ∧
      s.request = 0) ∧
    (let s := st [(·.setEnabled 0x25 true), (·.setRequest 0x24 true)];
      s.enabledEff.getLsbD 0x25 = true ∧ s.request.getLsbD 0x24 = true) ∧
    (let s := st [w 0x1A0 0xFFFFF, (fun s => { s with cfg := { s.cfg with memBytes := 0x80004 - 0x80004 % 32768 + 32768 } })];
      s.mode = .psw ∧ s.between = [] ∧ Memory.wf s.mem = true ∧ s.operandParity = false ∧ s.present (ivlOf 0x28) .word = true ∧
      (s.peek (ivlOf 0x28).toNat .word).toNat % 2 ^ 19 / 4 * 4 = 0x7FFFC ∧ s.installed 0x7FFFC 8 = true) :=
  ⟨⟨rfl, rfl, rfl, rfl, rfl⟩, ⟨rfl, rfl⟩, ⟨rfl, rfl, rfl, rfl, rfl, rfl, rfl⟩⟩

/-- An RTOM level and a Class F level; a new PSD that blocks without activating, and one that asks for a MAP. -/
def intDemo : State := [chan8, rtom, w 0x1A0 0x600, w 0x148 0x700, w 0x608 0x80004000, w 0x60C 0x80000000,
  w 0x708 0x80004000, w 0x70C 0x00004000, (fun s => { s with ackReplies := [0x1234] })].foldl (fun s f => f s) mapDemo

theorem witness_InterruptEntryPsd : intDemo.mode = .psd ∧ intDemo.cfg.wf = true ∧ intDemo.between = [] ∧
    Memory.wf intDemo.mem = true ∧
    intDemo.operandParity = false ∧ intDemo.present (ivlOf 0x28) .word = true ∧ intDemo.present (ivlOf 0x16) .word = true ∧
    (addrOf (intDemo.peek (ivlOf 0x28).toNat .word)).toNat = 0x600 ∧ intDemo.installed 0x600 24 = true ∧
    (addrOf (intDemo.peek (ivlOf 0x16).toNat .word)).toNat = 0x700 ∧ intDemo.installed 0x700 24 = true ∧
    (∃ v, loadMap (intErr intDemo 0x28) (intDemo.peek 0x60C .word)
      ((intDemo.poke 0x600 .word intDemo.storedPsd1).poke 0x604 .word intDemo.storedPsd2) = .ok 32 v) ∧
    keepsMap (intDemo.peek 0x70C .word) ∧
    bitAt (intDemo.peek 0x60C .word) 17 = false ∧ bitAt (intDemo.peek 0x70C .word) 16 = false ∧
    bitAt (intDemo.peek 0x70C .word) 17 = true ∧ intDemo.isClassF 0x28 = false ∧ intDemo.isClassF 0x16 = true ∧
    (∃ s : State, s.mode = .psd ∧ s.between = [] ∧ s.present (ivlOf 0x16) .word = false ∧ s.isClassF 0x16 = true) :=
  ⟨rfl, rfl, rfl, rfl, rfl, rfl, rfl, rfl, rfl, rfl, rfl, ⟨_, rfl⟩, .inl ⟨rfl, rfl⟩, rfl, rfl, rfl, rfl, rfl,
    ⟨{ intDemo with cfg := { intDemo.cfg with memBytes := 0 } }, rfl, rfl, rfl, rfl⟩⟩

/-- The exception enabled in PSD mode and in PSW mode; a sum just out of range, and a divisor of zero. -/
theorem witness_ArithmeticException :
    (let s := st [psd, psw 0x81001000, r 7 0x7FFFFFFF, r 1 1];
      s.arithEnabled = true ∧ (s.reg 7).toInt + (s.reg 1).toInt = 2 ^ 31 ∧ s.reg 0 = 0 ∧
      ∃ u, effectOf (.adr 7 1) s = .stop (.trap .arithmetic) u) ∧
    (st [(·.setEnabled 0x29 true)]).arithEnabled = true ∧
    (let s := st [psd, psw 0x81001000, r 7 0x7FFFFFFF, r 1 1, w 0x2008 0x80000000, r 2 0x80000000];
      (∃ u, effectOf (.adr 7 1) (s.arithOff.start .half) = .ok () u ∧ u.cc.cc1 = true) ∧
      (∃ u, effectOf (.adr 1 1) (s.arithOff.start .half) = .ok () u ∧ u.cc.cc1 = false) ∧
      (∃ x v, resolve .operand mW (s.start .word) = .ok x v ∧ x.ea.width = .word) ∧
      ∃ u, effectOf (.armw 2 mW) (s.arithOff.start .word) = .ok () u ∧ u.cc.cc1 = true) :=
  ⟨⟨rfl, rfl, rfl, ⟨_, rfl⟩⟩, rfl, ⟨_, rfl, rfl⟩, ⟨_, rfl, rfl⟩, ⟨_, _, rfl, rfl⟩, _, rfl, rfl⟩

/-- A NOP in the blocked state at the last count without and the first count with the timeout. -/
theorem witness_BlockModeTimeout : ∀ n ∈ [127, 128], ∃ s u : State, s.blockCount = n ∧
    effectOf .nop (s.start Instr.nop.len) = .ok () u ∧ u.mode = .psd ∧ u.run ≠ .halt ∧ u.bmtEn = true ∧
    s.blocked = true ∧ u.blocked = true ∧ u.blockCount = s.blockCount := by
  intro n hn
  refine ⟨st [psd, psw 0x80001000, (·.setBlocked true), (fun s => { s with bmtEn := true, blockCount := n })], _, rfl, rfl,
    rfl, ?_, rfl, rfl, rfl, rfl⟩
  show Run.run ≠ Run.halt
  decide

theorem witness_Vectors : isLevel 0x12 = true ∧ isLevel 0x7F = true ∧ isLevel 0x11 = false := ⟨rfl, rfl, rfl⟩

theorem witness_SystemReset : ∃ s : State, s.run = .halt ∧ s.panel.locked = false ∧ s.inputs = [[.key .systemReset]] ∧
    s.cfg.mplCell ≠ cpuStatCell :=
  ⟨{ State.reset with inputs := [[.key .systemReset]] }, rfl, rfl, rfl, by decide⟩

/-- A state of the invariant whose step stores a word. -/
theorem witness_StepKeepsInv : ∃ s t : State, s.Inv ∧ step s = .next t ∧ t.mem ≠ s.mem :=
  ⟨st [psd, psw 0x80001000, w 0x1000 0xD4802000, r 1 5], _,
    ⟨rfl, by decide, rfl, by decide, rfl, fun _ => rfl, fun _ => rfl, fun _ => rfl, rfl, rfl, rfl, rfl, rfl⟩, rfl,
    by decide⟩

theorem witness_Unprivileged : base.priv = false ∧ base.wcsReplies = [] ∧ base.between = [] ∧
    (∃ t, effectOf (.stw 1 mW) base = .ok () t) ∧
    (let s := st [psw 0, p 0 0x8000];
      s.priv = false ∧ s.pageProtected 0x7800 = true ∧ ∃ e t, effectOf (.stw 1 ⟨0, false, 0x07800⟩) s = .stop e t) ∧
    (mappedState.priv = false ∧ mappedState.mapActive = true ∧
      ∀ q : BitVec 5, bitAt (mappedState.mapReg q) 0 = true → bits (mappedState.mapReg q) 7 9 = bits (0xFF8000 : Addr) 0 9 →
        bitAt (mappedState.mapReg q) 1 = true) :=
  ⟨rfl, rfl, rfl, ⟨_, rfl⟩, ⟨rfl, rfl, _, _, rfl⟩, rfl, rfl, by decide⟩

/-! ### The panel and the environment -/

/-- The state after one boundary's events, run or halted. -/
def after (es : List EnvEvent) (s : State) : State := boundary { s with inputs := [es] }

/-- READ EA of BIH, whose bits 9-10 are no index field (R351, R843); of an LW with an index. -/
theorem test_panel_ea :
    (after [.key .readEa] { st [r 2 0x100, w 0x1000 0xF4202000] with run := .halt, panel :=
      { base.panel with aDisplay := 0x1000 } }).panel.bDisplay = 0x2000 ∧
    (after [.key .readEa] { st [r 2 0x100, w 0x1000 0xACC02000] with run := .halt, panel :=
      { base.panel with aDisplay := 0x1000 } }).panel.bDisplay = 0x2100 := ⟨rfl, rfl⟩

/-- The STOP light: on after an operand stop's instruction, LW of the compare address; out at the RUN key (R842). -/
theorem test_stop_light :
    (let s : State := { st [psw 0x80001000, w 0x1000 0xAC802000] with stops := ⟨0x2002, false, true, false⟩ };
      ∃ t, step s = .next t ∧ t.run = .halt ∧ t.panel.stopLight = true ∧ t.pc = 0x802 ∧
        (after [.key .runHalt] t).panel.stopLight = false) := ⟨_, rfl, rfl, rfl, rfl, rfl⟩

/-- The digits of R848: nonpresent memory, a key that the running CPU or the lock refuses. -/
theorem test_panel_faults :
    (let s : State := { small with run := .halt, panel := { small.panel with aDisplay := 0x8000, bDisplay := 0xABCDEF99 } };
      (after [.key .readMd] s).panel.bDisplay = 0xABCDEF94 ∧ (after [.key .readMd] { s with run := .run }).panel.bDisplay =
        0xABCDEF92 ∧ (after [.key (.lock true), .key .readMd] s).panel.bDisplay = 0xABCDEF92) := ⟨rfl, rfl, rfl⟩

/-- PSD1 as displayed after WRITE PSD2 has taken the MAP MODE away: bit 9 is off (R33). -/
theorem test_display_mapped :
    (let s : State := { st [psd] with run := .halt, mapActive := true, psd2 := 0x80000000 };
      bitAt (after [.key .readPsw] s).panel.aDisplay 9 = true ∧
      bitAt (after [.key (.enter 0), .key .writePsd2, .key .readPsw] s).panel.aDisplay 9 = false) := ⟨rfl, rfl⟩

/-- A SelBUS failure listed before a power fail comes after it (R733): its Machine Check interrupts the power fail's
handler. -/
theorem test_power_fail_first :
    (let s := after [.busFailure 0x40 none, .powerFail] (st [psd, psw 0x80001000, w 0xF4 0x600, w 0x608 0x80002000,
        w 0x184 0x700, w 0x708 0x80003000, (fun s => { s with psdTrapEn := true })]);
      s.pc = 0x1800 ∧ s.peek 0x600 .word = 0x80001000 ∧ s.peek 0x700 .word = 0x80002000) := ⟨rfl, rfl, rfl⟩

/-! ### The sample configuration deck of R722 -/

theorem test_icl_device :
    parseRecord "*DEV04=0E140100,04".toList = some (.dev 4 0 14 0x14 1 0 4) := by decide

theorem test_icl_levels :
    parseRecord "*INT28=16".toList = some (.int 0x28 1 6) ∧ parseRecord "*END".toList = some .stop ∧
    parseRecord "*DEV78=01207800".toList = some (.dev 0x78 0 1 0x20 0x78 0 1) ∧ parseRecord "*JUNK".toList = none := by
  and_intros <;> decide

/-- A word placed for the next fetch is what the next step runs. -/
theorem test_withFetchWord :
    step (State.reset.withFetchWord 32 0xAC801000) =
      exec (.lw 1 ⟨0, false, 0x01000⟩) (State.reset.withFetchWord 32 0xAC801000) := rfl

end Sys2Proof.Tests
end

section
/-!
The protected state under an unprivileged program (R38, R601). `KeepsProtected` is a rule for each piece of an
instruction, closed under `Res.bind`; an instruction is privileged, and then does not complete, or is Execute, which
is its target, or is built of pieces that keep the protected state whatever the privilege.
-/

namespace Sys2Proof.Machine

/-! ### States with the same protected part -/

theorem ProtectedSame.refl (s : State) : ProtectedSame s s := by constructor <;> intros <;> rfl

theorem ProtectedSame.trans {s t u : State} (h : ProtectedSame s t) (h' : ProtectedSame t u) : ProtectedSame s u where
  priv := h'.priv.trans h.priv
  aexp := h'.aexp.trans h.aexp
  psd2 := h'.psd2.trans h.psd2
  mode := h'.mode.trans h.mode
  bmtEn := h'.bmtEn.trans h.bmtEn
  psdTrapEn := h'.psdTrapEn.trans h.psdTrapEn
  scratch := h'.scratch.trans h.scratch
  mapRegs := h'.mapRegs.trans h.mapRegs
  mapActive := h'.mapActive.trans h.mapActive
  blocked := h'.blocked.trans h.blocked
  prot := h'.prot.trans h.prot
  enabled := h'.enabled.trans h.enabled
  active := h'.active.trans h.active
  request := fun l hl => (h'.request l hl).trans (h.request l hl)
  noIntNext := h'.noIntNext.trans h.noIntNext
  run := h'.run.trans h.run
  wcs := h'.wcs.trans h.wcs
  ecwcsArmed := h'.ecwcsArmed.trans h.ecwcsArmed
  dev := h'.dev.trans h.dev
  int := h'.int.trans h.int
  csw := h'.csw.trans h.csw
  stops := h'.stops.trans h.stops
  cfg := h'.cfg.trans h.cfg

/-- `t` differs from `s` only in what a program may change by instructions of its own, and in what the environment
supplies: no protected field is listed. -/
def openOnly (s t : State) : Prop :=
  t = { s with
    regs := t.regs, cc := t.cc, ext := t.ext, pc := t.pc, mem := t.mem, haltReq := t.haltReq, lastBix := t.lastBix,
    between := t.between, wcsReplies := t.wcsReplies, sent := t.sent, freeCount := t.freeCount }

theorem ProtectedSame.of_openOnly {s t : State} (h : openOnly s t) : ProtectedSame s t := by
  unfold openOnly at h
  rw [h]
  constructor <;> intros <;> rfl

theorem openOnly_interleave (s : State) : openOnly s s.interleave := by
  unfold openOnly
  rw [(interleave_spec s).1]

theorem openOnly_poke (s : State) (a : Nat) (n : Size) (v : Word) : openOnly s (s.poke a n v) := by
  unfold openOnly
  rw [poke_eq]

theorem openOnly_storeAll (l : List (Addr × Byte)) (s : State) : openOnly s (storeAll l s) := by
  unfold openOnly
  rw [(storeAll_spec l s).1]

theorem openOnly_setFile (r : Reg) (vs : List Word) (s : State) : openOnly s (setFile r vs s) := by
  induction vs generalizing r s with
  | nil => rfl
  | cons v vs ih =>
    have h := ih (r + 1) (s.setReg r v)
    unfold openOnly at h ⊢
    rw [setFile, h]
    rfl

theorem openOnly_wcsRoutine (s : State) : openOnly s (wcsRoutine s) := by
  unfold wcsRoutine
  split
  · rfl
  · next r rest _ =>
    have h := openOnly_storeAll r.stores s
    unfold openOnly at h ⊢
    rw [h]

theorem openOnly_branchTo (t : Target) (s : State) : openOnly s (branchTo t s) := by
  unfold branchTo
  split <;> rfl

/-! ### The rule, and how it passes through an instruction -/

/-- Where `x`, run in `s`, completes, the protected state is that of `s`. -/
def KeepsProtected {α : Type} (s : State) (x : Res α) : Prop := ∀ a t, x = .ok a t → ProtectedSame s t

section Rules

variable {α β : Type} {s t : State} {x : Res α} {f : α → State → Res β}

theorem KeepsProtected.stop (s : State) (e : Stop) (t : State) : KeepsProtected s (.stop e t : Res α) := by
  intro a u h
  cases h

theorem KeepsProtected.ok {a : α} (h : ProtectedSame s t) : KeepsProtected s (.ok a t) := by
  intro b u hu
  cases hu
  exact h

/-- A piece that ends by assigning fields a program may change. -/
theorem KeepsProtected.done {a : α} (h : openOnly s t) : KeepsProtected s (.ok a t) := .ok (.of_openOnly h)

theorem KeepsProtected.bind (hx : KeepsProtected s x) (hf : ∀ a t, ProtectedSame s t → KeepsProtected t (f a t)) :
    KeepsProtected s (x.bind f) := by
  intro b u h
  obtain ⟨a, t, h1, h2⟩ := Res.bind_eq_ok h
  exact (hx a t h1).trans (hf a t (hx a t h1) b u h2)

end Rules

theorem arithCheck_keepsProtected {s u : State} (h : openOnly s u) : KeepsProtected s (arithCheck u) := by
  unfold arithCheck
  split
  · exact .stop _ _ _
  · exact .done h

theorem requirePsd_keepsProtected (s : State) : KeepsProtected s (requirePsd s) := by
  unfold requirePsd
  split
  · exact .stop _ _ _
  · exact .done rfl

/-! ### Accesses to memory -/

theorem memRead_keepsProtected (k : Access) (a : Addr) (n : Size) (s : State) : KeepsProtected s (memRead k a n s) := by
  intro v t h
  obtain ⟨pa, -, -, -, -, rfl⟩ := memRead_ok h
  exact (ProtectedSame.of_openOnly (openOnly_interleave s)).trans (.of_openOnly rfl)

theorem memWrite_keepsProtected (a : Addr) (n : Size) (v : Word) (s : State) : KeepsProtected s (memWrite a n v s) := by
  intro x t h
  obtain ⟨pa, -, -, -, rfl⟩ := memWrite_ok h
  exact ((ProtectedSame.of_openOnly (openOnly_interleave s)).trans (.of_openOnly (openOnly_poke _ _ _ _))).trans
    (.of_openOnly rfl)

theorem locked_keepsProtected {α : Type} {x : State → Res α} (hx : ∀ s, KeepsProtected s (x s)) (s : State) :
    KeepsProtected s (locked x s) := by
  unfold locked
  split
  · next a t h =>
    have hs : ProtectedSame s { s with between := [] } := .of_openOnly rfl
    have ht : ProtectedSame s t := hs.trans (hx _ a t h)
    exact .ok (ht.trans (.of_openOnly rfl))
  · exact .stop _ _ _

theorem chase_keepsProtected (k : Access) (n : Nat) (m : MemRef) (w : Option Word) (s : State) :
    KeepsProtected s (chase k n m w s) := by
  induction n generalizing m w s with
  | zero => exact .stop _ _ _
  | succ n ih =>
    unfold chase
    split
    · exact (memRead_keepsProtected _ _ _ _).bind fun v t _ => ih _ _ _
    · exact .done rfl

theorem resolve_keepsProtected (k : Access) (m : MemRef) (s : State) : KeepsProtected s (resolve k m s) :=
  chase_keepsProtected _ _ _ _ _

theorem readDword_keepsProtected (k : Access) (a : Addr) (s : State) : KeepsProtected s (readDword k a s) :=
  (memRead_keepsProtected _ _ _ _).bind fun _ _ _ => (memRead_keepsProtected _ _ _ _).bind fun _ _ _ => .done rfl

theorem writeDword_keepsProtected (a : Addr) (v : Dword) (s : State) : KeepsProtected s (writeDword a v s) :=
  (memWrite_keepsProtected _ _ _ _).bind fun _ _ _ => memWrite_keepsProtected _ _ _ _

theorem readAt_keepsProtected (w : Width) (a : Addr) (s : State) : KeepsProtected s (readAt w a s) := by
  cases w with
  | byte => exact (memRead_keepsProtected _ _ _ _).bind fun _ _ _ => .done rfl
  | half => exact (memRead_keepsProtected _ _ _ _).bind fun _ _ _ => .done rfl
  | word => exact (memRead_keepsProtected _ _ _ _).bind fun _ _ _ => .done rfl
  | dword => exact (readDword_keepsProtected _ _ _).bind fun _ _ _ => .done rfl

theorem writeAt_keepsProtected (a : Addr) (o : Operand) (s : State) : KeepsProtected s (writeAt a o s) := by
  cases o with
  | byte v => exact memWrite_keepsProtected _ _ _ _
  | half v => exact memWrite_keepsProtected _ _ _ _
  | word v => exact memWrite_keepsProtected _ _ _ _
  | dword v => exact writeDword_keepsProtected _ _ _

theorem operand_keepsProtected (m : MemRef) (s : State) : KeepsProtected s (operand m s) :=
  (resolve_keepsProtected _ _ _).bind fun _ _ _ => readAt_keepsProtected _ _ _

theorem floatOperand_keepsProtected (m : MemRef) (s : State) : KeepsProtected s (floatOperand m s) :=
  (resolve_keepsProtected _ _ _).bind fun _ _ _ => readAt_keepsProtected _ _ _

theorem operandNoDword_keepsProtected (m : MemRef) (s : State) : KeepsProtected s (operandNoDword m s) := by
  refine (resolve_keepsProtected _ _ _).bind fun t u _ => ?_
  cases t.ea.width with
  | byte => exact (memRead_keepsProtected _ _ _ _).bind fun _ _ _ => .done rfl
  | half => exact (memRead_keepsProtected _ _ _ _).bind fun _ _ _ => .done rfl
  | word => exact memRead_keepsProtected _ _ _ _
  | dword => exact memRead_keepsProtected _ _ _ _

theorem bitAddress_keepsProtected (m : MemRef) (s : State) : KeepsProtected s (bitAddress m s) :=
  (resolve_keepsProtected _ _ _).bind fun _ _ _ => .done rfl

theorem readFile_keepsProtected (n : Nat) (a : Addr) (s : State) : KeepsProtected s (readFile n a s) := by
  induction n generalizing a s with
  | zero => exact .done rfl
  | succ n ih => exact (memRead_keepsProtected _ _ _ _).bind fun _ _ _ => (ih _ _).bind fun _ _ _ => .done rfl

theorem writeFile_keepsProtected (n : Nat) (r : Reg) (a : Addr) (s : State) :
    KeepsProtected s (writeFile n r a s) := by
  induction n generalizing r a s with
  | zero => exact .done rfl
  | succ n ih => exact (memWrite_keepsProtected _ _ _ _).bind fun _ _ _ => ih _ _ _

/-! ### The families of unprivileged instructions -/

/-- An operand fetched, then anything that keeps the protected state. -/
theorem operand_bind_keepsProtected {m : MemRef} {s : State} {f : Operand → State → Res Unit}
    (hf : ∀ o t, KeepsProtected t (f o t)) : KeepsProtected s ((operand m s).bind f) :=
  (operand_keepsProtected m s).bind fun o t _ => hf o t

theorem load_keepsProtected (r : Reg) (m : MemRef) (s : State) : KeepsProtected s (load r m s) :=
  operand_bind_keepsProtected fun o _ => by cases o <;> exact .done rfl

theorem loadMasked_keepsProtected (r : Reg) (m : MemRef) (s : State) : KeepsProtected s (loadMasked r m s) :=
  operand_bind_keepsProtected fun o _ => by cases o <;> exact .done rfl

theorem loadNegative_keepsProtected (r : Reg) (m : MemRef) (s : State) : KeepsProtected s (loadNegative r m s) :=
  operand_bind_keepsProtected fun o _ => by cases o <;> exact arithCheck_keepsProtected rfl

theorem addMemory_keepsProtected (r : Reg) (m : MemRef) (s : State) : KeepsProtected s (addMemory r m s) :=
  operand_bind_keepsProtected fun o _ => by cases o <;> exact arithCheck_keepsProtected rfl

theorem subMemory_keepsProtected (r : Reg) (m : MemRef) (s : State) : KeepsProtected s (subMemory r m s) :=
  operand_bind_keepsProtected fun o _ => by cases o <;> exact arithCheck_keepsProtected rfl

theorem compare_keepsProtected (r : Reg) (m : MemRef) (s : State) : KeepsProtected s (compare r m s) :=
  operand_bind_keepsProtected fun _ _ => .done rfl

theorem compareMasked_keepsProtected (r : Reg) (m : MemRef) (s : State) : KeepsProtected s (compareMasked r m s) :=
  operand_bind_keepsProtected fun _ _ => .done rfl

theorem andMemory_keepsProtected (r : Reg) (m : MemRef) (s : State) : KeepsProtected s (andMemory r m s) :=
  operand_bind_keepsProtected fun o _ => by cases o <;> exact .done rfl

theorem orMemory_keepsProtected (r : Reg) (m : MemRef) (s : State) : KeepsProtected s (orMemory r m s) :=
  operand_bind_keepsProtected fun o _ => by cases o <;> exact .done rfl

theorem xorMemory_keepsProtected (r : Reg) (m : MemRef) (s : State) : KeepsProtected s (xorMemory r m s) :=
  operand_bind_keepsProtected fun o _ => by cases o <;> exact .done rfl

theorem storeForm_keepsProtected (m : MemRef) (v : Dword) (s : State) : KeepsProtected s (storeForm m v s) :=
  (resolve_keepsProtected _ _ _).bind fun _ _ _ => writeAt_keepsProtected _ _ _

theorem addToMemory_keepsProtected (r : Reg) (m : MemRef) (s : State) : KeepsProtected s (addToMemory r m s) := by
  refine (resolve_keepsProtected _ _ _).bind fun _ _ _ => (readAt_keepsProtected _ _ _).bind fun o _ _ => ?_
  cases o with
  | byte v => exact (writeAt_keepsProtected _ _ _).bind fun _ _ _ => .done rfl
  | half v => exact (writeAt_keepsProtected _ _ _).bind fun _ _ _ => .done rfl
  | word v => exact (writeAt_keepsProtected _ _ _).bind fun _ _ _ => arithCheck_keepsProtected rfl
  | dword v => exact (writeAt_keepsProtected _ _ _).bind fun _ _ _ => arithCheck_keepsProtected rfl

theorem putMemBit_keepsProtected (b : BitVec 3) (m : MemRef) (v : Bool) (s : State) :
    KeepsProtected s (putMemBit b m v s) :=
  (bitAddress_keepsProtected _ _).bind fun _ _ _ => (memRead_keepsProtected _ _ _ _).bind fun _ _ _ =>
    (locked_keepsProtected (fun _ => memWrite_keepsProtected _ _ _ _) _).bind fun _ _ _ => .done rfl

theorem opAbm_keepsProtected (b : BitVec 3) (m : MemRef) (s : State) : KeepsProtected s (opAbm b m s) :=
  (bitAddress_keepsProtected _ _).bind fun _ _ _ => (memRead_keepsProtected _ _ _ _).bind fun _ _ _ =>
    (locked_keepsProtected (fun _ => memWrite_keepsProtected _ _ _ _) _).bind fun _ _ _ => arithCheck_keepsProtected rfl

theorem opTbm_keepsProtected (b : BitVec 3) (m : MemRef) (s : State) : KeepsProtected s (opTbm b m s) :=
  (bitAddress_keepsProtected _ _).bind fun _ _ _ => (memRead_keepsProtected _ _ _ _).bind fun _ _ _ => .done rfl

theorem divide_keepsProtected (r : Reg) (v : Word) (s : State) : KeepsProtected s (divide r v s) := by
  unfold divide
  split
  · exact arithCheck_keepsProtected rfl
  · exact .done rfl

theorem mulMemory_keepsProtected (r : Reg) (m : MemRef) (s : State) : KeepsProtected s (mulMemory r m s) :=
  (operandNoDword_keepsProtected _ _).bind fun _ _ _ => .done rfl

theorem divMemory_keepsProtected (r : Reg) (m : MemRef) (s : State) : KeepsProtected s (divMemory r m s) :=
  (operandNoDword_keepsProtected _ _).bind fun _ _ _ => divide_keepsProtected _ _ _

theorem putFloat_keepsProtected (r : Reg) (x : FResult 32) (s : State) : KeepsProtected s (putFloat r x s) := by
  unfold putFloat
  split <;> exact arithCheck_keepsProtected rfl

theorem putFloatPair_keepsProtected (r : Reg) (x : FResult 64) (s : State) :
    KeepsProtected s (putFloatPair r x s) := by
  unfold putFloatPair
  split <;> exact arithCheck_keepsProtected rfl

theorem floatOp_keepsProtected (r : Reg) (m : MemRef) (f : {n : Nat} → FNum → FNum → FResult n) (s : State) :
    KeepsProtected s (floatOp r m f s) := by
  refine (floatOperand_keepsProtected _ _).bind fun o _ _ => ?_
  cases o with
  | dword v => exact putFloatPair_keepsProtected _ _ _
  | byte v => exact putFloat_keepsProtected _ _ _
  | half v => exact putFloat_keepsProtected _ _ _
  | word v => exact putFloat_keepsProtected _ _ _

theorem opRnd_keepsProtected (r : Reg) (s : State) : KeepsProtected s (opRnd r s) := by
  unfold opRnd
  split
  · exact arithCheck_keepsProtected rfl
  · exact .done rfl

theorem branch_keepsProtected (m : MemRef) (s : State) : KeepsProtected s (branch m s) :=
  (resolve_keepsProtected _ _ _).bind fun _ _ _ => .done (openOnly_branchTo _ _)

theorem branchIf_keepsProtected (c : Bool) (m : MemRef) (s : State) : KeepsProtected s (branchIf c m s) := by
  unfold branchIf
  split
  · exact branch_keepsProtected _ _
  · exact .done rfl

theorem opBl_keepsProtected (m : MemRef) (s : State) : KeepsProtected s (opBl m s) :=
  (branch_keepsProtected _ _).bind fun _ _ _ => .done rfl

theorem branchIncrement_keepsProtected (r : Reg) (n : Word) (i : Bool) (a : BitVec 20) (s : State) :
    KeepsProtected s (branchIncrement r n i a s) := by
  simp only [branchIncrement]
  split
  · next x t h =>
    have hs : ProtectedSame s (s.setReg r (s.reg r + n)) := .of_openOnly rfl
    have ht : ProtectedSame s t := hs.trans (branchIf_keepsProtected _ _ _ x t h)
    exact .ok (ht.trans (.of_openOnly rfl))
  · exact .stop _ _ _

theorem opLea_keepsProtected (r : Reg) (m : MemRef) (s : State) : KeepsProtected s (opLea r m s) :=
  (resolve_keepsProtected _ _ _).bind fun _ _ _ => .done rfl

theorem opLa_keepsProtected (r : Reg) (m : MemRef) (s : State) : KeepsProtected s (opLa r m s) :=
  (requirePsd_keepsProtected s).bind fun _ _ _ => (resolve_keepsProtected _ _ _).bind fun _ _ _ => .done rfl

theorem opLf_keepsProtected (r : Reg) (m : MemRef) (s : State) : KeepsProtected s (opLf r m s) :=
  (resolve_keepsProtected _ _ _).bind fun _ _ _ => (readFile_keepsProtected _ _ _).bind fun _ _ _ =>
    .done (openOnly_setFile _ _ _)

theorem opStf_keepsProtected (r : Reg) (m : MemRef) (s : State) : KeepsProtected s (opStf r m s) :=
  (resolve_keepsProtected _ _ _).bind fun _ _ _ => writeFile_keepsProtected _ _ _ _

theorem opJwcs_keepsProtected (m : MemRef) (s : State) : KeepsProtected s (opJwcs m s) := by
  unfold opJwcs
  split
  · exact .stop _ _ _
  · exact (resolve_keepsProtected _ _ _).bind fun _ _ _ =>
      .ok (ProtectedSame.trans (t := State.send _ _) (.of_openOnly rfl) (.of_openOnly (openOnly_wcsRoutine _)))

/-- CALM requests level 0x27 and no other (R615). -/
theorem opCalm_keepsProtected (flags : BitVec 10) (s : State) : KeepsProtected s (opCalm flags s) := by
  refine .ok { ProtectedSame.refl s with request := fun l hl => ?_ }
  have hne : l.toNat ≠ (0x27 : Level).toNat := fun e => hl (BitVec.eq_of_toNat_eq e)
  rw [State.setRequest_request, State.getLsbD_putBit _ _ _ _ l.isLt, if_neg hne]

theorem opSvc_keepsProtected (ind : BitVec 4) (call : BitVec 12) (s : State) : KeepsProtected s (opSvc ind call s) :=
  (requirePsd_keepsProtected s).bind fun _ _ _ => .stop _ _ _

/-- WAIT never completes: the pc stays at it (R613). -/
theorem opWait_keepsProtected (s : State) : KeepsProtected s (opWait s) := by
  unfold opWait
  split <;> exact .stop _ _ _

/-! ### Privileged instructions -/

theorem requirePriv_bind_keepsProtected {α : Type} {f : Unit → State → Res α} {s : State} (h : s.priv = false) :
    KeepsProtected s ((requirePriv s).bind f) := by
  rw [requirePriv_no h]
  exact .stop _ _ _

theorem requirePsd_requirePriv_bind_keepsProtected {α : Type} {f : Unit → State → Res α} {s : State}
    (h : s.priv = false) : KeepsProtected s ((requirePsd s).bind fun _ u => (requirePriv u).bind f) :=
  (requirePsd_keepsProtected s).bind fun _ _ hu => requirePriv_bind_keepsProtected (hu.priv.trans h)

theorem extAddr_bind_keepsProtected {α : Type} {f : Addr → State → Res α} {rs rz : Reg} {s : State}
    (h : s.priv = false) : KeepsProtected s ((extAddr rs rz s).bind f) := by
  intro a t e
  obtain ⟨pa, u, h1, -⟩ := Res.bind_eq_ok e
  obtain ⟨x, v, h2, h3⟩ := Res.bind_eq_ok h1
  have hv : v.priv = false := ((requirePsd_keepsProtected s) x v h2).priv.trans h
  rw [requirePriv_no hv] at h3
  cases h3

/-- A privileged instruction does not complete unprivileged (R38, R601), so there is nothing to keep. -/
theorem effectOf_keepsProtected_of_needsPriv {i : Instr} {s : State} (hi : needsPriv i = true) (h : s.priv = false) :
    KeepsProtected s (effectOf i s) := by
  have hpriv {f : Unit → State → Res Unit} : KeepsProtected s ((requirePriv s).bind f) :=
    requirePriv_bind_keepsProtected h
  have hpsd {f : Unit → State → Res Unit} :
      KeepsProtected s ((requirePsd s).bind fun _ u => (requirePriv u).bind f) :=
    requirePsd_requirePriv_bind_keepsProtected h
  have hext {rs rz : Reg} {f : Addr → State → Res Unit} : KeepsProtected s ((extAddr rs rz s).bind f) :=
    extAddr_bind_keepsProtected h
  cases i with
  | lem | cema | sem => exact hext
  | tscr | trsc | trp | wwcs | rwcs | bri | halt | setcpu | ei | di | ri | ai | dai | cd | td => exact hpriv
  | lear | lmap | tmapr | lpsd | lpsdcm | rdsts | eae | dae | bei | uei => exact hpsd
  | eci | dci | aci | daci | sio | tio | stpio | rschnl | hio | grio | rsctl | ecwcs | wcwcs => exact hpsd
  | _ => cases hi

/-! ### Every instruction -/

/-- The Execute instructions, which have no effect of their own (R607). -/
def isExecute : Instr → Bool
  | .exr _ | .exrr _ | .exm _ => true
  | _ => false

/-- The target of an Execute runs by its own effect, and is no Execute itself (R607, decision D53). -/
theorem targetOp_some {i : Instr} {f : State → Res Unit} (h : targetOp i = some f) :
    f = effectOf i ∧ isExecute i = false := by
  cases i <;> cases h <;> exact ⟨rfl, rfl⟩

/-- What is neither privileged nor an Execute keeps the protected state, whatever the privilege. -/
theorem effectOf_keepsProtected_of_plain {i : Instr} (hp : needsPriv i = false) (he : isExecute i = false)
    (s : State) : KeepsProtected s (effectOf i s) := by
  cases i with
  | lb | lh | lw | ld => exact load_keepsProtected _ _ _
  | lmb | lmh | lmw | lmd => exact loadMasked_keepsProtected _ _ _
  | lnb | lnh | lnw | lnd => exact loadNegative_keepsProtected _ _ _
  | lea => exact opLea_keepsProtected _ _ _
  | la => exact opLa_keepsProtected _ _ _
  | lf => exact opLf_keepsProtected _ _ _
  | stb | sth | stw | std | stmb | stmh | stmw | stmd | zmb | zmh | zmw | zmd => exact storeForm_keepsProtected _ _ _
  | stf => exact opStf_keepsProtected _ _ _
  | li | zr | trr | trrm | trc | trcm | xcr | xcrm | tpr | trsw | sea | cea | lcs | nop => exact .done rfl
  | anr | orr | orrm | eor | eorm | car | ci | cmr | es | mpr | mpi => exact .done rfl
  | nor | nord | scz | sll | slc | slld | sra | srl | src | srad | srld | sbr | zbr | tbr => exact .done rfl
  | trn | trnm | sla | slad | abr | adr | adrm | adi | sur | surm | sui => exact arithCheck_keepsProtected rfl
  | jwcs => exact opJwcs_keepsProtected _ _
  | bu => exact branch_keepsProtected _ _
  | bct | bcf | bft => exact branchIf_keepsProtected _ _ _
  | bl => exact opBl_keepsProtected _ _
  | bib | bih | biw | bid => exact branchIncrement_keepsProtected _ _ _ _ _
  | camb | camh | camw | camd => exact compare_keepsProtected _ _ _
  | cmmb | cmmh | cmmw | cmmd => exact compareMasked_keepsProtected _ _ _
  | anmb | anmh | anmw | anmd => exact andMemory_keepsProtected _ _ _
  | ormb | ormh | ormw | ormd => exact orMemory_keepsProtected _ _ _
  | eomb | eomh | eomw | eomd => exact xorMemory_keepsProtected _ _ _
  | sbm | zbm => exact putMemBit_keepsProtected _ _ _ _
  | abm => exact opAbm_keepsProtected _ _ _
  | tbm => exact opTbm_keepsProtected _ _ _
  | admb | admh | admw | admd => exact addMemory_keepsProtected _ _ _
  | armb | armh | armw | armd => exact addToMemory_keepsProtected _ _ _
  | sumb | sumh | sumw | sumd => exact subMemory_keepsProtected _ _ _
  | rnd => exact opRnd_keepsProtected _ _
  | mpmb | mpmh | mpmw => exact mulMemory_keepsProtected _ _ _
  | dvmb | dvmh | dvmw => exact divMemory_keepsProtected _ _ _
  | dvr | dvi => exact divide_keepsProtected _ _ _
  | adfw | adfd | sufw | sufd | mpfw | mpfd | dvfw | dvfd => exact floatOp_keepsProtected _ _ _ _
  | wait => exact opWait_keepsProtected _
  | calm flags => exact opCalm_keepsProtected flags _
  | svc => exact opSvc_keepsProtected _ _ _
  | exr | exrr | exm => cases he
  | _ => cases hp

theorem effectOf_keepsProtected_of_not_execute {i : Instr} {s : State} (he : isExecute i = false)
    (h : s.priv = false) : KeepsProtected s (effectOf i s) := by
  cases hp : needsPriv i with
  | true => exact effectOf_keepsProtected_of_needsPriv hp h
  | false => exact effectOf_keepsProtected_of_plain hp he s

theorem executeTarget_keepsProtected {image : Word} {s : State} (h : s.priv = false) :
    KeepsProtected s (executeTarget image s) := by
  unfold executeTarget
  split
  · exact .stop _ _ _
  · split
    · exact .stop _ _ _
    · next f hf =>
      obtain ⟨rfl, he⟩ := targetOp_some hf
      exact effectOf_keepsProtected_of_not_execute he h

/-- No instruction that completes unprivileged changes the protected state (R38). -/
theorem effectOf_keepsProtected (i : Instr) {s : State} (h : s.priv = false) : KeepsProtected s (effectOf i s) := by
  cases i with
  | exr | exrr => exact executeTarget_keepsProtected h
  | exm m =>
    exact (resolve_keepsProtected _ _ _).bind fun _ _ ht => (memRead_keepsProtected _ _ _ _).bind fun _ _ hu =>
      executeTarget_keepsProtected (hu.priv.trans (ht.priv.trans h))
  | _ => exact effectOf_keepsProtected_of_not_execute rfl h

end Sys2Proof.Machine

namespace Sys2Proof.Proofs

open Sys2Proof.Machine

/-- Settles O59, by `effectOf_keepsProtected`. -/
theorem unprivilegedKeepsProtected : Obligations.UnprivilegedKeepsProtected :=
  fun i _ t h e => effectOf_keepsProtected i h () t e

end Sys2Proof.Proofs
end

section
/-!
The PSD and the PSW as they are stored, each word as the number that its fields make (R33, R770, R781), and PSD1 with
the mirror bits of the display (R844).
-/

namespace Sys2Proof.Machine

/-! ### Bits and fields by their numbers -/

theorem bitAt_of_toNat {n : Nat} {v : BitVec n} {a : Nat} {b : Bool} (h : v.toNat / 2 ^ (n - 1 - a) % 2 = b.toNat) :
    bitAt v a = b := by
  rw [bitAt_eq_decide, h]
  cases b <;> rfl

theorem bits_of_toNat {n l : Nat} {v : BitVec n} {a : Nat} {w : BitVec l}
    (h : v.toNat / 2 ^ (n - a - l) % 2 ^ l = w.toNat) : bits v a l = w :=
  BitVec.eq_of_toNat_eq (by rw [bits_toNat, h])

theorem bitAt_eq_false {n : Nat} {v : BitVec n} {a : Nat} (h : v.toNat / 2 ^ (n - 1 - a) % 2 = 0) :
    bitAt v a = false := bitAt_of_toNat h

theorem bits_eq_zero {n l : Nat} {v : BitVec n} {a : Nat} (h : v.toNat / 2 ^ (n - a - l) % 2 ^ l = 0) :
    bits v a l = 0 := bits_of_toNat h

/-- A bit replaced is read back, and every other bit is as before (R8). -/
theorem bitAt_putBitAt {n : Nat} (v : BitVec n) {a j : Nat} (b : Bool) (ha : a < n) (hj : j < n) :
    bitAt (putBitAt v a b) j = if j = a then b else bitAt v j := by
  unfold bitAt putBitAt
  rw [State.getLsbD_putBit _ _ _ _ (by omega)]
  by_cases h : j = a
  · rw [if_pos h, if_pos (by omega)]
  · rw [if_neg h, if_neg (by omega)]

/-- MAP MODE is not 00 where one of its two bits is set (R33). -/
theorem mapped_eq (psd2 : Word) : mapped psd2 = (bitAt psd2 0 || bitAt psd2 1) := by
  have h : bits psd2 0 2 = 0 ↔ psd2.toNat / 2 ^ 30 % 2 ^ 2 = 0 := by rw [← BitVec.toNat_inj, bits_toNat]; rfl
  rw [mapped, bitAt_eq_decide, bitAt_eq_decide, Bool.eq_iff_iff, decide_eq_true_iff, ne_eq, h]
  simp only [Bool.or_eq_true, decide_eq_true_eq]
  omega

/-! ### The stored words as numbers -/

theorem CC.toBits_toNat (c : CC) :
    c.toBits.toNat = c.cc1.toNat * 8 + c.cc2.toNat * 4 + c.cc3.toNat * 2 + c.cc4.toNat := by
  unfold CC.toBits
  simp only [append_toNat, BitVec.toNat_ofBool]
  omega

theorem storedPsd1_toNat (s : State) :
    s.storedPsd1.toNat = s.priv.toNat * 2 ^ 31 + s.cc.toBits.toNat * 2 ^ 27 + s.ext.toNat * 2 ^ 26 +
      s.hist.toNat * 2 ^ 25 + s.aexp.toNat * 2 ^ 24 + s.pc.toNat * 2 := by
  unfold State.storedPsd1
  simp only [append_toNat, BitVec.toNat_ofBool, BitVec.ofNat_eq_ofNat, BitVec.toNat_ofNat]
  omega

theorem storedPsd2_toNat (s : State) :
    s.storedPsd2.toNat = s.psd2.toNat / 2 ^ 17 * 2 ^ 17 + s.blocked.toNat * 2 ^ 14 + s.psd2.toNat % 2 ^ 14 := by
  have := s.psd2.isLt
  unfold State.storedPsd2
  simp only [append_toNat, bits_toNat, BitVec.toNat_ofBool, BitVec.ofNat_eq_ofNat, BitVec.toNat_ofNat]
  omega

theorem storedPsw_toNat (s : State) :
    s.storedPsw.toNat = s.priv.toNat * 2 ^ 31 + s.cc.toBits.toNat * 2 ^ 27 + s.ext.toNat * 2 ^ 26 +
      s.hist.toNat * 2 ^ 25 + s.pc.toNat * 2 := by
  unfold State.storedPsw
  simp only [append_toNat, BitVec.toNat_ofBool, BitVec.ofNat_eq_ofNat, BitVec.toNat_ofNat]
  omega

/-! ### Their fields -/

theorem storedPsd1_fields (s : State) :
    bitAt s.storedPsd1 0 = s.priv ∧ bitAt s.storedPsd1 1 = s.cc.cc1 ∧ bitAt s.storedPsd1 2 = s.cc.cc2 ∧
      bitAt s.storedPsd1 3 = s.cc.cc3 ∧ bitAt s.storedPsd1 4 = s.cc.cc4 ∧ bitAt s.storedPsd1 5 = s.ext ∧
      bitAt s.storedPsd1 6 = s.hist ∧ bitAt s.storedPsd1 7 = s.aexp ∧ bits s.storedPsd1 8 5 = 0 ∧
      bits s.storedPsd1 13 18 = s.pc ∧ bitAt s.storedPsd1 31 = false := by
  have hn := storedPsd1_toNat s
  rw [CC.toBits_toNat] at hn
  have := s.priv.toNat_le
  have := s.cc.cc1.toNat_le
  have := s.cc.cc2.toNat_le
  have := s.cc.cc3.toNat_le
  have := s.cc.cc4.toNat_le
  have := s.ext.toNat_le
  have := s.hist.toNat_le
  have := s.aexp.toNat_le
  have := s.pc.isLt
  refine ⟨bitAt_of_toNat ?_, bitAt_of_toNat ?_, bitAt_of_toNat ?_, bitAt_of_toNat ?_, bitAt_of_toNat ?_,
    bitAt_of_toNat ?_, bitAt_of_toNat ?_, bitAt_of_toNat ?_, bits_eq_zero ?_, bits_of_toNat ?_, bitAt_eq_false ?_⟩
  all_goals omega

theorem storedPsd2_fields (s : State) :
    bits s.storedPsd2 0 15 = bits s.psd2 0 15 ∧ bitAt s.storedPsd2 15 = false ∧ bitAt s.storedPsd2 16 = false ∧
      bitAt s.storedPsd2 17 = s.blocked ∧ bits s.storedPsd2 18 14 = bits s.psd2 18 14 := by
  have hn := storedPsd2_toNat s
  have := s.blocked.toNat_le
  have hb := bits_toNat s.psd2 0 15
  have hb' := bits_toNat s.psd2 18 14
  refine ⟨bits_of_toNat ?_, bitAt_eq_false ?_, bitAt_eq_false ?_, bitAt_of_toNat ?_, bits_of_toNat ?_⟩
  all_goals omega

/-- The PSW is PSD1 without AEXP (R781). -/
theorem storedPsw_fields (s : State) :
    bits s.storedPsw 0 7 = bits s.storedPsd1 0 7 ∧ bits s.storedPsw 7 6 = 0 ∧
      bits s.storedPsw 13 19 = bits s.storedPsd1 13 19 := by
  have hw := storedPsw_toNat s
  have hp := storedPsd1_toNat s
  have := s.aexp.toNat_le
  have := s.pc.isLt
  have hb := bits_toNat s.storedPsd1 0 7
  have hb' := bits_toNat s.storedPsd1 13 19
  refine ⟨bits_of_toNat ?_, bits_eq_zero ?_, bits_of_toNat ?_⟩
  all_goals omega

theorem bitAt_displayPsd1 (s : State) {j : Nat} (hj : j < 32) :
    bitAt s.displayPsd1 j =
      if j = 31 then s.blocked
      else if j = 9 then mapped s.psd2 && s.mapActive
      else if j = 8 then decide (s.mode = .psd) else bitAt s.storedPsd1 j := by
  unfold State.displayPsd1
  rw [bitAt_putBitAt _ _ (by decide) hj, bitAt_putBitAt _ _ (by decide) hj, bitAt_putBitAt _ _ (by decide) hj]

theorem displayPsd1_fields (s : State) :
    bitAt s.displayPsd1 8 = decide (s.mode = .psd) ∧
      bitAt s.displayPsd1 9 = ((bitAt s.psd2 0 || bitAt s.psd2 1) && s.mapActive) ∧
      bitAt s.displayPsd1 31 = s.blocked ∧
      ∀ j : Nat, j < 31 → j ≠ 8 → j ≠ 9 → bitAt s.displayPsd1 j = bitAt s.storedPsd1 j := by
  refine ⟨bitAt_displayPsd1 s (by decide), ?_, bitAt_displayPsd1 s (by decide), fun j hj h8 h9 => ?_⟩
  · rw [← mapped_eq]
    exact bitAt_displayPsd1 s (by decide)
  · rw [bitAt_displayPsd1 s (by omega), if_neg (by omega), if_neg h9, if_neg h8]

end Sys2Proof.Machine

namespace Sys2Proof.Proofs

open Sys2Proof.Machine

/-- Settles O48: the fields of the stored PSD1, PSD2 and PSW, then the display's mirror bits. -/
theorem storedStatus : Obligations.StoredStatus := fun s =>
  ⟨storedPsd1_fields s, storedPsd2_fields s, storedPsw_fields s, displayPsd1_fields s⟩

end Sys2Proof.Proofs
end

section
/-!
SYSTEM RESET (R80, R821): the state it makes, and the step of a halted machine whose one event is its key.
-/

namespace Sys2Proof.Machine

theorem reg_eq_zero_of_replicate {s : State} (h : s.regs = Vector.replicate 8 0) (r : Reg) : s.reg r = 0 := by
  simp [State.reg, h]

theorem protReg_eq_zero_of_replicate {s : State} (h : s.prot = Vector.replicate 16 0) (p : BitVec 4) :
    s.protReg p = 0 := by
  simp [State.protReg, h]

/-- The MPL address is written after CPUSTAT, so its cell holds it whichever cell it is (R80). -/
theorem cell_systemReset (s : State) (c : BitVec 8) :
    (systemReset s).cell c =
      if c = s.cfg.mplCell then s.cfg.mplAddr.setWidth 32 else if c = cpuStatCell then 0x41 else s.cell c := by
  change ((s.setStat 0x41).setCell s.cfg.mplCell (s.cfg.mplAddr.setWidth 32)).cell c = _
  rw [State.cell_setCell, State.cell_setStat]

/-- The SYSTEM RESET key on an unlocked panel of a halted CPU (R821, R831). -/
theorem pressKey_systemReset {s : State} (hr : s.run = .halt) (hl : s.panel.locked = false) :
    pressKey .systemReset s = systemReset s := by
  change (if s.panel.locked then panelFault 2 s else if s.run = .halt then systemReset s else panelFault 2 s) = _
  rw [hl, if_neg Bool.false_ne_true, if_pos hr]

/-- A boundary with one event (R762). -/
theorem boundary_single {s : State} {e : EnvEvent} (h : s.inputs = [[e]]) :
    boundary s = applyEvent { s with inputs := [] } e := by
  cases he : e.isBusFailure <;> simp [boundary, h, inOrder, he]

theorem step_systemReset {s : State} (hr : s.run = .halt) (hl : s.panel.locked = false)
    (hi : s.inputs = [[.key .systemReset]]) : step s = .next (systemReset { s with inputs := [] }) := by
  have hb : boundary s = systemReset { s with inputs := [] } := by
    rw [boundary_single hi]
    exact pressKey_systemReset (s := { s with inputs := [] }) hr hl
  unfold step
  rw [hb]
  rfl

end Sys2Proof.Machine

namespace Sys2Proof.Proofs

open Sys2Proof.Machine

/-- Settles O56, by `step_systemReset` and `cell_systemReset`. -/
theorem systemReset : Obligations.SystemReset := by
  refine ⟨⟨reg_eq_zero_of_replicate rfl, protReg_eq_zero_of_replicate rfl, rfl, rfl, rfl⟩, fun s hr hl hi => ?_⟩
  refine ⟨_, step_systemReset hr hl hi, reg_eq_zero_of_replicate rfl, protReg_eq_zero_of_replicate rfl, rfl, rfl,
    fun hne => ?_, ?_, fun c hc hm => ?_, ?_⟩
  · exact (cell_systemReset _ _).trans (by rw [if_neg hne.symm, if_pos rfl])
  · exact (cell_systemReset _ _).trans (if_pos rfl)
  · exact (cell_systemReset _ _).trans (by rw [if_neg hm, if_neg hc]; rfl)
  · and_intros <;> rfl

end Sys2Proof.Proofs
end

section
/-!
The step of a machine that neither an event nor an interrupt meets (R762): it runs the decoded instruction.
-/

namespace Sys2Proof.Machine

/-- A step settles nothing where no halt has been asked for. -/
theorem settle_none {t : State} (h : t.haltReq = .none) : settle t = t := by
  simp [settle, h]

end Sys2Proof.Machine

namespace Sys2Proof.Proofs

open Sys2Proof.Machine

/-- Settles O4, by `step_runs` and `runInstr_ok`; a step settles nothing where no halt was asked for. -/
theorem stepRunsDecoded : Obligations.StepRunsDecoded := by
  intro s pa i hin hrun hsens htr hpres hpar v hdec
  have hstep : step s = settleOutcome (exec i (v.askHalt s.instrStopHit)) :=
    (step_runs hin hrun hsens).trans (runInstr_ok (s := { s with noIntNext := false }) htr hpres hpar hdec)
  refine ⟨hstep, fun _ hstop t hexec ht => ?_⟩
  rw [hstep, hstop, askHalt_false, hexec, settleOutcome, settle_none ht]

end Sys2Proof.Proofs
end

section
/-!
Stores (R90, R111): the bytes of a store one by one, what reading them back gives, and the checks of MemWrite in
their order.
-/

namespace Sys2Proof.Machine

/-! ### The bytes of a store -/

theorem byte_setByte_same {s : State} (a : Nat) (b : Byte) (hw : Memory.wf s.mem = true) :
    (s.setByte a b).byte a = b := (State.byte_setByte s a b a hw).trans (if_pos rfl)

theorem byte_setByte_of_lt {s : State} {a k : Nat} (b : Byte) (h : k < a) : (s.setByte a b).byte k = s.byte k :=
  State.byte_setByte_ne s b (Nat.ne_of_lt h)

/-- Byte `k` of a store of the low bytes of `v`, the most significant first: its own write puts it there, the later
ones go to higher addresses. -/
theorem byte_poke (s : State) (a : Nat) (n : Size) (v : Word) {k : Nat} (hw : Memory.wf s.mem = true)
    (hk : k < n.bytes) : (s.poke a n v).byte (a + k) = bits v (32 - 8 * (n.bytes - k)) 8 := by
  have wf {t : State} (ht : Memory.wf t.mem = true) (p : Nat) (b : Byte) : Memory.wf (t.setByte p b).mem = true :=
    State.wf_setByte t p b ht
  cases n with
  | byte =>
    obtain rfl : k = 0 := by simpa [Size.bytes] using hk
    exact byte_setByte_same _ _ hw
  | half =>
    obtain rfl | rfl : k = 0 ∨ k = 1 := by simp only [Size.bytes] at hk; omega
    · exact (byte_setByte_of_lt _ (by omega)).trans (byte_setByte_same _ _ hw)
    · exact byte_setByte_same _ _ (wf hw _ _)
  | word =>
    obtain rfl | rfl | rfl | rfl : k = 0 ∨ k = 1 ∨ k = 2 ∨ k = 3 := by simp only [Size.bytes] at hk; omega
    all_goals simp only [State.poke]
    · rw [byte_setByte_of_lt _ (by omega), byte_setByte_of_lt _ (by omega), byte_setByte_of_lt _ (by omega)]
      exact byte_setByte_same _ _ hw
    · rw [byte_setByte_of_lt _ (by omega), byte_setByte_of_lt _ (by omega)]
      exact byte_setByte_same _ _ (wf hw _ _)
    · rw [byte_setByte_of_lt _ (by omega)]
      exact byte_setByte_same _ _ (wf (wf hw _ _) _ _)
    · exact byte_setByte_same _ _ (wf (wf (wf hw _ _) _ _) _ _)

theorem byte_poke_toNat (s : State) (a : Nat) (n : Size) (v : Word) {k : Nat} (hw : Memory.wf s.mem = true)
    (hk : k < n.bytes) :
    ((s.poke a n v).byte (a + k)).toNat = v.toNat / 2 ^ (8 * (n.bytes - 1 - k)) % 256 := by
  have hn : n.bytes ≤ 4 := by cases n <;> decide
  have he : 32 - (32 - 8 * (n.bytes - k)) - 8 = 8 * (n.bytes - 1 - k) := by omega
  rw [byte_poke s a n v hw hk, bits_toNat, he]
  rfl

theorem peek_byte_toNat (s : State) (a : Nat) : (s.peek a .byte).toNat = (s.byte a).toNat := by
  have := (s.byte a).isLt
  simp only [State.peek, BitVec.toNat_setWidth]
  omega

theorem peek_half_toNat (s : State) (a : Nat) :
    (s.peek a .half).toNat = (s.byte a).toNat * 2 ^ 8 + (s.byte (a + 1)).toNat := by
  have := (s.byte a).isLt
  have := (s.byte (a + 1)).isLt
  simp only [State.peek, BitVec.toNat_setWidth, append_toNat]
  omega

theorem peek_word_toNat (s : State) (a : Nat) :
    (s.peek a .word).toNat = (s.byte a).toNat * 2 ^ 24 + (s.byte (a + 1)).toNat * 2 ^ 16 +
      (s.byte (a + 2)).toNat * 2 ^ 8 + (s.byte (a + 3)).toNat := by
  simp only [State.peek, append_toNat]
  omega

/-- What was stored is read back, as far as it was stored (R90). -/
theorem peek_poke (s : State) (a : Nat) (n : Size) (v : Word) (hw : Memory.wf s.mem = true) :
    (s.poke a n v).peek a n = BitVec.ofNat 32 (v.toNat % 2 ^ (8 * n.bytes)) := by
  have hv := v.isLt
  have hb {k : Nat} (hk : k < n.bytes) := byte_poke_toNat s a n v hw hk
  apply BitVec.eq_of_toNat_eq
  rw [BitVec.toNat_ofNat]
  cases n with
  | byte =>
    have h0 := hb (k := 0) (by decide)
    simp only [Size.bytes, Nat.add_zero] at h0 ⊢
    rw [peek_byte_toNat]
    omega
  | half =>
    have h0 := hb (k := 0) (by decide)
    have h1 := hb (k := 1) (by decide)
    simp only [Size.bytes, Nat.add_zero] at h0 h1 ⊢
    rw [peek_half_toNat]
    omega
  | word =>
    have h0 := hb (k := 0) (by decide)
    have h1 := hb (k := 1) (by decide)
    have h2 := hb (k := 2) (by decide)
    have h3 := hb (k := 3) (by decide)
    simp only [Size.bytes, Nat.add_zero] at h0 h1 h2 h3 ⊢
    rw [peek_word_toNat]
    omega

theorem peek_poke_word (s : State) (a : Nat) (v : Word) (hw : Memory.wf s.mem = true) :
    (s.poke a .word v).peek a .word = v := by
  rw [peek_poke s a .word v hw]
  exact BitVec.eq_of_toNat_eq (by simp only [Size.bytes, BitVec.toNat_ofNat]; omega)

/-! ### Write protection, presence, and the order of the checks -/

theorem bits_eq_zero_iff {n : Nat} (v : BitVec n) (a l : Nat) :
    bits v a l = 0 ↔ v.toNat / 2 ^ (n - a - l) % 2 ^ l = 0 := by
  rw [← BitVec.toNat_inj, bits_toNat, BitVec.ofNat_eq_ofNat, BitVec.toNat_ofNat, Nat.zero_mod]

/-- Pages of 2,048 bytes below 512 KB, sixteen to a register, bit 15 the first (R125). -/
theorem pageProtected_iff (s : State) (pa : Addr) :
    s.pageProtected pa = true ↔
      ∃ h : pa.toNat / 32768 < 16, (s.prot[pa.toNat / 32768]).getLsbD (pa.toNat / 2048 % 16) = true := by
  have hpa := pa.isLt
  have hpage : (bits pa 9 4).toNat = pa.toNat / 2048 % 16 := bits_toNat pa 9 4
  have hreg : (bits pa 5 4).toNat = pa.toNat / 32768 % 16 := bits_toNat pa 5 4
  have hbit : 16 - 1 - (15 - (bits pa 9 4).toNat) = pa.toNat / 2048 % 16 := by omega
  have hlow : bits pa 0 5 = 0 ↔ pa.toNat / 32768 < 16 := by rw [bits_eq_zero_iff]; omega
  simp only [State.pageProtected, bitAt, hbit, State.protReg, hreg, Bool.and_eq_true, decide_eq_true_eq, hlow]
  constructor
  · rintro ⟨h, hp⟩
    refine ⟨h, ?_⟩
    simpa only [Nat.mod_eq_of_lt h] using hp
  · rintro ⟨h, hp⟩
    refine ⟨h, ?_⟩
    simpa only [Nat.mod_eq_of_lt h] using hp

theorem installed_iff (s : State) (a n : Nat) :
    s.installed a n = true ↔
      a + n ≤ s.cfg.memBytes ∧ ∀ h ∈ s.cfg.holes, a + n ≤ h.base ∨ h.base + h.size ≤ a := by
  simp [State.installed]

theorem memWrite_error {s : State} {a : Addr} {e : Trap} (n : Size) (v : Word)
    (ht : s.translate .operand true a = .error e) : memWrite a n v s = .stop (.trap e) s := by
  simp [memWrite, ht]

theorem memWrite_protected {s : State} {a pa : Addr} (n : Size) (v : Word)
    (ht : s.translate .operand true a = .ok pa) (hu : s.priv = false) (hp : s.pageProtected pa = true) :
    memWrite a n v s = .stop (.trap .privilege) s := by
  simp [memWrite, ht, hu, hp]

/-- Past the protection the store is an access to real memory (R111, decision D31). -/
theorem memWrite_permitted {s : State} {a pa : Addr} (n : Size) (v : Word)
    (ht : s.translate .operand true a = .ok pa) (hp : s.priv = true ∨ s.pageProtected pa = false) :
    memWrite a n v s = operandWrite pa n v s := by
  simp only [memWrite, ht]
  exact if_neg (by rcases hp with h | h <;> simp [h])

theorem operandWrite_absent {s : State} {pa : Addr} {n : Size} (v : Word) (hp : s.present pa n = false) :
    operandWrite pa n v s = .stop (.trap (.nonpresent false)) s.interleave := by
  have h : s.interleave.present pa n = false := by rw [(interleave_spec s).1]; exact hp
  simp [operandWrite, physWrite, writeNow, h, operandErr]

/-- A store that is permitted and goes to installed memory (R111). -/
theorem memWrite_eq {s : State} {a pa : Addr} {n : Size} (v : Word) (h : storesTo s a n pa) :
    memWrite a n v s =
      .ok () ((s.interleave.poke pa.toNat n v).askHalt (s.stops.write && s.stopHit pa n)) := by
  have hp : s.interleave.present pa n = true := by rw [(interleave_spec s).1]; exact h.present
  rw [memWrite_permitted n v h.real h.permitted]
  simp only [operandWrite, physWrite, writeNow, hp, if_true, Res.bind_ok]
  rw [poke_eq, (interleave_spec s).1]
  rfl

end Sys2Proof.Machine

namespace Sys2Proof.Proofs

open Sys2Proof.Machine

/-- Settles O7: the bytes of a store by `byte_poke`, the order of its checks by the equations of `memWrite`. -/
theorem memoryWrites : Obligations.MemoryWrites := by
  refine ⟨fun s a n v hw => ⟨wf_poke s a n v hw, peek_poke s a n v hw, fun k hk => byte_poke_toNat s a n v hw hk,
    fun b hb => byte_poke_ne s a n v b hb⟩, pageProtected_iff, fun s pa n => installed_iff s pa.toNat n.bytes, ?_⟩
  intro s a pa n v hb ht
  refine ⟨fun hu hp => memWrite_protected n v ht hu hp, fun hp ha => ?_, fun hp ha => ?_⟩
  · rw [memWrite_permitted n v ht hp, operandWrite_absent v ha, interleave_alone hb]
  · refine ⟨_, memWrite_eq v ⟨ht, hp, ha⟩, ?_⟩
    rw [interleave_alone hb]
    exact onlyHalt_askHalt _ _

end Sys2Proof.Proofs
end

section
/-!
Address translation in numbers (R115, R120, R124): the page of an address, the fields of its MAP entry, the real
address.
-/

namespace Sys2Proof.Machine

/-- The number of the 32,768-byte page of an address: the whole of it for an operand in extended mode, else modulo the
sixteen pages of the 512 KB space (R120). -/
def pageNumber (s : State) (k : Access) (a : Addr) : Nat :=
  if s.ext = true ∧ k = .operand then a.toNat / 32768 else a.toNat / 32768 % 16

theorem pageOf_none {s : State} {k : Access} {a : Addr} (h : 32 ≤ pageNumber s k a) : s.pageOf k a = none := by
  have hz : bits a 0 4 = 0 ↔ a.toNat / 2 ^ 20 % 2 ^ 4 = 0 := bits_eq_zero_iff a 0 4
  have ha := a.isLt
  unfold pageNumber at h
  split at h
  · next hx =>
    obtain ⟨hext, rfl⟩ := hx
    simp only [State.pageOf, hext, decide_true, Bool.and_self, if_true]
    exact if_neg (by rw [hz]; omega)
  · omega

theorem pageOf_some {s : State} {k : Access} {a : Addr} (h : pageNumber s k a < 32) :
    ∃ p, s.pageOf k a = some p ∧ p.toNat = pageNumber s k a := by
  have hz : bits a 0 4 = 0 ↔ a.toNat / 2 ^ 20 % 2 ^ 4 = 0 := bits_eq_zero_iff a 0 4
  have hp : (bits a 4 5).toNat = a.toNat / 2 ^ 15 % 2 ^ 5 := bits_toNat a 4 5
  have hq : (bits a 5 4).toNat = a.toNat / 2 ^ 15 % 2 ^ 4 := bits_toNat a 5 4
  by_cases hx : s.ext = true ∧ k = .operand
  · obtain ⟨hext, rfl⟩ := hx
    simp only [pageNumber, hext, and_self, if_true] at h ⊢
    refine ⟨bits a 4 5, ?_, by omega⟩
    simp only [State.pageOf, hext, decide_true, Bool.and_self, if_true]
    exact if_pos (hz.mpr (by omega))
  · simp only [pageNumber, if_neg hx]
    refine ⟨(bits a 5 4).setWidth 5, ?_, by rw [BitVec.toNat_setWidth]; omega⟩
    exact if_neg (by simpa using hx)

theorem translate_noPage {s : State} {k : Access} {a : Addr} (w : Bool) (h : s.mapActive = true)
    (hp : s.pageOf k a = none) : s.translate k w a = .error .mapFault := by
  simp [State.translate, h, hp]

theorem translate_unmapped {s : State} (k : Access) (w : Bool) (a : Addr) (h : s.mapActive = false) :
    s.translate k w a = .ok a := by
  simp [State.translate, h]

/-- Mapped, an address with a page goes by that page's entry (R124). -/
theorem translate_mapped {s : State} {k : Access} {a : Addr} {p : BitVec 5} (w : Bool) (h : s.mapActive = true)
    (hp : s.pageOf k a = some p) :
    s.translate k w a =
      if !bitAt (s.mapReg p) 0 then .error .mapFault
      else if w && bitAt (s.mapReg p) 1 && !s.priv then .error .privilege
      else .ok (bits (s.mapReg p) 7 9 ++ bits a 9 15) := by
  simp [State.translate, h, hp]

theorem valid_iff (e : Half) : bitAt e 0 = true ↔ 2 ^ 15 ≤ e.toNat := by
  have := e.isLt
  rw [bitAt_eq_decide, decide_eq_true_iff]
  omega

theorem protect_iff (e : Half) : bitAt e 1 = true ↔ 2 ^ 14 ≤ e.toNat % 2 ^ 15 := by
  have := e.isLt
  rw [bitAt_eq_decide, decide_eq_true_iff]
  omega

theorem realAddr_eq (e : Half) (a : Addr) :
    bits e 7 9 ++ bits a 9 15 = BitVec.ofNat 24 (e.toNat % 512 * 32768 + a.toNat % 32768) := by
  have he : (bits e 7 9).toNat = e.toNat / 2 ^ 0 % 2 ^ 9 := bits_toNat e 7 9
  have ha : (bits a 9 15).toNat = a.toNat / 2 ^ 0 % 2 ^ 15 := bits_toNat a 9 15
  apply BitVec.eq_of_toNat_eq
  rw [append_toNat, BitVec.toNat_ofNat]
  omega

theorem translate_invalid {s : State} {k : Access} {a : Addr} {p : BitVec 5} (w : Bool) (h : s.mapActive = true)
    (hp : s.pageOf k a = some p) (hv : (s.mapReg p).toNat < 2 ^ 15) : s.translate k w a = .error .mapFault := by
  have hv' : bitAt (s.mapReg p) 0 = false := by simpa using mt (valid_iff _).mp (Nat.not_le.mpr hv)
  simp [translate_mapped w h hp, hv']

theorem translate_protect {s : State} {k : Access} {a : Addr} {p : BitVec 5} (h : s.mapActive = true)
    (hp : s.pageOf k a = some p) (hv : 2 ^ 15 ≤ (s.mapReg p).toNat) (hu : s.priv = false)
    (hprot : 2 ^ 14 ≤ (s.mapReg p).toNat % 2 ^ 15) : s.translate k true a = .error .privilege := by
  simp [translate_mapped true h hp, (valid_iff _).mpr hv, (protect_iff _).mpr hprot, hu]

theorem translate_valid {s : State} {k : Access} {a : Addr} {p : BitVec 5} {w : Bool} (h : s.mapActive = true)
    (hp : s.pageOf k a = some p) (hv : 2 ^ 15 ≤ (s.mapReg p).toNat)
    (hok : ¬(w = true ∧ s.priv = false ∧ 2 ^ 14 ≤ (s.mapReg p).toNat % 2 ^ 15)) :
    s.translate k w a = .ok (BitVec.ofNat 24 ((s.mapReg p).toNat % 512 * 32768 + a.toNat % 32768)) := by
  have hok' : (w && bitAt (s.mapReg p) 1 && !s.priv) = false := by
    rw [← protect_iff] at hok
    rw [Bool.eq_false_iff]
    simp only [ne_eq, Bool.and_eq_true, Bool.not_eq_true']
    exact fun ⟨⟨hw, hprot⟩, hu⟩ => hok ⟨hw, hu, hprot⟩
  simp [translate_mapped w h hp, (valid_iff _).mpr hv, hok', realAddr_eq]

/-- A translation that answers is the address itself, or goes by a valid entry that does not forbid it (R124). -/
theorem translate_ok {s : State} {k : Access} {w : Bool} {a pa : Addr} (h : s.translate k w a = .ok pa) :
    (s.mapActive = false ∧ pa = a) ∨
      ∃ p, s.mapActive = true ∧ s.pageOf k a = some p ∧ bitAt (s.mapReg p) 0 = true ∧
        (w && bitAt (s.mapReg p) 1 && !s.priv) = false ∧ pa = bits (s.mapReg p) 7 9 ++ bits a 9 15 := by
  cases hm : s.mapActive with
  | false =>
    rw [translate_unmapped k w a hm] at h
    cases h
    exact .inl ⟨rfl, rfl⟩
  | true =>
    cases hp : s.pageOf k a with
    | none => rw [translate_noPage w hm hp] at h; cases h
    | some p =>
      rw [translate_mapped w hm hp] at h
      split at h
      · cases h
      · next hv =>
        split at h
        · cases h
        · next hok =>
          cases h
          exact .inr ⟨p, rfl, rfl, by simpa using hv, Bool.eq_false_iff.mpr hok, rfl⟩

/-- Translation keeps the place within the page (R115). -/
theorem translate_offset {s : State} {k : Access} {w : Bool} {a pa : Addr} (ht : s.translate k w a = .ok pa) :
    pa.toNat % 32768 = a.toNat % 32768 := by
  rcases translate_ok ht with ⟨-, rfl⟩ | ⟨p, -, -, -, -, rfl⟩
  · rfl
  · rw [realAddr_eq, BitVec.toNat_ofNat]
    omega

/-- Where a store is permitted a read is. -/
theorem translate_read_of_write {s : State} {k : Access} {a pa : Addr} (h : s.translate k true a = .ok pa) :
    s.translate k false a = .ok pa := by
  rcases translate_ok h with ⟨hm, rfl⟩ | ⟨p, hm, hp, hv, -, rfl⟩
  · exact translate_unmapped _ _ _ hm
  · simp [translate_mapped false hm hp, hv]

end Sys2Proof.Machine

namespace Sys2Proof.Proofs

open Sys2Proof.Machine

/-- Settles O8: the page by `pageOf_none` and `pageOf_some`, then the entry's VALID and PROTECT. -/
theorem translation : Obligations.Translation := by
  intro s k w a
  refine ⟨translate_unmapped k w a, fun hm => ⟨fun hpage => ?_, ?_⟩⟩
  · exact translate_noPage w hm (pageOf_none hpage)
  · intro hpage e
    obtain ⟨p, hp, hn⟩ := pageOf_some hpage
    have he : e = s.mapReg p := by simp only [State.mapReg, hn]; rfl
    rw [he]
    refine ⟨translate_invalid w hm hp, ?_, translate_valid hm hp⟩
    rintro hv rfl
    exact translate_protect hm hp hv

end Sys2Proof.Proofs
end

section
/-!
Effective addresses in numbers (R91, R95, R101, R102): indexing, the data type of F and C, the operand's byte address.
-/

namespace Sys2Proof.Machine

theorem index_toNat (s : State) (x : BitVec 2) :
    (s.index x).toNat = if x = 0 then 0 else (s.reg (x.setWidth 3)).toNat := by
  unfold State.index
  split <;> rfl

/-- Non-extended: one sum of 20 bits, F its first bit (R101, decision D15). -/
theorem combine_base {s : State} (m : MemRef) (h : s.ext = false) :
    ((s.combine m).f = true ↔ 2 ^ 19 ≤ (m.a.toNat + (s.index m.x).toNat) % 2 ^ 20) ∧
      (s.combine m).addr.toNat = (m.a.toNat + (s.index m.x).toNat) % 2 ^ 19 := by
  have hx : (bits (s.index m.x) 12 20).toNat = (s.index m.x).toNat / 2 ^ 0 % 2 ^ 20 := bits_toNat _ 12 20
  have hsum : (m.a + bits (s.index m.x) 12 20).toNat = (m.a.toNat + (s.index m.x).toNat) % 2 ^ 20 := by
    rw [BitVec.toNat_add]; omega
  have hbits := bits_toNat (m.a + bits (s.index m.x) 12 20) 1 19
  simp only [State.combine, h, Bool.false_eq_true, if_false, bitAt_eq_decide, decide_eq_true_eq,
    BitVec.toNat_setWidth]
  constructor <;> omega

/-- Extended: a sum of 24 bits, F the reference's own (R102, decision D76). -/
theorem combine_extended {s : State} (m : MemRef) (h : s.ext = true) :
    ((s.combine m).f = true ↔ 2 ^ 19 ≤ m.a.toNat) ∧
      (s.combine m).addr.toNat = (m.a.toNat % 2 ^ 19 + (s.index m.x).toNat) % 2 ^ 24 := by
  have hx : (bits (s.index m.x) 8 24).toNat = (s.index m.x).toNat / 2 ^ 0 % 2 ^ 24 := bits_toNat _ 8 24
  have hbits := bits_toNat m.a 1 19
  have hm := m.a.isLt
  simp only [State.combine, h, if_true, bitAt_eq_decide, decide_eq_true_eq, BitVec.toNat_add,
    BitVec.toNat_setWidth]
  constructor <;> omega

theorem width_eq (e : EA) :
    e.width = if e.f then .byte else if e.addr.toNat % 2 = 1 then .half else if e.addr.toNat % 4 = 2 then .dword
      else .word := by
  have h1 : bitAt e.addr 23 = true ↔ e.addr.toNat % 2 = 1 := by rw [bitAt_eq_decide, decide_eq_true_iff]; omega
  have h2 : bitAt e.addr 22 = true ↔ e.addr.toNat / 2 % 2 = 1 := by rw [bitAt_eq_decide, decide_eq_true_iff]; omega
  unfold EA.width
  simp only [h1, h2]
  split
  · rfl
  · split
    · rfl
    · simp only [show e.addr.toNat / 2 % 2 = 1 ↔ e.addr.toNat % 4 = 2 by omega]

end Sys2Proof.Machine

namespace Sys2Proof.Proofs

open Sys2Proof.Machine

/-- Settles O9, by `combine_base`, `combine_extended`, `width_eq` and the alignments. -/
theorem effectiveAddress : Obligations.EffectiveAddress := by
  refine ⟨fun s m => ?_, fun e => ?_, fun a => ?_⟩
  · simp only [← index_toNat]
    exact ⟨combine_base m, combine_extended m⟩
  · rw [width_eq]
    cases e.f with
    | true => simp
    | false =>
      obtain h | h | h : e.addr.toNat % 2 = 1 ∨ e.addr.toNat % 4 = 0 ∨ e.addr.toNat % 4 = 2 := by omega
      · simp [h, show ¬e.addr.toNat % 4 = 0 by omega, show ¬e.addr.toNat % 4 = 2 by omega]
      · simp [h, show ¬e.addr.toNat % 2 = 1 by omega]
      · simp [h, show ¬e.addr.toNat % 2 = 1 by omega]
  · exact ⟨rfl, halfAlign_toNat a, wordAlign_toNat a, dwordAlign_toNat a, wordAlign_toNat a, dwordAlign_toNat a⟩

end Sys2Proof.Proofs
end

section
/-!
Indirect chains (R99, R100). A chain that ends is followed to its end; and one that begins where no other agent stores
any more reads each word of memory at most once, so that a chain longer than the fuel has no end (U1).
-/

namespace Sys2Proof.Machine

/-! ### A chain that ends -/

/-- A chain shorter than the fuel is followed to its last word. -/
theorem chase_of_chainReads {k : Access} {e : MemRef} {t : State} {ws : List Word} {n : Nat} {m : MemRef}
    {last : Option Word} {s : State} (hn : ws.length < n) (h : chainReads k ws m s e t) :
    chase k n m last s = .ok ⟨t.combine e, ws.getLast?.or last, e.x⟩ t := by
  induction ws generalizing n m last s with
  | nil =>
    obtain ⟨n, rfl⟩ : ∃ j, n = j + 1 := ⟨n - 1, by simp only [List.length_nil] at hn; omega⟩
    obtain ⟨hi, rfl, rfl⟩ := h
    simp [chase, hi]
  | cons w ws ih =>
    obtain ⟨n, rfl⟩ : ∃ j, n = j + 1 := ⟨n - 1, by simp only [List.length_cons] at hn; omega⟩
    obtain ⟨hi, u, hw, h⟩ := h
    have hn' : ws.length < n := by simpa using hn
    rw [chase, if_pos hi, hw, Res.bind_ok, ih hn' h, List.getLast?_cons]
    cases ws.getLast? <;> rfl

theorem resolve_of_chainReads {k : Access} {e m : MemRef} {s t : State} {ws : List Word}
    (hn : ws.length < chainFuel + s.between.length) (h : chainReads k ws m s e t) :
    resolve k m s = .ok ⟨t.combine e, ws.getLast?, e.x⟩ t := by
  rw [resolve, chase_of_chainReads hn h, Option.or_none]

/-! ### A chain never reads a word twice -/

theorem onlyHalt_combine {s t : State} (h : onlyHalt s t) (m : MemRef) : t.combine m = s.combine m := by
  unfold onlyHalt at h; rw [h]; rfl

/-- Where nothing comes between, a read answers the same in states that differ in a halt asked for alone. -/
theorem memRead_congr {k : Access} {a : Addr} {n : Size} {s s' u u' : State} {w w' : Word} (hb : s.between = [])
    (h : onlyHalt s s') (hw : memRead k a n s = .ok w u) (hw' : memRead k a n s' = .ok w' u') :
    w = w' ∧ onlyHalt u u' := by
  have hb' : s'.between = [] := (onlyHalt_between h).trans hb
  obtain ⟨p, hp, -, -, rfl, rfl⟩ := memRead_ok hw
  obtain ⟨q, hq, -, -, rfl, rfl⟩ := memRead_ok hw'
  rw [interleave_alone hb, interleave_alone hb']
  unfold onlyHalt at h
  rw [h] at hq ⊢
  cases hp.symm.trans hq
  exact ⟨rfl, rfl⟩

/-- How long a chain is, its reference decides. -/
theorem chainReads_length_congr {k : Access} {e e' m : MemRef} {t t' s s' : State} {ws ws' : List Word}
    (hb : s.between = []) (hs : onlyHalt s s') (h : chainReads k ws m s e t) (h' : chainReads k ws' m s' e' t') :
    ws.length = ws'.length := by
  induction ws generalizing ws' m s s' with
  | nil =>
    cases ws' with
    | nil => rfl
    | cons w' ws' => exact absurd h'.1 (by simp [h.1])
  | cons w ws ih =>
    cases ws' with
    | nil => exact absurd h.1 (by simp [h'.1])
    | cons w' ws' =>
      obtain ⟨-, u, hw, h⟩ := h
      obtain ⟨-, u', hw', h'⟩ := h'
      rw [onlyHalt_combine hs] at hw'
      obtain ⟨rfl, hu⟩ := memRead_congr hb hs hw hw'
      have hbu : u.between = [] := (onlyHalt_between (memRead_onlyHalt hb hw)).trans hb
      rw [List.length_cons, List.length_cons, ih hbu hu h h']

/-- So does the address of its first word. -/
theorem chainReads_length_of_addr {k : Access} {e e' m m' : MemRef} {t t' s s' : State} {w w' : Word}
    {ws ws' : List Word} (hb : s.between = []) (hs : onlyHalt s s')
    (ha : wordAlign (s.combine m).addr = wordAlign (s'.combine m').addr) (h : chainReads k (w :: ws) m s e t)
    (h' : chainReads k (w' :: ws') m' s' e' t') : (w :: ws).length = (w' :: ws').length := by
  obtain ⟨-, u, hw, h⟩ := h
  obtain ⟨-, u', hw', h'⟩ := h'
  rw [← ha] at hw'
  obtain ⟨rfl, hu⟩ := memRead_congr hb hs hw hw'
  have hbu : u.between = [] := (onlyHalt_between (memRead_onlyHalt hb hw)).trans hb
  rw [List.length_cons, List.length_cons, chainReads_length_congr hbu hu h h']

theorem memRead_between {k : Access} {a : Addr} {n : Size} {s t : State} {v : Word} (h : memRead k a n s = .ok v t) :
    t.between = s.between.tail := by
  obtain ⟨_, -, -, -, -, rfl⟩ := memRead_ok h
  rw [(interleave_spec s).1]
  rfl

/-- What is left of a chain after some of its reads is a chain, in a state where as many lists of stores are used up. -/
theorem chainReads_drop {k : Access} {e m : MemRef} {t s : State} {ws : List Word} (h : chainReads k ws m s e t)
    {i : Nat} (hi : i ≤ ws.length) :
    ∃ m' s', chainReads k (ws.drop i) m' s' e t ∧ s'.between = s.between.drop i ∧
      (s.between = [] → onlyHalt s s') := by
  induction i generalizing ws m s with
  | zero => exact ⟨m, s, h, rfl, fun _ => onlyHalt_refl s⟩
  | succ i ih =>
    cases ws with
    | nil => simp at hi
    | cons w ws =>
      obtain ⟨-, u, hw, h⟩ := h
      obtain ⟨m', s', h', hbs, hs⟩ := ih h (by simpa using hi)
      have hbu := memRead_between hw
      refine ⟨m', s', h', by rw [hbs, hbu, List.drop_tail], fun hb => ?_⟩
      exact onlyHalt_trans (memRead_onlyHalt hb hw) (hs (by rw [hbu, hb]; rfl))

/-- A chain that no other agent's store interrupts is at most as long as there are words: the words that begin its
suffixes have different addresses, the suffixes being of different lengths. -/
theorem chainReads_length_le_of_alone {k : Access} {e m : MemRef} {t s : State} {ws : List Word}
    (hb : s.between = []) (h : chainReads k ws m s e t) : ws.length ≤ 2 ^ 22 := by
  by_contra hlong
  have hsuffix (i : Fin (2 ^ 22 + 1)) :
      ∃ m' s', chainReads k (ws.drop i) m' s' e t ∧ onlyHalt s s' := by
    obtain ⟨m', s', h', -, hs⟩ := chainReads_drop h (i := i) (by omega)
    exact ⟨m', s', h', hs hb⟩
  choose ref st hchain hst using hsuffix
  have hword (i : Fin (2 ^ 22 + 1)) : ((st i).combine (ref i)).addr.toNat / 4 < 2 ^ 22 := by omega
  obtain ⟨i, j, hij, heq⟩ := Fintype.exists_ne_map_eq_of_card_lt
    (fun i => (⟨((st i).combine (ref i)).addr.toNat / 4, hword i⟩ : Fin (2 ^ 22))) (by simp)
  have haddr : wordAlign ((st i).combine (ref i)).addr = wordAlign ((st j).combine (ref j)).addr := by
    apply BitVec.eq_of_toNat_eq
    rw [wordAlign_toNat, wordAlign_toNat, Fin.mk.inj heq]
  have hb_i : (st i).between = [] := (onlyHalt_between (hst i)).trans hb
  have hst_ij : onlyHalt (st i) (st j) := by
    have hi := hst i
    have hj := hst j
    unfold onlyHalt at hi hj ⊢
    rw [hj, hi]
  have hlen (p : Fin (2 ^ 22 + 1)) : (ws.drop p).length = ws.length - p := List.length_drop
  have hi := hchain i
  have hj := hchain j
  have hli := hlen i
  have hlj := hlen j
  cases hdi : ws.drop i with
  | nil => rw [hdi, List.length_nil] at hli; omega
  | cons w ws' =>
    cases hdj : ws.drop j with
    | nil => rw [hdj, List.length_nil] at hlj; omega
    | cons v vs' =>
      rw [hdi] at hi hli
      rw [hdj] at hj hlj
      have := chainReads_length_of_addr hb_i hst_ij haddr hi hj
      exact hij (Fin.ext (by omega))

/-- Other agents' stores lengthen a chain by one word for each list at most. -/
theorem chainReads_length_le {k : Access} {e m : MemRef} {t s : State} {ws : List Word}
    (h : chainReads k ws m s e t) : ws.length ≤ 2 ^ 22 + s.between.length := by
  rcases Nat.le_total ws.length s.between.length with hle | hle
  · omega
  · obtain ⟨m', s', h', hbs, -⟩ := chainReads_drop h hle
    have hlen := chainReads_length_le_of_alone (by rw [hbs, List.drop_length]) h'
    rw [List.length_drop] at hlen
    omega

end Sys2Proof.Machine

namespace Sys2Proof.Proofs

open Sys2Proof.Machine

/-- Settles O10: a chain that ends is shorter than the fuel (`chainReads_length_le`), so it is followed to its end. -/
theorem indirectChain : Obligations.IndirectChain := by
  refine ⟨fun k m e ws s t hn h => resolve_of_chainReads ?_ h, fun k m s u f hstuck ws e t h => ?_⟩
  · unfold chainFuel; omega
  · have hlen := chainReads_length_le h
    rw [resolve_of_chainReads (by unfold chainFuel; omega) h] at hstuck
    cases hstuck

end Sys2Proof.Proofs
end

section
/-!
Reads (R90, R110, R740, R741): what a logical read answers and which trap it meets, then the operand of each width.
-/

namespace Sys2Proof.Machine

/-! ### One read -/

theorem memRead_error {k : Access} {s : State} {a : Addr} {e : Trap} (n : Size)
    (ht : s.translate k false a = .error e) : memRead k a n s = .stop (.trap e) s := by
  simp [memRead, ht]

theorem memRead_absent {k : Access} {s : State} {a pa : Addr} {n : Size} (ht : s.translate k false a = .ok pa)
    (hp : s.present pa n = false) : memRead k a n s = .stop (.trap (.nonpresent false)) s.interleave := by
  have h : s.interleave.present pa n = false := by rw [(interleave_spec s).1]; exact hp
  simp [memRead, ht, operandRead, physRead, readNow, h, operandErr]

/-- A memory error is met by the next operand read, and then it is gone (log 29). -/
theorem memRead_parity {k : Access} {s : State} {a pa : Addr} {n : Size} (ht : s.translate k false a = .ok pa)
    (hp : s.present pa n = true) (ho : s.operandParity = true) :
    memRead k a n s =
      .stop (.trap (.memoryParity false)) { s.interleave.lightParity with operandParity := false } := by
  have h : s.interleave.present pa n = true := by rw [(interleave_spec s).1]; exact hp
  have h' : s.interleave.operandParity = true := by rw [(interleave_spec s).1]; exact ho
  simp [memRead, ht, operandRead, physRead, readNow, h, h', operandErr]

theorem memRead_eq {k : Access} {s : State} {a pa : Addr} {n : Size} (ht : s.translate k false a = .ok pa)
    (hp : s.present pa n = true) (ho : s.operandParity = false) :
    memRead k a n s =
      .ok (s.interleave.peek pa.toNat n) (s.interleave.askHalt (s.stops.read && s.stopHit pa n)) := by
  have h : s.interleave.present pa n = true := by rw [(interleave_spec s).1]; exact hp
  have h' : s.interleave.operandParity = false := by rw [(interleave_spec s).1]; exact ho
  simp only [memRead, ht, operandRead, physRead, readNow, h, h', Bool.not_true, Bool.false_eq_true, if_false,
    Res.bind_ok]
  rw [(interleave_spec s).1]
  rfl

/-! ### The two words of a doubleword -/

theorem addr_add_four {a : Addr} (h : a.toNat % 8 = 0) : (a + 4).toNat = a.toNat + 4 := by
  have := a.isLt
  have h4 : (4 : Addr).toNat = 4 := rfl
  rw [BitVec.toNat_add, h4]
  omega

/-- The field of an address above its low three bits is that of the word after it in the doubleword. -/
theorem bits_add_four {a : Addr} {i l : Nat} (ha : a.toNat % 8 = 0) (h : i + l ≤ 21) : bits (a + 4) i l = bits a i l := by
  apply bits_of_toNat
  have hdiv (x : Nat) : x / 2 ^ (24 - i - l) = x / 8 / 2 ^ (21 - i - l) := by
    rw [Nat.div_div_eq_div_mul, show (8 : Nat) = 2 ^ 3 from rfl, ← pow_add]
    congr 2
    omega
  rw [addr_add_four ha, bits_toNat, hdiv, hdiv a.toNat, show (a.toNat + 4) / 8 = a.toNat / 8 by omega]

theorem realAddr_mod {e : Half} {a : Addr} (ha : a.toNat % 8 = 0) : (bits e 7 9 ++ bits a 9 15).toNat % 8 = 0 := by
  rw [realAddr_eq, BitVec.toNat_ofNat]
  omega

theorem realAddr_add_four {e : Half} {a : Addr} (ha : a.toNat % 8 = 0) :
    bits e 7 9 ++ bits (a + 4) 9 15 = (bits e 7 9 ++ bits a 9 15) + 4 := by
  apply BitVec.eq_of_toNat_eq
  rw [addr_add_four (realAddr_mod ha), realAddr_eq, realAddr_eq, addr_add_four ha, BitVec.toNat_ofNat,
    BitVec.toNat_ofNat]
  omega

/-- The words of an aligned doubleword are on one page, and stay neighbours in real memory. -/
theorem translate_add_four (s : State) (k : Access) (w : Bool) {a : Addr} (ha : a.toNat % 8 = 0) :
    s.translate k w (a + 4) = (s.translate k w a).map (· + 4) := by
  have hpage : s.pageOf k (a + 4) = s.pageOf k a := by
    simp only [State.pageOf, bits_add_four ha (show 0 + 4 ≤ 21 by decide), bits_add_four ha (show 4 + 5 ≤ 21 by decide),
      bits_add_four ha (show 5 + 4 ≤ 21 by decide)]
  cases hm : s.mapActive with
  | false => rw [translate_unmapped k w _ hm, translate_unmapped k w _ hm]; rfl
  | true =>
    cases hp : s.pageOf k a with
    | none => rw [translate_noPage w hm (hpage.trans hp), translate_noPage w hm hp]; rfl
    | some p =>
      rw [translate_mapped w hm (hpage.trans hp), translate_mapped w hm hp, realAddr_add_four ha]
      split
      · rfl
      · split <;> rfl

theorem dwordAlign_mod (a : Addr) : (dwordAlign a).toNat % 8 = 0 := by rw [dwordAlign_toNat]; omega

/-- A real address of an aligned doubleword is aligned too. -/
theorem translate_mod {s : State} {k : Access} {w : Bool} {a pa : Addr} (ha : a.toNat % 8 = 0)
    (ht : s.translate k w a = .ok pa) : pa.toNat % 8 = 0 := by
  have := translate_offset ht
  omega

/-- The least significant word of a doubleword whose address goes to `pa`. -/
theorem translate_low {s : State} {k : Access} {w : Bool} {a pa : Addr} (ht : s.translate k w (dwordAlign a) = .ok pa) :
    s.translate k w (dwordAlign a + 4) = .ok (pa + 4) := by
  rw [translate_add_four s k w (dwordAlign_mod a), ht]
  rfl

/-! ### Operands -/

/-- The size of one access to an operand of this width (R130). -/
def Width.unit : Width → Size
  | .byte => .byte
  | .half => .half
  | .word => .word
  | .dword => .word

theorem readAt_stop {w : Width} {a : Addr} {s t : State} {e : Stop} (hw : w ≠ .dword)
    (h : memRead .operand (operandAddr w a) w.unit s = .stop e t) : readAt w a s = .stop e t := by
  cases w with
  | byte | half | word => simp only [Width.unit] at h; simp [readAt, h]
  | dword => exact absurd rfl hw

theorem readAt_dword_stop {a : Addr} {s t : State} {e : Stop}
    (h : memRead .operand (dwordAlign a + 4) .word s = .stop e t) : readAt .dword a s = .stop e t := by
  simp only [readAt, readDword, operandAddr, h, Res.bind_stop]

theorem readAt_error {w : Width} {a : Addr} {s : State} {e : Trap}
    (ht : s.translate .operand false (operandAddr w a) = .error e) : readAt w a s = .stop (.trap e) s := by
  cases w with
  | byte | half | word => exact readAt_stop (by decide) (memRead_error _ ht)
  | dword =>
    refine readAt_dword_stop (memRead_error _ ?_)
    rw [translate_add_four s _ _ (dwordAlign_mod a)]
    simp only [operandAddr] at ht
    rw [ht]
    rfl

theorem bits_peek_byte (s : State) (a : Nat) : bits (s.peek a .byte) 24 8 = s.byte a := by
  have := (s.byte a).isLt
  refine bits_of_toNat ?_
  rw [peek_byte_toNat]
  omega

theorem bits_peek_half (s : State) (a : Nat) : bits (s.peek a .half) 16 16 = s.byte a ++ s.byte (a + 1) := by
  have := (s.byte a).isLt
  have := (s.byte (a + 1)).isLt
  refine bits_of_toNat ?_
  rw [peek_half_toNat, append_toNat]
  omega

/-- The words of an installed doubleword are installed (R130). -/
theorem installed_words {s : State} {a : Nat} (h : s.installed a 8 = true) :
    s.installed a 4 = true ∧ s.installed (a + 4) 4 = true := by
  simp only [installed_iff] at h ⊢
  obtain ⟨hmem, hholes⟩ := h
  refine ⟨⟨by omega, fun x hx => ?_⟩, by omega, fun x hx => ?_⟩
  all_goals
    have := hholes x hx
    omega

section Reads

variable {s : State} {a pa : Addr} (hb : s.between = []) (ho : s.operandParity = false)
include hb ho

theorem readAt_byte (ht : s.translate .operand false (operandAddr .byte a) = .ok pa)
    (hp : s.present pa .byte = true) :
    ∃ v, readAt .byte a s = .ok (.byte (s.byte pa.toNat)) v ∧ onlyHalt s v := by
  refine ⟨_, ?_, onlyHalt_askHalt s (s.stops.read && s.stopHit pa .byte)⟩
  rw [readAt, memRead_eq ht hp ho, interleave_alone hb, Res.bind_ok, bits_peek_byte]

theorem readAt_half (ht : s.translate .operand false (operandAddr .half a) = .ok pa)
    (hp : s.present pa .half = true) :
    ∃ v, readAt .half a s = .ok (.half (s.byte pa.toNat ++ s.byte (pa.toNat + 1))) v ∧ onlyHalt s v := by
  refine ⟨_, ?_, onlyHalt_askHalt s (s.stops.read && s.stopHit pa .half)⟩
  rw [readAt, memRead_eq ht hp ho, interleave_alone hb, Res.bind_ok, bits_peek_half]

theorem readAt_word (ht : s.translate .operand false (operandAddr .word a) = .ok pa)
    (hp : s.present pa .word = true) :
    ∃ v, readAt .word a s = .ok (.word (s.peek pa.toNat .word)) v ∧ onlyHalt s v := by
  refine ⟨_, ?_, onlyHalt_askHalt s (s.stops.read && s.stopHit pa .word)⟩
  rw [readAt, memRead_eq ht hp ho, interleave_alone hb, Res.bind_ok]

/-- The least significant word of a doubleword is read first (R130). -/
theorem memRead_dword_low (ht : s.translate .operand false (dwordAlign a) = .ok pa)
    (hlo : s.installed (pa.toNat + 4) 4 = true) :
    ∃ t, memRead .operand (dwordAlign a + 4) .word s = .ok (s.peek (pa.toNat + 4) .word) t ∧ onlyHalt s t := by
  have hpa := addr_add_four (translate_mod (dwordAlign_mod a) ht)
  have hp' : s.present (pa + 4) .word = true := by rw [State.present, hpa]; exact hlo
  refine ⟨_, ?_, onlyHalt_askHalt s (s.stops.read && s.stopHit (pa + 4) .word)⟩
  rw [memRead_eq (translate_low ht) hp' ho, interleave_alone hb, hpa]

theorem readAt_dword (ht : s.translate .operand false (dwordAlign a) = .ok pa) (hp : s.installed pa.toNat 8 = true) :
    ∃ v, readAt .dword a s = .ok (.dword (s.peek pa.toNat .word ++ s.peek (pa.toNat + 4) .word)) v ∧
      onlyHalt s v := by
  obtain ⟨hhi, hlo⟩ := installed_words hp
  obtain ⟨t, hread, hst⟩ := memRead_dword_low hb ho ht hlo
  have hbt : t.between = [] := (onlyHalt_between hst).trans hb
  have hread' : ∃ v, memRead .operand (dwordAlign a) .word t = .ok (s.peek pa.toNat .word) v ∧ onlyHalt t v := by
    refine ⟨_, ?_, onlyHalt_askHalt t (t.stops.read && t.stopHit pa .word)⟩
    unfold onlyHalt at hst
    rw [memRead_eq (pa := pa) (by rw [hst]; exact ht) (by rw [hst]; exact hhi) (by rw [hst]; exact ho),
      interleave_alone hbt]
    congr 1
    rw [hst]
    rfl
  obtain ⟨v, hv, htv⟩ := hread'
  refine ⟨v, ?_, onlyHalt_trans hst htv⟩
  simp only [readAt, readDword, operandAddr, hread, hv, Res.bind_ok]

theorem readAt_dword_high_absent (ht : s.translate .operand false (dwordAlign a) = .ok pa)
    (hlo : s.installed (pa.toNat + 4) 4 = true) (hhi : s.installed pa.toNat 4 = false) :
    ∃ v, readAt .dword a s = .stop (.trap (.nonpresent false)) v ∧ onlyHalt s v := by
  obtain ⟨t, hread, hst⟩ := memRead_dword_low hb ho ht hlo
  have hbt : t.between = [] := (onlyHalt_between hst).trans hb
  have hread' : memRead .operand (dwordAlign a) .word t = .stop (.trap (.nonpresent false)) t := by
    unfold onlyHalt at hst
    rw [memRead_absent (pa := pa) (by rw [hst]; exact ht) (by rw [hst]; exact hhi), interleave_alone hbt]
  refine ⟨t, ?_, hst⟩
  simp only [readAt, readDword, operandAddr, hread, hread', Res.bind_ok, Res.bind_stop]

end Reads

theorem readAt_dword_low_absent {s : State} {a pa : Addr} (hb : s.between = [])
    (ht : s.translate .operand false (dwordAlign a) = .ok pa)
    (hlo : s.installed (pa.toNat + 4) 4 = false) : readAt .dword a s = .stop (.trap (.nonpresent false)) s := by
  rw [← addr_add_four (translate_mod (dwordAlign_mod a) ht)] at hlo
  rw [readAt_dword_stop (memRead_absent (n := .word) (translate_low ht) hlo), interleave_alone hb]

theorem readAt_dword_parity {s : State} {a pa : Addr} (ht : s.translate .operand false (dwordAlign a) = .ok pa)
    (hlo : s.installed (pa.toNat + 4) 4 = true) (ho : s.operandParity = true) :
    ∃ v, readAt .dword a s = .stop (.trap (.memoryParity false)) v ∧ v.operandParity = false := by
  rw [← addr_add_four (translate_mod (dwordAlign_mod a) ht)] at hlo
  exact ⟨_, readAt_dword_stop (memRead_parity (n := .word) (translate_low ht) hlo ho), rfl⟩

theorem onlyHalt_installed {s t : State} (h : onlyHalt s t) (a n : Nat) : t.installed a n = s.installed a n := by
  unfold onlyHalt at h; rw [h]; rfl

theorem onlyHalt_peek {s t : State} (h : onlyHalt s t) (a : Nat) (n : Size) : t.peek a n = s.peek a n := by
  unfold onlyHalt at h; rw [h]; rfl

theorem operand_of_resolve {m : MemRef} {s u : State} {x : Target} (h : resolve .operand m s = .ok x u) :
    operand m s = readAt x.ea.width x.ea.addr u := by
  rw [operand, h, Res.bind_ok]

theorem Width.unit_bytes (w : Width) :
    w.unit.bytes = if w = .byte then 1 else if w = .half then 2 else 4 := by
  cases w <;> rfl

end Sys2Proof.Machine

namespace Sys2Proof.Proofs

open Sys2Proof.Machine

/-- Settles O11: the address is formed in a state that differs in a halt asked for alone, then each width by the lemmas
on `readAt`. -/
theorem operandReads : Obligations.OperandReads := by
  constructor
  · intro s u m x pa hb hr ht ho
    have hu := resolve_onlyHalt hb hr
    have hbu : u.between = [] := (onlyHalt_between hu).trans hb
    have hfin {o : Operand} (h : ∃ v, readAt x.ea.width x.ea.addr u = .ok o v ∧ onlyHalt u v) :
        ∃ v, operand m s = .ok o v ∧ onlyHalt s v := by
      obtain ⟨v, hv, huv⟩ := h
      exact ⟨v, (operand_of_resolve hr).trans hv, onlyHalt_trans hu huv⟩
    simp only [← onlyHalt_installed hu, ← onlyHalt_byte hu, ← onlyHalt_peek hu]
    refine ⟨fun hw hp => hfin ?_, fun hw hp => hfin ?_, fun hw hp => hfin ?_, fun hw hp => hfin ?_⟩
    all_goals rw [hw] at ht ⊢
    · exact readAt_byte hbu ho ht hp
    · exact readAt_half hbu ho ht hp
    · exact readAt_word hbu ho ht hp
    · exact readAt_dword hbu ho ht hp
  · intro s u m x hb hr a n
    have hu := resolve_onlyHalt hb hr
    have hbu : u.between = [] := (onlyHalt_between hu).trans hb
    have hn : n = x.ea.width.unit.bytes := (Width.unit_bytes _).symm
    rw [operand_of_resolve hr, hn]
    simp only [← onlyHalt_installed hu]
    refine ⟨fun e ht => readAt_error ht, fun hw => ⟨fun pa ht hp => ?_, fun pa ht hp ho => ?_⟩, fun hw pa ht => ?_⟩
    · exact (readAt_stop hw (memRead_absent ht hp)).trans (by rw [interleave_alone hbu])
    · exact ⟨_, readAt_stop hw (memRead_parity ht hp ho), rfl⟩
    · simp only [a, hw] at ht ⊢
      exact ⟨readAt_dword_low_absent hbu ht, readAt_dword_parity ht,
        fun hlo ho hhi => readAt_dword_high_absent hbu ho ht hlo hhi⟩

end Sys2Proof.Proofs
end

section
/-!
Stores of other agents between this CPU's accesses (R130 to R136, R853), and the locked read and write of SBM, ZBM
and ABM (R131).
-/

namespace Sys2Proof.Machine

/-! ### What other agents leave -/

/-- A store to memory that is not installed is dropped (log 42). -/
theorem byteAfter_cons_absent {s : State} {a : Addr} (v : Byte) (l : List (Addr × Byte)) (b : Nat)
    (hp : ¬s.present a .byte = true) : s.byteAfter ((a, v) :: l) b = s.byteAfter l b := by
  rw [State.byteAfter, State.byteAfter, List.filter_cons_of_neg (by simp [hp])]

/-- Any other store is made before those that follow it. -/
theorem byteAfter_cons_present {s : State} {a : Addr} (v : Byte) (l : List (Addr × Byte)) (b : Nat)
    (hw : Memory.wf s.mem = true) (hp : s.present a .byte = true) :
    s.byteAfter ((a, v) :: l) b = (s.setByte a.toNat v).byteAfter l b := by
  simp only [State.byteAfter, State.present_setByte, State.byte_setByte s _ v b hw]
  by_cases hab : b = a.toNat
  · subst hab
    rw [List.filter_cons_of_pos (by simp [hp]), List.getLast?_cons, if_pos rfl]
    cases (l.filter fun p => decide (p.1.toNat = a.toNat) && s.present p.1 .byte).getLast? <;> rfl
  · rw [List.filter_cons_of_neg (by simp [Ne.symm hab]), if_neg hab]

/-- Of the stores to a place the last one stays (R133). -/
theorem byte_storeAll_eq {l : List (Addr × Byte)} {s : State} (hw : Memory.wf s.mem = true) (b : Nat) :
    (storeAll l s).byte b = s.byteAfter l b := by
  induction l generalizing s with
  | nil => rfl
  | cons p l ih =>
    obtain ⟨a, v⟩ := p
    rw [storeAll]
    split
    · next hp => rw [ih (State.wf_setByte s _ v hw), byteAfter_cons_present v l b hw hp]
    · next hp => rw [ih hw, byteAfter_cons_absent v l b hp]

/-- What they store depends on memory and on what is installed alone. -/
theorem mem_storeAll_congr {l : List (Addr × Byte)} {s t : State} (hm : t.mem = s.mem) (hc : t.cfg = s.cfg) :
    (storeAll l t).mem = (storeAll l s).mem := by
  induction l generalizing s t with
  | nil => exact hm
  | cons p l ih =>
    have hp : t.present p.1 .byte = s.present p.1 .byte := by simp only [State.present, State.installed, hc]
    rw [storeAll, storeAll, hp]
    split
    · exact ih (by rw [State.setByte, State.setByte, hm]) hc
    · exact ih hm hc

theorem interleave_cons {s : State} {l : List (Addr × Byte)} {rest : List (List (Addr × Byte))}
    (h : s.between = l :: rest) : s.interleave = storeAll l { s with between := rest } := by
  simp [State.interleave, h]

/-- So an access finds the same memory in states that differ elsewhere. -/
theorem interleave_congr {s t : State} (hm : t.mem = s.mem) (hc : t.cfg = s.cfg) (hb : t.between = s.between) :
    t.interleave = { t with mem := s.interleave.mem, between := s.between.tail } := by
  have hmem : t.interleave.mem = s.interleave.mem := by
    cases h : s.between with
    | nil => rw [interleave_alone h, interleave_alone (hb.trans h), hm]
    | cons l rest => rw [interleave_cons h, interleave_cons (hb.trans h)]; exact mem_storeAll_congr hm hc
  rw [← hmem, ← hb]
  exact (interleave_spec t).1

theorem interleave_askHalt (s : State) (b : Bool) : (s.askHalt b).interleave = s.interleave.askHalt b := by
  rw [interleave_congr (s := s) (t := s.askHalt b) rfl rfl rfl]
  conv_rhs => rw [(interleave_spec s).1]
  rfl

/-- The words of a doubleword, each as it is when its own turn comes (R130, R133). -/
theorem readDword_interleaved {s : State} {k : Access} {a p q : Addr} (hp : s.translate k false a = .ok p)
    (hq : s.translate k false (a + 4) = .ok q) (hpp : s.present p .word = true) (hpq : s.present q .word = true)
    (ho : s.operandParity = false) :
    ∃ t, readDword k a s =
      .ok (s.interleave.interleave.peek p.toNat .word ++ s.interleave.peek q.toNat .word) t ∧
        onlyHalt s.interleave.interleave t := by
  have hs := (interleave_spec s).1
  have hlo := memRead_eq hq hpq ho
  have hhi := memRead_eq (s := s.interleave.askHalt (s.stops.read && s.stopHit q .word)) (k := k) (a := a) (pa := p)
    (n := .word) (by rw [hs]; exact hp) (by rw [hs]; exact hpp) (by rw [hs]; exact ho)
  rw [interleave_askHalt] at hhi
  simp only [readDword, hlo, hhi, Res.bind_ok]
  exact ⟨_, rfl, onlyHalt_trans (onlyHalt_askHalt _ _) (onlyHalt_askHalt _ _)⟩

/-! ### The locked read and write -/

theorem interleave_start (s : State) (len : Len) : (s.start len).interleave = s.interleave.start len := by
  rw [interleave_congr (s := s) (t := s.start len) rfl rfl rfl]
  conv_rhs => rw [(interleave_spec s).1]
  rfl

theorem mem_poke_congr {s t : State} (a : Nat) (n : Size) (v : Word) (h : t.mem = s.mem) :
    (t.poke a n v).mem = (s.poke a n v).mem := by
  cases n <;> simp only [State.poke, State.setByte, h]

/-- Between a locked access and what came before it nothing is stored, and the lists of stores are kept (R131). -/
theorem locked_memWrite_eq {s : State} {a pa : Addr} {n : Size} (v : Word) (h : storesTo s a n pa) :
    locked (memWrite a n v) s =
      .ok () ((s.poke pa.toNat n v).askHalt (s.stops.write && s.stopHit pa n)) := by
  have h' : storesTo { s with between := [] } a n pa := ⟨h.real, h.permitted, h.present⟩
  unfold locked
  rw [memWrite_eq v h', interleave_alone rfl]
  cases n <;> rfl

/-- `T` is `s` after the stores of others and then a store of the low bytes of `v` at `pa`, before the end of the
instruction that made it. -/
structure StoredLocked (pa : Addr) (n : Size) (v : Word) (s T : State) : Prop where
  frame : effectMem s.interleave T
  pc : T.pc = s.pc
  lastBix : T.lastBix = s.lastBix
  mem : T.mem = (s.interleave.poke pa.toNat n v).mem

theorem storesTo_interleave {s : State} {a pa : Addr} {n : Size} (h : storesTo s a n pa) :
    storesTo s.interleave a n pa := by
  rw [(interleave_spec s).1]
  exact ⟨h.real, h.permitted, h.present⟩

theorem StoredLocked.setCC {pa : Addr} {n : Size} {v : Word} {s T : State} (h : StoredLocked pa n v s T) (c : CC) :
    StoredLocked pa n v s (T.setCC c) where
  frame := effectMem_trans h.frame rfl
  pc := h.pc
  lastBix := h.lastBix
  mem := h.mem

theorem StoredLocked.arithEnabled {pa : Addr} {n : Size} {v : Word} {s T : State} (h : StoredLocked pa n v s T) :
    T.arithEnabled = s.arithEnabled := by
  have hT := h.frame
  unfold effectMem at hT
  rw [hT, (interleave_spec s).1]
  rfl

/-- A read and then a locked store of what `f` makes of the word read; `g` is what follows. -/
theorem read_locked_write {s : State} {a pa : Addr} {n : Size} (f : Word → Word) (g : Word → State → Res Unit)
    (ho : s.operandParity = false) (h : storesTo s a n pa) :
    ∃ T, ((memRead .operand a n s).bind fun w s => (locked (memWrite a n (f w)) s).bind fun _ s => g w s) =
        g (s.interleave.peek pa.toNat n) T ∧ StoredLocked pa n (f (s.interleave.peek pa.toNat n)) s T := by
  have hw : storesTo (s.interleave.askHalt (s.stops.read && s.stopHit pa n)) a n pa := by
    have hu := storesTo_interleave h
    exact ⟨hu.real, hu.permitted, hu.present⟩
  rw [memRead_eq (translate_read_of_write h.real) h.present ho]
  simp only [Res.bind_ok, locked_memWrite_eq _ hw]
  refine ⟨_, rfl, ?_, ?_, ?_, mem_poke_congr _ _ _ rfl⟩
  · unfold effectMem
    rw [poke_eq]
    rfl
  · rw [poke_eq, (interleave_spec s).1]
    rfl
  · rw [poke_eq, (interleave_spec s).1]
    rfl

theorem bitAddress_direct {m : MemRef} (s : State) (h : m.i = false) :
    bitAddress m s = .ok (s.combine m).addr s := by
  rw [bitAddress, resolve_direct .operand s h, Res.bind_ok]

/-- SBM and ZBM (R473, R475). -/
theorem putMemBit_stored {s : State} {b : BitVec 3} {m : MemRef} {pa : Addr} (v : Bool) (hi : m.i = false)
    (ho : s.operandParity = false) (h : storesTo s (s.combine m).addr .byte pa) :
    ∃ T, putMemBit b m v s = .ok () T ∧
      StoredLocked pa .byte (putBitAt (s.interleave.peek pa.toNat .byte) (24 + b.toNat) v) s T := by
  rw [putMemBit, bitAddress_direct s hi, Res.bind_ok]
  obtain ⟨T, hT, hst⟩ := read_locked_write (fun w => putBitAt w (24 + b.toNat) v)
    (fun w s => .ok () (s.setCC (ccShift (bitAt w (24 + b.toNat)) s.cc))) ho h
  exact ⟨_, hT, hst.setCC _⟩

/-- ABM at bit `p` of the word, where its overflow raises nothing (R477). -/
theorem opAbm_stored {s : State} {b : BitVec 3} {m : MemRef} {pa : Addr} {p : Nat} (hi : m.i = false)
    (ho : s.operandParity = false) (h : storesTo s (wordAlign (s.combine m).addr) .word pa)
    (hp : 8 * (bits (s.combine m).addr 22 2).toNat + b.toNat = p)
    (harith : (addBit (s.interleave.peek pa.toNat .word) p).2 = true → s.arithEnabled = false) :
    ∃ T, opAbm b m s = .ok () T ∧ StoredLocked pa .word (addBit (s.interleave.peek pa.toNat .word) p).1 s T := by
  rw [opAbm, bitAddress_direct s hi, Res.bind_ok, hp]
  obtain ⟨T, hT, hst⟩ := read_locked_write (fun w => (addBit w p).1)
    (fun w t => arithCheck (t.setCC (ccArith (addBit w p).2 (addBit w p).1))) ho h
  refine ⟨_, hT.trans (arithCheck_ok fun hcc => ?_), hst.setCC _⟩
  exact (hst.setCC _).arithEnabled.trans (harith hcc)

/-- The end of an instruction that has stored so, none of its accesses having used up a second list of stores. -/
theorem perform_storedLocked {len : Len} {op : State → Res Unit} {s T : State} {pa : Addr} {n : Size} {v : Word}
    (hq : s.mode = .psd → s.blocked = true → s.bmtEn = true → s.blockCount < 128)
    (h : op (s.start len) = .ok () T) (hT : StoredLocked pa n v (s.start len) T) :
    ∃ t, perform len op s = .next t ∧ t.between = s.between.tail ∧ onlyMem s.interleave t ∧ Ended len s t ∧
      t.mem = (s.interleave.poke pa.toNat n v).mem := by
  obtain ⟨hframe, hpc, hlast, hmem⟩ := hT
  rw [interleave_start] at hframe hmem
  have hs := (interleave_spec s).1
  have hfields : T = { s with
      mem := T.mem, between := s.between.tail, cc := T.cc, pc := T.pc, lastBix := T.lastBix, haltReq := T.haltReq } := by
    unfold effectMem at hframe
    rw [hs] at hframe
    exact hframe
  refine ⟨finish len s T, ?_, ?_, ?_, ?_, ?_⟩
  · refine perform_done_blocking h (fun hm he hb _ => ?_) (by rw [hfields])
    rw [hfields] at hm he hb ⊢
    exact hq hm hb he
  · rw [hfields]; rfl
  · unfold onlyMem
    rw [hs, hfields]
    rfl
  · exact finish_ended hpc hlast (by rw [hfields])
  · exact hmem.trans (mem_poke_congr _ _ _ rfl)

/-! ### What was stored -/

theorem byte_congr {s t : State} (h : t.mem = s.mem) (a : Nat) : t.byte a = s.byte a := by
  rw [State.byte, State.byte, h]

theorem peek_congr {s t : State} (h : t.mem = s.mem) (a : Nat) (n : Size) : t.peek a n = s.peek a n := by
  cases n <;> simp only [State.peek, byte_congr h]

/-- A byte stored with one bit made `v` (R471). -/
theorem getLsbD_byte_poke_putBit {u : State} {a : Nat} {b : BitVec 3} {v : Bool} (hw : Memory.wf u.mem = true)
    {q : Nat} (hq : q < 8) :
    ((u.poke a .byte (putBitAt (u.peek a .byte) (24 + b.toNat) v)).byte a).getLsbD q =
      if q = 7 - b.toNat then v else (u.byte a).getLsbD q := by
  have hb := byte_poke u a .byte (putBitAt (u.peek a .byte) (24 + b.toNat) v) (k := 0) hw (by decide)
  have hpeek : (u.peek a .byte).getLsbD q = (u.byte a).getLsbD q := by
    rw [State.peek, BitVec.getLsbD_setWidth, decide_eq_true (by omega), Bool.true_and]
  have hbits : (32 - 1 - (24 + b.toNat)) = 7 - b.toNat := by omega
  rw [Nat.add_zero] at hb
  rw [hb]
  simp only [bits, Size.bytes, BitVec.getLsbD_extractLsb', hq, decide_true, Bool.true_and, putBitAt, hbits]
  rw [State.getLsbD_putBit _ _ _ _ (by omega), ← hpeek]
  simp

/-- One added at a bit of a word, as signed numbers (R477). -/
theorem addBit_fst (w : Word) (p : Nat) : (addBit w p).1 = BitVec.ofInt 32 (w.toInt + 2 ^ (31 - p)) := by
  have hone : oneAt p = BitVec.ofInt 32 (2 ^ (31 - p)) := by
    apply BitVec.eq_of_toNat_eq
    rw [oneAt, BitVec.toNat_twoPow, show (2 : Int) ^ (31 - p) = ((2 ^ (31 - p) : Nat) : Int) by simp,
      BitVec.ofInt_natCast, BitVec.toNat_ofNat]
  rw [addBit, BitVec.ofInt_add, BitVec.ofInt_toInt, hone]

theorem addBit_snd {w : Word} {p : Nat} :
    (addBit w p).2 = true ↔ w.toInt + 2 ^ (31 - p) < -2 ^ 31 ∨ 2 ^ 31 ≤ w.toInt + 2 ^ (31 - p) := by
  simp [addBit, overflows]

/-! ### The locked instructions -/

section Locked

variable {s : State} {b : BitVec 3} {m : MemRef} {pa : Addr}
  (hq : s.mode = .psd → s.blocked = true → s.bmtEn = true → s.blockCount < 128) (hw : Memory.wf s.mem = true)
  (ho : s.operandParity = false) (hi : m.i = false)
include hq hw ho hi

/-- SBM and ZBM make one bit of one byte `v`, as the stores before their read have left it (R131, R473, R475). -/
theorem perform_putMemBit (v : Bool) (h : storesTo s (s.combine m).addr .byte pa) :
    ∃ t, perform .word (putMemBit b m v) s = .next t ∧ t.between = s.between.tail ∧ onlyMem s.interleave t ∧
      Ended .word s t ∧ bytesBut pa.toNat 1 s.interleave t ∧ (t.byte pa.toNat).getLsbD (7 - b.toNat) = v ∧
      ∀ q, q ≠ 7 - b.toNat → (t.byte pa.toNat).getLsbD q = (s.interleave.byte pa.toNat).getLsbD q := by
  obtain ⟨T, hT, hsT⟩ := putMemBit_stored (s := s.start .word) (b := b) (pa := pa) v hi ho
    ⟨h.real, h.permitted, h.present⟩
  obtain ⟨t, ht, hbt, hmt, het, hmem⟩ := perform_storedLocked hq hT hsT
  rw [interleave_start] at hmem
  have hbit {q : Nat} (h : q < 8) :=
    getLsbD_byte_poke_putBit (a := pa.toNat) (b := b) (v := v) ((interleave_spec s).2 hw) h
  refine ⟨t, ht, hbt, hmt, het, fun k hk => ?_, ?_, fun q hne => ?_⟩
  all_goals rw [byte_congr hmem]
  · exact byte_poke_ne _ _ _ _ _ hk
  · exact (hbit (by omega)).trans (if_pos rfl)
  · by_cases h8 : q < 8
    · exact (hbit h8).trans (if_neg hne)
    · rw [BitVec.getLsbD_of_ge _ _ (by omega), BitVec.getLsbD_of_ge _ _ (by omega)]

/-- ABM adds one at a bit of the word, as the stores before its read have left it (R131, R477). -/
theorem perform_opAbm {p : Nat} {v : Int} (h : storesTo s (wordAlign (s.combine m).addr) .word pa)
    (hp : 8 * ((s.combine m).addr.toNat % 4) + b.toNat = p)
    (hv : v = (s.interleave.peek pa.toNat .word).toInt + 2 ^ (31 - p))
    (hov : v < -2 ^ 31 ∨ 2 ^ 31 ≤ v → s.arithEnabled = false) :
    ∃ t, perform .word (opAbm b m) s = .next t ∧ t.between = s.between.tail ∧ onlyMem s.interleave t ∧
      Ended .word s t ∧ t.peek pa.toNat .word = BitVec.ofInt 32 v ∧ bytesBut pa.toNat 4 s.interleave t := by
  have hp' : 8 * (bits (s.combine m).addr 22 2).toNat + b.toNat = p := by
    have h : (bits (s.combine m).addr 22 2).toNat = (s.combine m).addr.toNat / 2 ^ 0 % 2 ^ 2 := bits_toNat _ 22 2
    omega
  obtain ⟨T, hT, hsT⟩ := opAbm_stored (s := s.start .word) (b := b) (pa := pa) hi ho
    ⟨h.real, h.permitted, h.present⟩ hp' (fun h => by
      rw [interleave_start] at h
      exact hov (hv ▸ addBit_snd.mp h))
  obtain ⟨t, ht, hbt, hmt, het, hmem⟩ := perform_storedLocked hq hT hsT
  rw [interleave_start] at hmem
  refine ⟨t, ht, hbt, hmt, het, ?_, fun k hk => ?_⟩
  · rw [peek_congr hmem, peek_poke_word _ _ _ ((interleave_spec s).2 hw), addBit_fst, hv]
    rfl
  · rw [byte_congr hmem]
    exact byte_poke_ne _ _ _ _ _ hk

end Locked

end Sys2Proof.Machine

namespace Sys2Proof.Proofs

open Sys2Proof.Machine

/-- Settles O12: the stores of others by `storeAll_spec` and `byte_storeAll_eq`, a doubleword by
`readDword_interleaved`, the locked instructions by `perform_putMemBit` and `perform_opAbm`. -/
theorem interleavedStores : Obligations.InterleavedStores := by
  refine ⟨fun l s hw => ⟨(storeAll_spec l s).1, (storeAll_spec l s).2 hw, byte_storeAll_eq hw⟩, ?_, ?_, ?_⟩
  · intro s k a pa n l rest ht hp ho hb u
    have hu : s.interleave = u := interleave_cons hb
    rw [← hu, memRead_eq ht hp ho]
    exact ⟨_, rfl, onlyHalt_askHalt _ _⟩
  · intro s k a p q l l' rest hp hq hpp hpq ho hb u v
    have hu : s.interleave = u := interleave_cons hb
    have hbu : u.between = l' :: rest := by rw [← hu, (interleave_spec s).1, hb]; rfl
    have hv : u.interleave = v := interleave_cons hbu
    rw [← hv, ← hu]
    exact readDword_interleaved hp hq hpp hpq ho
  · intro s b m pa l rest hq hw ho hi hb u a
    have hu : s.interleave = u := interleave_cons hb
    have htail : s.between.tail = rest := by rw [hb]; rfl
    rw [← hu, ← htail]
    constructor
    · intro hst p hp
      have hexec : exec p.1 s = perform .word (putMemBit b m p.2) s := by
        simp only [List.mem_cons, List.not_mem_nil, or_false] at hp
        rcases hp with rfl | rfl <;> rfl
      rw [hexec]
      exact perform_putMemBit hq hw ho hi p.2 hst
    · intro hst v hov
      exact perform_opAbm (b := b) hq hw ho hi hst rfl rfl hov

end Sys2Proof.Proofs
end

section
/-!
The load of the MAP (R140 to R144): a list of page entries goes into consecutive MAP registers; such loads compose, and
`mapPages` is the list that `loadMap` goes through. LMAP and TMAPR (R312, R313).
-/

namespace Sys2Proof.Machine

/-- `u` is `s` with the entries at `pages` put in the MAP registers from `first` up, `next` the first one after them. -/
structure LoadedPages (pages : List Addr) (first next : Nat) (s u : State) : Prop where
  frame : u = { s with mapRegs := u.mapRegs }
  count : next = first + pages.length
  fits : next ≤ 32
  entries : ∀ (k : BitVec 5) (a : Addr), first ≤ k.toNat → pages[k.toNat - first]? = some a →
    (u.mapReg k).setWidth 32 = s.peek a.toNat .half
  others : ∀ k : BitVec 5, k.toNat < first ∨ next ≤ k.toNat → u.mapReg k = s.mapReg k

namespace LoadedPages

variable {pages pages' : List Addr} {first mid next : Nat} {s t u : State}

theorem nil (h : first ≤ 32) : LoadedPages [] first first s s where
  frame := rfl
  count := rfl
  fits := h
  entries := fun _ _ _ h => by simp at h
  others := fun _ _ => rfl

theorem between (h : LoadedPages pages first next s u) : u.between = s.between := by rw [h.frame]

theorem peek (h : LoadedPages pages first next s u) (a : Nat) (n : Size) : u.peek a n = s.peek a n := by
  rw [h.frame]; rfl

/-- One load after the other. -/
theorem append (h : LoadedPages pages first mid s t) (h' : LoadedPages pages' mid next t u) :
    LoadedPages (pages ++ pages') first next s u where
  frame := by rw [h'.frame, h.frame]
  count := by rw [h'.count, h.count, List.length_append, Nat.add_assoc]
  fits := h'.fits
  entries := fun k a hk ha => by
    have hmid := h.count
    rcases Nat.lt_or_ge k.toNat mid with hlt | hge
    · rw [List.getElem?_append_left (by omega)] at ha
      rw [h'.others k (.inl hlt)]
      exact h.entries k a hk ha
    · rw [List.getElem?_append_right (by omega), show k.toNat - first - pages.length = k.toNat - mid by omega] at ha
      rw [h'.entries k a hge ha, h.peek]
  others := fun k hk => by
    have hmid := h.count
    have hnext := h'.count
    rw [h'.others k (by omega), h.others k (by omega)]

/-- One entry. -/
theorem single {a : Addr} (h : first < 32) :
    LoadedPages [a] first (first + 1) s
      (s.setMapReg (BitVec.ofNat 5 first) ((s.peek a.toNat .half).setWidth 16)) where
  frame := rfl
  count := rfl
  fits := h
  entries := fun k b hk hb => by
    obtain ⟨hlt, rfl⟩ := List.getElem?_eq_some_iff.mp hb
    have hk : k = BitVec.ofNat 5 first := by
      apply BitVec.eq_of_toNat_eq
      rw [BitVec.toNat_ofNat]
      simp only [List.length_singleton] at hlt
      omega
    rw [State.mapReg_setMapReg, if_pos hk]
    have hpeek := peek_half_toNat s a.toNat
    have := (s.byte a.toNat).isLt
    have := (s.byte (a.toNat + 1)).isLt
    apply BitVec.eq_of_toNat_eq
    simp only [List.getElem_singleton, BitVec.toNat_setWidth]
    omega
  others := fun k hk => by
    rw [State.mapReg_setMapReg, if_neg]
    rintro rfl
    rw [BitVec.toNat_ofNat] at hk
    omega

end LoadedPages

/-! ### The levels of the load -/

/-- The `n` addresses from `a` on, `c` bytes apart. -/
def addrsFrom (a : Addr) (c n : Nat) : List Addr := (List.range n).map fun j => a + BitVec.ofNat 24 (c * j)

theorem addrsFrom_succ (a : Addr) (c n : Nat) :
    addrsFrom a c (n + 1) = a :: addrsFrom (a + BitVec.ofNat 24 c) c n := by
  have hstep (j : Nat) : a + BitVec.ofNat 24 (c * (j + 1)) = a + BitVec.ofNat 24 c + BitVec.ofNat 24 (c * j) := by
    rw [BitVec.add_assoc, ← BitVec.ofNat_add, Nat.mul_succ, Nat.add_comm c]
  simp only [addrsFrom, List.range_succ_eq_map, List.map_cons, List.map_map, Nat.mul_zero, BitVec.add_zero,
    Function.comp_def, Nat.succ_eq_add_one, hstep]

/-- The segment descriptors at `n` consecutive words. -/
def descriptorsAt (s : State) (list : Addr) (n : Nat) : List Word :=
  (addrsFrom list 4 n).map fun a => s.peek a.toNat .word

theorem physRead_alone {err : MemErr → Trap} {pa : Addr} {n : Size} {s t : State} {v : Word} (hb : s.between = [])
    (h : physRead err pa n s = .ok v t) : v = s.peek pa.toNat n ∧ t = s := by
  obtain ⟨-, -, hv, ht⟩ := physRead_ok h
  rw [interleave_alone hb] at hv ht
  exact ⟨hv, ht⟩

theorem loadEntries_ok {err : MemErr → Trap} {n : Nat} {p : Addr} {first next : Nat} {s u : State}
    (hb : s.between = []) (hf : first ≤ 32) (h : loadEntries err n p first s = .ok next u) :
    LoadedPages (addrsFrom p 2 n) first next s u := by
  induction n generalizing p first s with
  | zero => cases h; exact .nil hf
  | succ n ih =>
    unfold loadEntries at h
    split at h
    · cases h
    · obtain ⟨v, t, hread, h⟩ := Res.bind_eq_ok h
      obtain ⟨rfl, rfl⟩ := physRead_alone hb hread
      have hone : LoadedPages [p] first (first + 1) t _ := .single (by omega)
      rw [addrsFrom_succ]
      exact hone.append (ih (hone.between.trans hb) hone.fits h)

/-- The page entries of one descriptor (R142, R143). -/
theorem loadSegment_ok {err : MemErr → Trap} {msd : Word} {first next : Nat} {s u : State}
    (hb : s.between = []) (hf : first ≤ 32) (h : loadSegment err msd first s = .ok next u) :
    LoadedPages (segmentPages msd) first next s u := by
  have hn : (bits msd 2 6).toNat = msd.toNat / 2 ^ 24 % 64 := bits_toNat msd 2 6
  rw [loadSegment, hn] at h
  exact loadEntries_ok hb hf h

theorem loadSegments_ok {err : MemErr → Trap} {n : Nat} {list : Addr} {first next : Nat} {s u : State}
    (hb : s.between = []) (hf : first ≤ 32) (h : loadSegments err n list first s = .ok next u) :
    LoadedPages ((descriptorsAt s list n).flatMap segmentPages) first next s u := by
  induction n generalizing list first s with
  | zero => cases h; exact .nil hf
  | succ n ih =>
    obtain ⟨msd, t, hread, h⟩ := Res.bind_eq_ok h
    obtain ⟨rfl, rfl⟩ := physRead_alone hb hread
    obtain ⟨mid, v, hseg, h⟩ := Res.bind_eq_ok h
    have hone := loadSegment_ok hb hf hseg
    have hrest := ih (hone.between.trans hb) hone.fits h
    simp only [descriptorsAt, hone.peek] at hrest
    rw [descriptorsAt, addrsFrom_succ, List.map_cons, List.flatMap_cons]
    exact hone.append hrest

/-- The `n` descriptors of an MSCD: its own, or one of the BMSCD's and then its own (R141). -/
def mapDescriptors (s : State) (psd2 mscd : Word) : Nat → List Word
  | 0 => []
  | n + 1 =>
    if bitAt mscd 0 then
      s.peek (addrOf (s.peek (s.mplBase + bpixOffset psd2).toNat .word)).toNat .word ::
        descriptorsAt s (addrOf mscd) n
    else descriptorsAt s (addrOf mscd) (n + 1)

theorem mapPages_eq (psd2 : Word) (s : State) :
    mapPages psd2 s =
      let mscd := s.peek (s.mplBase + cpixOffset psd2).toNat .word
      (mapDescriptors s psd2 mscd (bits mscd 2 6).toNat).flatMap segmentPages := by
  have h0 : (0 : BitVec 2).toNat = 0 := rfl
  have hcpix : cpixOffset psd2 = BitVec.ofNat 24 (psd2.toNat / 4 % 2 ^ 12 * 4) := by
    apply BitVec.eq_of_toNat_eq
    simp only [cpixOffset, BitVec.toNat_setWidth, append_toNat, bits_toNat, BitVec.toNat_ofNat, h0]
    omega
  have hbpix : bpixOffset psd2 = BitVec.ofNat 24 (psd2.toNat / 2 ^ 18 % 2 ^ 12 * 4) := by
    apply BitVec.eq_of_toNat_eq
    simp only [bpixOffset, BitVec.toNat_setWidth, append_toNat, bits_toNat, BitVec.toNat_ofNat, h0]
    omega
  have hcount (w : Word) : w.toNat / 2 ^ 24 % 64 = (bits w 2 6).toNat := (bits_toNat w 2 6).symm
  have hown (list : Addr) (n : Nat) :
      ((List.range n).map fun j => s.peek (list + BitVec.ofNat 24 (4 * j)).toNat .word) = descriptorsAt s list n := by
    simp only [descriptorsAt, addrsFrom, List.map_map, Function.comp_def]
  simp only [mapPages, ← hcpix, ← hbpix, hcount, hown, State.mplBase]
  congr 1
  split
  · next h => rw [h]; rfl
  · next h =>
    obtain ⟨n, hn⟩ := Nat.exists_eq_succ_of_ne_zero h
    rw [hn]
    rfl

/-- What a load of the MAP that answers has put in the MAP registers (R142). -/
theorem loadMap_ok {err : MemErr → Trap} {psd2 : Word} {s u : State} {n : Nat} (hb : s.between = [])
    (h : loadMap err psd2 s = .ok n u) : LoadedPages (mapPages psd2 s) 0 n s u := by
  obtain ⟨mscd, t, hread, h⟩ := Res.bind_eq_ok h
  obtain ⟨rfl, rfl⟩ := physRead_alone hb hread
  rw [mapPages_eq]
  split at h
  · next hn => cases h; simp only [hn, mapDescriptors]; exact .nil (Nat.zero_le _)
  · next k hn =>
    simp only [hn, mapDescriptors]
    split at h
    · next hown =>
      obtain ⟨bmscd, v, hread, h⟩ := Res.bind_eq_ok h
      obtain ⟨rfl, rfl⟩ := physRead_alone hb hread
      obtain ⟨msd, w, hread, h⟩ := Res.bind_eq_ok h
      obtain ⟨rfl, rfl⟩ := physRead_alone hb hread
      obtain ⟨mid, x, hseg, h⟩ := Res.bind_eq_ok h
      have hone := loadSegment_ok hb (Nat.zero_le _) hseg
      have hrest := loadSegments_ok (hone.between.trans hb) hone.fits h
      simp only [descriptorsAt, hone.peek] at hrest
      rw [if_pos hown, List.flatMap_cons]
      exact hone.append hrest
    · next hown =>
      rw [if_neg hown]
      exact loadSegments_ok hb (Nat.zero_le _) h

/-! ### LMAP and TMAPR -/

/-- LMAP loads the MAP of the PSD2 in the word after the one that the register addresses (R312). -/
theorem opLmap_ok {s u : State} {rd : Reg} {n : Nat} (hb : s.between = []) (hm : s.mode = .psd) (hp : s.priv = true)
    (hu : s.mapActive = false) (hpres : s.present (addrOf (s.reg rd) + 4) .word = true)
    (ho : s.operandParity = false)
    (h : loadMap (switchErr false) (s.peek (addrOf (s.reg rd) + 4).toNat .word) s = .ok n u) :
    opLmap rd s = .ok () u := by
  simp only [opLmap, requirePsd_ok hm, requirePriv_ok hp, requireUnmapped_ok hu, Res.bind_ok,
    physRead_eq operandErr hb hpres ho, h]

/-- TMAPR takes an even MAP register and the one after it (R313, decision D35). -/
theorem opTmapr_ok {s : State} {rd rs : Reg} (hm : s.mode = .psd) (hp : s.priv = true) (hu : s.mapActive = false) :
    opTmapr rd rs s = .ok () (s.setReg rd
      (s.mapReg (BitVec.ofNat 5 (2 * ((s.reg rs).toNat / 2 % 16))) ++
        s.mapReg (BitVec.ofNat 5 (2 * ((s.reg rs).toNat / 2 % 16) + 1)))) := by
  have hk : (bits (s.reg rs) 27 4).toNat = (s.reg rs).toNat / 2 % 16 := bits_toNat (s.reg rs) 27 4
  have hreg (b : BitVec 1) : bits (s.reg rs) 27 4 ++ b = BitVec.ofNat 5 (2 * ((s.reg rs).toNat / 2 % 16) + b.toNat) := by
    apply BitVec.eq_of_toNat_eq
    rw [append_toNat, hk, BitVec.toNat_ofNat]
    omega
  simp only [opTmapr, requirePsd_ok hm, requirePriv_ok hp, requireUnmapped_ok hu, Res.bind_ok, hreg]
  rfl

end Sys2Proof.Machine

namespace Sys2Proof.Proofs

open Sys2Proof.Machine

/-- Settles O35: the load by `loadMap_ok`, LMAP and TMAPR by their effects and the frame of an instruction. -/
theorem mapLoading : Obligations.MapLoading := by
  refine ⟨fun err psd2 s u n hb h => ?_, fun s rd rs hq hm hp hu => ⟨?_, ?_⟩⟩
  · have hl := loadMap_ok hb h
    exact ⟨hl.frame, hl.count.trans (Nat.zero_add _), hl.fits, fun k a => hl.entries k a (Nat.zero_le _),
      fun k hk => hl.others k (.inr hk)⟩
  · intro n u pa hpres ho h
    have hop : opLmap rd (s.start .half) = .ok () u := opLmap_ok hq.alone hm hp hu hpres ho h
    have hframe := (loadMap_ok (s := s.start .half) hq.alone h).frame
    obtain ⟨ht, hend⟩ := perform_done_ended hq hop (by rw [hframe]; rfl) (by rw [hframe]; rfl) (by rw [hframe]; rfl)
      (by rw [hframe]; rfl) (by rw [hframe]; rfl) (by rw [hframe]; rfl) (by rw [hframe]; rfl)
    exact ⟨_, ht, hend, by rw [hframe]; rfl⟩
  · obtain ⟨ht, hregs, hend⟩ := perform_regs_ended hq (opTmapr_ok (s := s.start .half) (rd := rd) (rs := rs) hm hp hu)
      rfl rfl rfl
    exact ⟨_, ht, hregs, hend, rfl, fun q hq => (State.reg_setReg _ _ _ _).trans (if_neg hq),
      State.reg_setReg_same _ _ _⟩

end Sys2Proof.Proofs
end

section
/-!
Protected memory under an unprivileged program (R111, R124, R125). No permitted store reaches a byte that protection,
the MAP or absence shields; `KeepsByte` is the rule for each piece of an instruction, whatever its outcome, closed under
`Res.bind`. An instruction is privileged, and stops at its first check, or is Execute, which is its target, or is built
of pieces that keep the rule.
-/

namespace Sys2Proof.Machine

/-! ### Where an unprivileged store goes -/

/-- Byte `a` is out of reach of every unprivileged store: its page is protected, or no memory is installed there, or the
MAP is on and every valid entry that leads to its block has PROTECT. -/
def State.outOfReach (s : State) (a : Addr) : Prop :=
  s.pageProtected a = true ∨ s.installed a.toNat 1 = false ∨
    s.mapActive = true ∧ ∀ p : BitVec 5, bitAt (s.mapReg p) 0 = true → bits (s.mapReg p) 7 9 = bits a 0 9 →
      bitAt (s.mapReg p) 1 = true

/-- Addresses of one 2,048-byte page are protected together (R125). -/
theorem pageProtected_congr {s : State} {a b : Addr} (h : a.toNat / 2048 = b.toNat / 2048) :
    s.pageProtected a = s.pageProtected b := by
  have hfield (i l : Nat) (hi : i + l ≤ 13) : bits a i l = bits b i l := by
    have hdiv (x : Nat) : x / 2 ^ (24 - i - l) = x / 2048 / 2 ^ (13 - i - l) := by
      rw [Nat.div_div_eq_div_mul, show (2048 : Nat) = 2 ^ 11 from rfl, ← pow_add]
      congr 2
      omega
    apply bits_of_toNat
    rw [bits_toNat, hdiv, hdiv b.toNat, h]
  simp only [State.pageProtected, hfield 0 5 (by decide), hfield 5 4 (by decide), hfield 9 4 (by decide)]

/-- An installed access consists of installed bytes (R741). -/
theorem installed_byte {s : State} {a n b : Nat} (h : s.installed a n = true) (hb : a ≤ b) (hn : b < a + n) :
    s.installed b 1 = true := by
  simp only [installed_iff] at h ⊢
  obtain ⟨hmem, hholes⟩ := h
  refine ⟨by omega, fun x hx => ?_⟩
  have := hholes x hx
  omega

/-- A permitted unprivileged store through the MAP goes by a valid entry without PROTECT (R124). -/
theorem translate_write_entry {s : State} {k : Access} {a pa : Addr} (hm : s.mapActive = true) (hu : s.priv = false)
    (ht : s.translate k true a = .ok pa) :
    ∃ p : BitVec 5, bitAt (s.mapReg p) 0 = true ∧ bitAt (s.mapReg p) 1 = false ∧
      pa = bits (s.mapReg p) 7 9 ++ bits a 9 15 := by
  rcases translate_ok ht with ⟨hoff, -⟩ | ⟨p, -, -, hv, hprot, rfl⟩
  · rw [hm] at hoff; cases hoff
  · exact ⟨p, hv, by simpa [hu] using hprot, rfl⟩

/-- An aligned store that an unprivileged program may make leaves a byte out of reach alone: the store lies in one page
and one block, so what shields the byte would have stopped it. -/
theorem storesTo_misses {s : State} {a b pa : Addr} {n : Size} (hu : s.priv = false) (hout : s.outOfReach b)
    (hal : a.toNat % n.bytes = 0) (h : storesTo s a n pa) :
    b.toNat < pa.toNat ∨ pa.toNat + n.bytes ≤ b.toNat := by
  by_contra hin
  have hlo : pa.toNat ≤ b.toNat := by omega
  have hhi : b.toNat < pa.toNat + n.bytes := by omega
  have hoff := translate_offset h.real
  have hpage : b.toNat / 2048 = pa.toNat / 2048 := by
    cases n <;> simp only [Size.bytes] at hal hhi <;> omega
  rcases hout with hprot | habs | ⟨hm, hentries⟩
  · rw [pageProtected_congr hpage] at hprot
    rcases h.permitted with hp | hp
    · rw [hu] at hp; cases hp
    · rw [hprot] at hp; cases hp
  · rw [installed_byte (n := n.bytes) h.present hlo hhi] at habs
    cases habs
  · obtain ⟨p, hv, hprot, hpa⟩ := translate_write_entry hm hu h.real
    have hblock : bits (s.mapReg p) 7 9 = bits b 0 9 := by
      apply BitVec.eq_of_toNat_eq
      have he := bits_toNat (s.mapReg p) 7 9
      have hb := bits_toNat b 0 9
      have hlow := (bits a 9 15).isLt
      rw [hpa, append_toNat] at hpage
      omega
    rw [hentries p hv hblock] at hprot
    cases hprot

/-! ### The rule, and how it passes through an instruction -/

/-- Byte `a` is shielded in `s`: an unprivileged program runs, `a` is out of its reach, and no other agent and no WCS
routine is about to store. -/
structure Shielded (a : Addr) (s : State) : Prop where
  priv : s.priv = false
  outOfReach : s.outOfReach a
  noRoutine : s.wcsReplies = []
  alone : s.between = []

/-- The state of a result, completed or stopped. -/
def Res.state {α : Type} : Res α → State
  | .ok _ s => s
  | .stop _ s => s

/-- `x`, run in `s`, leaves a shielded byte `a` as it was, and shielded, whether it completes or stops. -/
def KeepsByte {α : Type} (a : Addr) (s : State) (x : Res α) : Prop :=
  Shielded a s → Shielded a x.state ∧ x.state.byte a.toNat = s.byte a.toNat

/-- `t` differs from `s` in nothing that a byte's value or its shield depends on. -/
def storesNothing (s t : State) : Prop :=
  t = { s with
    regs := t.regs, cc := t.cc, ext := t.ext, pc := t.pc, request := t.request, run := t.run, panel := t.panel,
    haltReq := t.haltReq, lastBix := t.lastBix, operandParity := t.operandParity, sent := t.sent,
    freeCount := t.freeCount }

theorem Shielded.of_storesNothing {a : Addr} {s t : State} (h : storesNothing s t) (hs : Shielded a s) :
    Shielded a t ∧ t.byte a.toNat = s.byte a.toNat := by
  unfold storesNothing at h
  rw [h]
  exact ⟨⟨hs.priv, hs.outOfReach, hs.noRoutine, hs.alone⟩, rfl⟩

section Rules

variable {α β : Type} {a : Addr} {s t : State} {x : Res α} {f : α → State → Res β}

/-- A piece that assigns fields without a part in the rule. -/
theorem KeepsByte.of (h : storesNothing s x.state) : KeepsByte a s x := fun hs => hs.of_storesNothing h

theorem KeepsByte.bind (hx : KeepsByte a s x) (hf : ∀ v t, KeepsByte a t (f v t)) : KeepsByte a s (x.bind f) := by
  intro hs
  obtain ⟨ht, hb⟩ := hx hs
  cases x with
  | stop e t => exact ⟨ht, hb⟩
  | ok v t =>
    obtain ⟨hu, hb'⟩ := hf v t ht
    exact ⟨hu, hb'.trans hb⟩

/-- A piece that begins after such an assignment. -/
theorem KeepsByte.after (h : storesNothing s t) (hx : KeepsByte a t x) : KeepsByte a s x := by
  intro hs
  obtain ⟨ht, hb⟩ := hs.of_storesNothing h
  obtain ⟨hu, hb'⟩ := hx ht
  exact ⟨hu, hb'.trans hb⟩

end Rules

theorem Res.bind_assoc {α β γ : Type} (x : Res α) (f : α → State → Res β) (g : β → State → Res γ) :
    (x.bind f).bind g = x.bind fun v t => (f v t).bind g := by
  cases x <;> rfl

theorem arithCheck_keepsByte {a : Addr} {s u : State} (h : storesNothing s u) : KeepsByte a s (arithCheck u) := by
  unfold arithCheck
  split <;> exact .of h

theorem requirePsd_keepsByte (a : Addr) (s : State) : KeepsByte a s (requirePsd s) := by
  unfold requirePsd
  split <;> exact .of rfl

/-! ### Accesses to memory -/

theorem interleave_keepsByte {α : Type} {a : Addr} {s : State} {x : Res α} (h : storesNothing s.interleave x.state) :
    KeepsByte a s x := by
  intro hs
  rw [interleave_alone hs.alone] at h
  exact hs.of_storesNothing h

theorem memRead_keepsByte (b : Addr) (k : Access) (a : Addr) (n : Size) (s : State) :
    KeepsByte b s (memRead k a n s) := by
  cases ht : s.translate k false a with
  | error e => rw [memRead_error n ht]; exact .of rfl
  | ok pa =>
    cases hp : s.present pa n with
    | false => rw [memRead_absent ht hp]; exact interleave_keepsByte rfl
    | true =>
      cases ho : s.operandParity with
      | false => rw [memRead_eq ht hp ho]; exact interleave_keepsByte rfl
      | true => rw [memRead_parity ht hp ho]; exact interleave_keepsByte rfl

theorem memWrite_keepsByte (b : Addr) {a : Addr} {n : Size} (v : Word) (s : State) (hal : a.toNat % n.bytes = 0) :
    KeepsByte b s (memWrite a n v s) := by
  intro hs
  cases ht : s.translate .operand true a with
  | error e => rw [memWrite_error n v ht]; exact ⟨hs, rfl⟩
  | ok pa =>
    cases hprot : s.pageProtected pa with
    | true => rw [memWrite_protected n v ht hs.priv hprot]; exact ⟨hs, rfl⟩
    | false =>
      cases hp : s.present pa n with
      | false =>
        rw [memWrite_permitted n v ht (.inr hprot), operandWrite_absent v hp, interleave_alone hs.alone]
        exact ⟨hs, rfl⟩
      | true =>
        have hst : storesTo s a n pa := ⟨ht, .inr hprot, hp⟩
        rw [memWrite_eq v hst, interleave_alone hs.alone]
        have hmiss := storesTo_misses hs.priv hs.outOfReach hal hst
        refine ⟨?_, byte_poke_ne s pa.toNat n v b.toNat hmiss⟩
        rw [Res.state, poke_eq]
        exact ⟨hs.priv, hs.outOfReach, hs.noRoutine, hs.alone⟩

theorem locked_keepsByte {α : Type} {a : Addr} {x : State → Res α} {s : State} (hx : KeepsByte a s (x s)) :
    KeepsByte a s (locked x s) := by
  intro hs
  have hx := hx hs
  rw [locked_alone hs.alone]
  · exact hx
  · intro v t h
    rw [h] at hx
    exact hx.1.alone
  · intro e t h
    rw [h] at hx
    exact hx.1.alone

theorem chase_keepsByte (a : Addr) (k : Access) (n : Nat) (m : MemRef) (w : Option Word) (s : State) :
    KeepsByte a s (chase k n m w s) := by
  induction n generalizing m w s with
  | zero => exact .of rfl
  | succ n ih =>
    unfold chase
    split
    · exact (memRead_keepsByte _ _ _ _ _).bind fun _ _ => ih _ _ _
    · exact .of rfl

theorem resolve_keepsByte (a : Addr) (k : Access) (m : MemRef) (s : State) : KeepsByte a s (resolve k m s) :=
  chase_keepsByte _ _ _ _ _ _

theorem readAt_keepsByte (b : Addr) (w : Width) (a : Addr) (s : State) : KeepsByte b s (readAt w a s) := by
  cases w with
  | byte | half | word => exact (memRead_keepsByte _ _ _ _ _).bind fun _ _ => .of rfl
  | dword =>
    refine KeepsByte.bind ?_ fun _ _ => .of rfl
    exact (memRead_keepsByte _ _ _ _ _).bind fun _ _ => (memRead_keepsByte _ _ _ _ _).bind fun _ _ => .of rfl

theorem writeAt_keepsByte (b a : Addr) (o : Operand) (s : State) : KeepsByte b s (writeAt a o s) := by
  cases o with
  | byte v => exact memWrite_keepsByte _ _ _ (Nat.mod_one _)
  | half v => exact memWrite_keepsByte _ _ _ (by rw [halfAlign_toNat, Size.bytes]; omega)
  | word v => exact memWrite_keepsByte _ _ _ (by rw [operandAddr, wordAlign_toNat, Size.bytes]; omega)
  | dword v =>
    have h8 := dwordAlign_mod a
    refine KeepsByte.bind (memWrite_keepsByte _ _ _ ?_) fun _ _ => memWrite_keepsByte _ _ _ ?_
    · rw [operandAddr, addr_add_four h8, Size.bytes]; omega
    · rw [operandAddr, Size.bytes]; omega

theorem readFile_keepsByte (b : Addr) (n : Nat) (a : Addr) (s : State) : KeepsByte b s (readFile n a s) := by
  induction n generalizing a s with
  | zero => exact .of rfl
  | succ n ih => exact (memRead_keepsByte _ _ _ _ _).bind fun _ _ => (ih _ _).bind fun _ _ => .of rfl

theorem fileNext_mod (a : Addr) : (fileNext a).toNat % 4 = a.toNat % 4 := by
  have h : (bits a 22 2).toNat = a.toNat / 2 ^ 0 % 2 ^ 2 := bits_toNat a 22 2
  have := append_toNat (bits a 0 19 ++ (bits a 19 3 + 1)) (bits a 22 2)
  rw [fileNext]
  omega

theorem writeFile_keepsByte (b : Addr) (n : Nat) (r : Reg) (a : Addr) (s : State) (hal : a.toNat % 4 = 0) :
    KeepsByte b s (writeFile n r a s) := by
  induction n generalizing r a s with
  | zero => exact .of rfl
  | succ n ih =>
    exact (memWrite_keepsByte _ _ _ hal).bind fun _ _ => ih _ _ _ ((fileNext_mod a).trans hal)

theorem storesNothing_setFile (r : Reg) (vs : List Word) (s : State) : storesNothing s (setFile r vs s) := by
  induction vs generalizing r s with
  | nil => rfl
  | cons v vs ih =>
    have h := ih (r + 1) (s.setReg r v)
    unfold storesNothing at h ⊢
    rw [setFile, h]
    rfl

/-! ### The families of unprivileged instructions -/

section Families

variable {a : Addr} {s : State}

/-- An address formed, then anything that keeps the rule. -/
theorem resolve_bind_keepsByte {α : Type} {k : Access} {m : MemRef} {f : Target → State → Res α}
    (hf : ∀ x t, KeepsByte a t (f x t)) : KeepsByte a s ((resolve k m s).bind f) :=
  (resolve_keepsByte a k m s).bind hf

/-- An operand fetched, then anything that keeps the rule. -/
theorem operand_bind_keepsByte {m : MemRef} {f : Operand → State → Res Unit} (hf : ∀ o t, KeepsByte a t (f o t)) :
    KeepsByte a s ((operand m s).bind f) :=
  KeepsByte.bind (resolve_bind_keepsByte fun _ _ => readAt_keepsByte _ _ _ _) hf

theorem floatOperand_bind_keepsByte {m : MemRef} {f : Operand → State → Res Unit}
    (hf : ∀ o t, KeepsByte a t (f o t)) : KeepsByte a s ((floatOperand m s).bind f) :=
  KeepsByte.bind (resolve_bind_keepsByte fun _ _ => readAt_keepsByte _ _ _ _) hf

theorem operandNoDword_bind_keepsByte {m : MemRef} {f : Word → State → Res Unit} (hf : ∀ v t, KeepsByte a t (f v t)) :
    KeepsByte a s ((operandNoDword m s).bind f) := by
  refine KeepsByte.bind (resolve_bind_keepsByte fun x t => ?_) hf
  cases x.ea.width with
  | byte | half => exact (memRead_keepsByte _ _ _ _ _).bind fun _ _ => .of rfl
  | word | dword => exact memRead_keepsByte _ _ _ _ _

theorem bitAddress_bind_keepsByte {m : MemRef} {f : Addr → State → Res Unit} (hf : ∀ b t, KeepsByte a t (f b t)) :
    KeepsByte a s ((bitAddress m s).bind f) :=
  KeepsByte.bind (resolve_bind_keepsByte fun _ _ => .of rfl) hf

theorem storeForm_keepsByte (m : MemRef) (v : Dword) : KeepsByte a s (storeForm m v s) :=
  resolve_bind_keepsByte fun _ _ => writeAt_keepsByte _ _ _ _

theorem addToMemory_keepsByte (r : Reg) (m : MemRef) : KeepsByte a s (addToMemory r m s) := by
  refine resolve_bind_keepsByte fun x t => (readAt_keepsByte _ _ _ _).bind fun o u => ?_
  cases o with
  | byte v | half v => exact (writeAt_keepsByte _ _ _ _).bind fun _ _ => .of rfl
  | word v | dword v => exact (writeAt_keepsByte _ _ _ _).bind fun _ _ => arithCheck_keepsByte rfl

theorem putMemBit_keepsByte (b : BitVec 3) (m : MemRef) (v : Bool) : KeepsByte a s (putMemBit b m v s) :=
  bitAddress_bind_keepsByte fun _ _ => (memRead_keepsByte _ _ _ _ _).bind fun _ _ =>
    (locked_keepsByte (memWrite_keepsByte _ _ _ (Nat.mod_one _))).bind fun _ _ => .of rfl

theorem opAbm_keepsByte (b : BitVec 3) (m : MemRef) : KeepsByte a s (opAbm b m s) :=
  bitAddress_bind_keepsByte fun p _ => (memRead_keepsByte _ _ _ _ _).bind fun _ _ =>
    have hal : (wordAlign p).toNat % 4 = 0 := by rw [wordAlign_toNat]; omega
    (locked_keepsByte (memWrite_keepsByte _ _ _ hal)).bind fun _ _ => arithCheck_keepsByte rfl

theorem divide_keepsByte (r : Reg) (v : Word) : KeepsByte a s (divide r v s) := by
  unfold divide
  split
  · exact arithCheck_keepsByte rfl
  · exact .of rfl

theorem putFloat_keepsByte (r : Reg) (x : FResult 32) : KeepsByte a s (putFloat r x s) := by
  unfold putFloat
  split <;> exact arithCheck_keepsByte rfl

theorem floatOp_keepsByte (r : Reg) (m : MemRef) (f : {n : Nat} → FNum → FNum → FResult n) :
    KeepsByte a s (floatOp r m f s) := by
  refine floatOperand_bind_keepsByte fun o t => ?_
  cases o with
  | dword v =>
    simp only [putFloatPair]
    split <;> exact arithCheck_keepsByte rfl
  | byte v | half v | word v => exact putFloat_keepsByte _ _

theorem opRnd_keepsByte (r : Reg) : KeepsByte a s (opRnd r s) := by
  unfold opRnd
  split
  · exact arithCheck_keepsByte rfl
  · exact .of rfl

theorem branch_keepsByte (m : MemRef) : KeepsByte a s (branch m s) := by
  refine resolve_bind_keepsByte fun x t => .of ?_
  simp only [Res.state, branchTo]
  split <;> rfl

theorem branchIf_keepsByte (c : Bool) (m : MemRef) : KeepsByte a s (branchIf c m s) := by
  unfold branchIf
  split
  · exact branch_keepsByte _
  · exact .of rfl

theorem branchIncrement_keepsByte (r : Reg) (n : Word) (i : Bool) (p : BitVec 20) :
    KeepsByte a s (branchIncrement r n i p s) := by
  intro hs
  have h := KeepsByte.after (a := a) (s := s) (t := s.setReg r (s.reg r + n)) rfl
    (branchIf_keepsByte (decide (s.reg r + n ≠ 0)) ⟨0, i, p⟩) hs
  simp only [branchIncrement]
  split
  · next u e =>
    rw [e] at h
    exact (Shielded.of_storesNothing (t := { u with lastBix := true }) rfl h.1).imp_right (·.trans h.2)
  · next u e =>
    rw [e] at h
    exact (Shielded.of_storesNothing (t := { u with regs := s.regs }) rfl h.1).imp_right (·.trans h.2)

theorem opJwcs_keepsByte (m : MemRef) : KeepsByte a s (opJwcs m s) := by
  unfold opJwcs
  split
  · exact .of rfl
  · refine resolve_bind_keepsByte fun x t ht => ?_
    have hr : (t.send (.wcs (bits x.ea.addr 18 6))).wcsReplies = [] := ht.noRoutine
    simp only [wcsRoutine, hr, Res.state]
    exact ht.of_storesNothing rfl

theorem opWait_keepsByte : KeepsByte a s (opWait s) := by
  unfold opWait
  split <;> exact .of rfl

end Families

/-! ### Every instruction -/

theorem requirePriv_bind_keepsByte {α : Type} {a : Addr} {s : State} {f : Unit → State → Res α} :
    KeepsByte a s ((requirePriv s).bind f) := by
  intro hs
  rw [requirePriv_no hs.priv]
  exact ⟨hs, rfl⟩

/-- A privileged instruction stops at the check of its privilege (R38, R601). -/
theorem effectOf_keepsByte_of_needsPriv {a : Addr} {i : Instr} {s : State} (hi : needsPriv i = true) :
    KeepsByte a s (effectOf i s) := by
  have hpsd {α : Type} {f : Unit → State → Res α} :
      KeepsByte a s ((requirePsd s).bind fun _ u => (requirePriv u).bind f) :=
    (requirePsd_keepsByte a s).bind fun _ _ => requirePriv_bind_keepsByte
  have hext {rs rz : Reg} {f : Addr → State → Res Unit} : KeepsByte a s ((extAddr rs rz s).bind f) := by
    rw [extAddr, Res.bind_assoc]
    exact (requirePsd_keepsByte a s).bind fun _ u => by
      rw [Res.bind_assoc]
      exact requirePriv_bind_keepsByte
  cases i with
  | lem | cema | sem => exact hext
  | tscr | trsc | trp | wwcs | rwcs | bri | halt | setcpu | ei | di | ri | ai | dai | cd | td =>
    exact requirePriv_bind_keepsByte
  | lear | lmap | tmapr | lpsd | lpsdcm | rdsts | eae | dae | bei | uei => exact hpsd
  | eci | dci | aci | daci | sio | tio | stpio | rschnl | hio | grio | rsctl | ecwcs | wcwcs => exact hpsd
  | _ => cases hi

/-- What is neither privileged nor an Execute is built of pieces that keep the rule. -/
theorem effectOf_keepsByte_of_plain {a : Addr} {i : Instr} {s : State} (hp : needsPriv i = false)
    (he : isExecute i = false) : KeepsByte a s (effectOf i s) := by
  cases i with
  | lb | lh | lw | ld | lmb | lmh | lmw | lmd => exact operand_bind_keepsByte fun o _ => by cases o <;> exact .of rfl
  | anmb | anmh | anmw | anmd | ormb | ormh | ormw | ormd | eomb | eomh | eomw | eomd =>
    exact operand_bind_keepsByte fun o _ => by cases o <;> exact .of rfl
  | camb | camh | camw | camd | cmmb | cmmh | cmmw | cmmd => exact operand_bind_keepsByte fun _ _ => .of rfl
  | lnb | lnh | lnw | lnd | admb | admh | admw | admd | sumb | sumh | sumw | sumd =>
    exact operand_bind_keepsByte fun o _ => by cases o <;> exact arithCheck_keepsByte rfl
  | lea => exact resolve_bind_keepsByte fun _ _ => .of rfl
  | la => exact (requirePsd_keepsByte a s).bind fun _ _ => resolve_bind_keepsByte fun _ _ => .of rfl
  | lf =>
    exact resolve_bind_keepsByte fun _ _ => (readFile_keepsByte _ _ _ _).bind fun _ _ =>
      .of (storesNothing_setFile _ _ _)
  | stb | sth | stw | std | stmb | stmh | stmw | stmd | zmb | zmh | zmw | zmd => exact storeForm_keepsByte _ _
  | stf =>
    exact resolve_bind_keepsByte fun x _ => writeFile_keepsByte _ _ _ _ _ (by rw [wordAlign_toNat]; omega)
  | li | zr | trr | trrm | trc | trcm | xcr | xcrm | tpr | trsw | sea | cea | lcs | nop | calm => exact .of rfl
  | anr | orr | orrm | eor | eorm | car | ci | cmr | es | mpr | mpi => exact .of rfl
  | nor | nord | scz | sll | slc | slld | sra | srl | src | srad | srld | sbr | zbr | tbr => exact .of rfl
  | trn | trnm | sla | slad | abr | adr | adrm | adi | sur | surm | sui => exact arithCheck_keepsByte rfl
  | jwcs => exact opJwcs_keepsByte _
  | bu => exact branch_keepsByte _
  | bct | bcf | bft => exact branchIf_keepsByte _ _
  | bl => exact (branch_keepsByte _).bind fun _ _ => .of rfl
  | bib | bih | biw | bid => exact branchIncrement_keepsByte _ _ _ _
  | sbm | zbm => exact putMemBit_keepsByte _ _ _
  | abm => exact opAbm_keepsByte _ _
  | tbm => exact bitAddress_bind_keepsByte fun _ _ => (memRead_keepsByte _ _ _ _ _).bind fun _ _ => .of rfl
  | armb | armh | armw | armd => exact addToMemory_keepsByte _ _
  | rnd => exact opRnd_keepsByte _
  | mpmb | mpmh | mpmw => exact operandNoDword_bind_keepsByte fun _ _ => .of rfl
  | dvmb | dvmh | dvmw => exact operandNoDword_bind_keepsByte fun _ _ => divide_keepsByte _ _
  | dvr | dvi => exact divide_keepsByte _ _
  | adfw | adfd | sufw | sufd | mpfw | mpfd | dvfw | dvfd => exact floatOp_keepsByte _ _ _
  | wait => exact opWait_keepsByte
  | svc => exact (requirePsd_keepsByte a s).bind fun _ _ => .of rfl
  | exr | exrr | exm => cases he
  | _ => cases hp

theorem effectOf_keepsByte_of_not_execute {a : Addr} {i : Instr} {s : State} (he : isExecute i = false) :
    KeepsByte a s (effectOf i s) := by
  cases hp : needsPriv i with
  | true => exact effectOf_keepsByte_of_needsPriv hp
  | false => exact effectOf_keepsByte_of_plain hp he

theorem executeTarget_keepsByte (a : Addr) (image : Word) (s : State) : KeepsByte a s (executeTarget image s) := by
  unfold executeTarget
  split
  · exact .of rfl
  · split
    · exact .of rfl
    · next f hf =>
      obtain ⟨rfl, he⟩ := targetOp_some hf
      exact effectOf_keepsByte_of_not_execute he

/-- No instruction, whatever its outcome, changes a shielded byte. -/
theorem effectOf_keepsByte (a : Addr) (i : Instr) (s : State) : KeepsByte a s (effectOf i s) := by
  cases i with
  | exr | exrr => exact executeTarget_keepsByte _ _ _
  | exm m =>
    exact resolve_bind_keepsByte fun _ _ => (memRead_keepsByte _ _ _ _ _).bind fun _ _ =>
      executeTarget_keepsByte _ _ _
  | _ => exact effectOf_keepsByte_of_not_execute rfl

end Sys2Proof.Machine

namespace Sys2Proof.Proofs

open Sys2Proof.Machine

/-- Settles O60, by `effectOf_keepsByte`. -/
theorem unprivilegedKeepsPages : Obligations.UnprivilegedKeepsPages := by
  intro i s a hp hr hb hout
  have h := effectOf_keepsByte a i s ⟨hp, hout, hr, hb⟩
  refine ⟨fun t e => ?_, fun x t e => ?_⟩
  · rw [e] at h
    exact h.2
  · rw [e] at h
    exact h.2

end Sys2Proof.Proofs
end

section
/-!
The words that are no instruction (R170 to R175, N57): for each row of the operation code map the augmenting codes
at which the decoder answers an error.
-/

namespace Sys2Proof

/-! ### Fields as numbers -/

theorem opOf_lt (w : Word) : opOf w < 64 := (bits w 0 6).isLt

theorem f12_eq_iff (w : Word) (a : BitVec 4) : f12 w = a ↔ (f12 w).toNat = a.toNat := BitVec.toNat_inj.symm

/-- The augmenting code of 0x3F is the low three bits of the four-bit one (R175). -/
theorem f13_toNat (w : Word) : (f13 w).toNat = (f12 w).toNat % 8 := by
  have h13 : (f13 w).toNat = w.toNat / 2 ^ 16 % 2 ^ 3 := Machine.bits_toNat w 13 3
  have h12 : (f12 w).toNat = w.toNat / 2 ^ 16 % 2 ^ 4 := Machine.bits_toNat w 12 4
  omega

/-! ### One lemma for each table of augmenting codes -/

/-- The decoder rejects: its answer is an error, whichever it names. -/
def Undefined (x : Except DecodeError Instr) : Prop := ∃ e, x = .error e

@[simp] theorem undefined_error (e : DecodeError) : Undefined (.error e) := ⟨e, rfl⟩

@[simp] theorem not_undefined_ok (i : Instr) : ¬Undefined (.ok i) := fun ⟨_, h⟩ => nomatch h

theorem undefined_aug0_iff (w : Word) (i : Instr) : Undefined (aug0 w i) ↔ (f12 w).toNat ≠ 0 := by
  have h0 := f12_eq_iff w 0
  unfold aug0
  split <;> simp_all

theorem undefined_aug08_iff (w : Word) (i j : Instr) :
    Undefined (aug08 w i j) ↔ (f12 w).toNat ≠ 0 ∧ (f12 w).toNat ≠ 8 := by
  have h0 := f12_eq_iff w 0
  have h8 := f12_eq_iff w 8
  unfold aug08
  split
  · simp_all
  · split <;> simp_all

theorem undefined_decode00_iff (w : Word) : Undefined (decode00 w) ↔ (f12 w).toNat = 0xA := by
  have := (f12 w).isLt
  unfold decode00
  generalize (f12 w).toNat = aug at *
  interval_cases aug <;> simp

theorem undefined_decode0B_iff (w : Word) : Undefined (decode0B w) ↔ (f12 w).toNat ∈ [1, 2, 6] := by
  have := (f12 w).isLt
  unfold decode0B
  generalize (f12 w).toNat = aug at *
  interval_cases aug <;> simp

theorem undefined_decode32_iff (w : Word) : Undefined (decode32 w) ↔ 0xB ≤ (f12 w).toNat := by
  have := (f12 w).isLt
  unfold decode32
  generalize (f12 w).toNat = aug at *
  interval_cases aug <;> simp

theorem undefined_decodeClassF_iff (w : Word) :
    Undefined (decodeClassF w) ↔ (bits w 9 4).toNat ∈ [0x0, 0x1, 0xA] := by
  have := (bits w 9 4).isLt
  unfold decodeClassF
  generalize (bits w 9 4).toNat = sub at *
  interval_cases sub <;> simp

/-- Only code 7 of 0x3F, Class F, has unassigned words. -/
theorem undefined_decode3F_iff (w : Word) :
    Undefined (decode3F w) ↔ (f12 w).toNat % 8 = 7 ∧ (bits w 9 4).toNat ∈ [0x0, 0x1, 0xA] := by
  rw [← undefined_decodeClassF_iff, ← f13_toNat]
  have := (f13 w).isLt
  unfold decode3F
  generalize (f13 w).toNat = aug at *
  interval_cases aug <;> simp

/-! ### The operation code map, by families -/

/-- Rows that must have the augmenting code zero. -/
theorem decodeOp_aug0 {op : Nat} (w : Word) (h : op ∈ [0x01, 0x04, 0x05, 0x10, 0x11, 0x18, 0x19, 0x1A]) :
    ∃ i, decodeOp op w = aug0 w i := by
  fin_cases h <;> exact ⟨_, rfl⟩

/-- Rows with a plain and a masked form. -/
theorem decodeOp_aug08 {op : Nat} (w : Word) (h : op ∈ [0x02, 0x03, 0x0E, 0x0F]) :
    ∃ i j, decodeOp op w = aug08 w i j := by
  fin_cases h <;> exact ⟨_, _, rfl⟩

theorem decodeOp_unassigned {op : Nat} (w : Word) (h : 0x12 ≤ op ∧ op ≤ 0x17) :
    decodeOp op w = .error .unassignedOperation := by
  obtain ⟨hlo, hhi⟩ := h
  interval_cases op <;> rfl

/-- The operation codes that are an instruction whatever the rest of the word. -/
def FullRow (op : Nat) : Prop :=
  (0x06 ≤ op ∧ op ≤ 0x0A) ∨ (0x0C ≤ op ∧ op ≤ 0x0D) ∨ (0x1B ≤ op ∧ op ≤ 0x31) ∨ (0x33 ≤ op ∧ op ≤ 0x3E)

theorem decodeOp_fullRow {op : Nat} (w : Word) (h : FullRow op) : ∃ i, decodeOp op w = .ok i := by
  rcases h with ⟨hlo, hhi⟩ | ⟨hlo, hhi⟩ | ⟨hlo, hhi⟩ | ⟨hlo, hhi⟩ <;> interval_cases op <;> exact ⟨_, rfl⟩

/-- Every operation code belongs to one of the families. -/
theorem op_families {op : Nat} (h : op < 64) :
    FullRow op ∨ (0x12 ≤ op ∧ op ≤ 0x17) ∨ op ∈ [0x01, 0x04, 0x05, 0x10, 0x11, 0x18, 0x19, 0x1A] ∨
      op ∈ [0x02, 0x03, 0x0E, 0x0F] ∨ op = 0x00 ∨ op = 0x0B ∨ op = 0x32 ∨ op = 0x3F := by
  simp only [FullRow, List.mem_cons, List.not_mem_nil, or_false]
  omega

/-- The unassigned codes: operation codes, augmenting codes, Class F sub-operations (N57). -/
def UnassignedCode (op aug sub : Nat) : Prop :=
  (0x12 ≤ op ∧ op ≤ 0x17) ∨
  (op = 0x00 ∧ aug = 0xA) ∨
  (op ∈ [0x01, 0x04, 0x05, 0x10, 0x11, 0x18, 0x19, 0x1A] ∧ aug ≠ 0) ∨
  (op ∈ [0x02, 0x03, 0x0E, 0x0F] ∧ aug ≠ 0 ∧ aug ≠ 8) ∨
  (op = 0x0B ∧ aug ∈ [1, 2, 6]) ∨
  (op = 0x32 ∧ 0xB ≤ aug) ∨
  (op = 0x3F ∧ aug % 8 = 7 ∧ sub ∈ [0x0, 0x1, 0xA])

theorem undefined_decodeOp_iff {op : Nat} (h : op < 64) (w : Word) :
    Undefined (decodeOp op w) ↔ UnassignedCode op (f12 w).toNat (bits w 9 4).toNat := by
  unfold UnassignedCode
  rcases op_families h with hop | hop | hop | hop | rfl | rfl | rfl | rfl
  · obtain ⟨i, hi⟩ := decodeOp_fullRow w hop
    rw [hi]
    refine iff_of_false (not_undefined_ok i) ?_
    simp only [FullRow, List.mem_cons, List.not_mem_nil, or_false] at hop ⊢
    omega
  · rw [decodeOp_unassigned w hop]
    simp [hop]
  · obtain ⟨i, hi⟩ := decodeOp_aug0 w hop
    rw [hi, undefined_aug0_iff]
    fin_cases hop <;> simp
  · obtain ⟨i, j, hij⟩ := decodeOp_aug08 w hop
    rw [hij, undefined_aug08_iff]
    fin_cases hop <;> simp
  · exact (undefined_decode00_iff w).trans (by simp)
  · exact (undefined_decode0B_iff w).trans (by simp)
  · exact (undefined_decode32_iff w).trans (by simp)
  · exact (undefined_decode3F_iff w).trans (by simp)

/-! ### The fetched word (R162) -/

theorem decodeFetched_left (w : Word) : decodeFetched w false = decode w := rfl

/-- A word operation code in the right halfword (decision D12). -/
theorem decodeFetched_wordInRightHalf {w : Word} (h : isHalfLen (fetchImage w true) = false) :
    decodeFetched w true = .error .wordInRightHalf := by
  simp [decodeFetched, h]

end Sys2Proof

namespace Sys2Proof.Proofs

/-- Settles O3, by `undefined_decodeOp_iff` at the word's own operation code. -/
theorem undefinedWords : Obligations.UndefinedWords :=
  ⟨fun w => undefined_decodeOp_iff (opOf_lt w) w, fun _ => decodeFetched_wordInRightHalf, decodeFetched_left⟩

end Sys2Proof.Proofs
end

section
/-!
The step of a machine whose fetched word is no instruction (R742, decisions D66, D69): Undefined Instruction is raised
in the state as other agents have left it, the pc past the word.
-/

namespace Sys2Proof.Machine

theorem interleave_pc (s : State) : s.interleave.pc = s.pc := by rw [(interleave_spec s).1]

theorem interleave_inputs (s : State) : s.interleave.inputs = s.inputs := by rw [(interleave_spec s).1]

/-- An effect that is a trap alone, where no event coincides with it: it is raised with the pc past the instruction. -/
theorem perform_trapNow {len : Len} {t : Trap} {s : State} (h : s.inputs = []) :
    perform len (trapNow t) s =
      .next (raise t { s with lastBix := false, pc := advance len s.pc, hist := histOf len s.pc }) := by
  have hu : ((s.start len).setHist (histOf len s.pc)).urgent t = [] := urgent_nil h
  rw [perform_trap (op := trapNow t) rfl, raiseSync_alone hu]
  rfl

end Sys2Proof.Machine

namespace Sys2Proof.Proofs

open Sys2Proof.Machine

/-- Settles O5, by `step_runs`, `runInstr_undefined` and `perform_trapNow`. -/
theorem stepTrapsUndefined : Obligations.StepTrapsUndefined := by
  intro s pa e hin hrun hsens htr hpres hpar _ hstop v hdec len
  have hpc : v.pc = s.pc := interleave_pc _
  have hv : v.inputs = [] := (interleave_inputs _).trans hin
  have hstep : step s = settleOutcome (perform len (trapNow (.undefined false)) (v.askHalt s.instrStopHit)) :=
    (step_runs hin hrun hsens).trans (runInstr_undefined (s := { s with noIntNext := false }) htr hpres hpar hdec)
  rw [hstep, hstop, askHalt_false, perform_trapNow hv, hpc]
  rfl

end Sys2Proof.Proofs
end

section
/-!
LEA, LA and LEAR (R238, R239, R240): one register takes an address, and nothing else changes but what every instruction
changes.
-/

namespace Sys2Proof.Machine

theorem onlyHalt_mode {s t : State} (h : onlyHalt s t) : t.mode = s.mode := by
  unfold onlyHalt at h; rw [h]

theorem onlyHalt_ext {s t : State} (h : onlyHalt s t) : t.ext = s.ext := by
  unfold onlyHalt at h; rw [h]

/-- An instruction whose one result goes to register `r`, the condition codes left alone. -/
theorem perform_setReg {len : Len} {op : State → Res Unit} {s u : State} {r : Reg} {v : Word} (hq : s.quiet)
    (hu : onlyHalt (s.start len) u) (h : op (s.start len) = .ok () (u.setReg r v)) :
    ∃ t, perform len op s = .next t ∧ onlyRegs s t ∧ Ended len s t ∧ t.cc = s.cc ∧ regsBut r s t ∧ t.reg r = v := by
  have hframe : effectRegs (s.start len) (u.setReg r v) := effectRegs_trans (effectRegs_of_onlyHalt hu) rfl
  obtain ⟨ht, hregs, hend⟩ := perform_regs_ended hq h hframe (onlyHalt_pc hu) (onlyHalt_lastBix hu)
  refine ⟨_, ht, hregs, hend, (onlyHalt_cc hu).trans rfl, fun q hne => ?_, State.reg_setReg_same u r v⟩
  rw [finish_reg, State.reg_setReg, if_neg hne, onlyHalt_reg hu, State.reg_start]

/-- LEA's result by the mode: in PSW mode, not extended, the last word of the chain and the index register (R238). -/
theorem leaValue_eq (s : State) (w : Word) (x : Target) :
    leaValue s w x =
      if s.mode = .psw ∧ s.ext = false then w + s.index x.x
      else bits w 0 2 ++ (0 : BitVec 6) ++ addrField s.ext x.ea := by
  unfold leaValue
  cases s.mode <;> cases s.ext <;> rfl

section Addresses

variable {s u : State} {r : Reg} {m : MemRef} {x : Target} (hres : resolve .operand m s = .ok x u)
include hres

theorem opLea_ok : opLea r m s = .ok () (u.setReg r (leaValue u (x.last.getD (encode (.lea r m))) x)) := by
  rw [opLea, hres, Res.bind_ok]
  rfl

theorem opLa_ok (hm : s.mode = .psd) : opLa r m s = .ok () (u.setReg r ((0 : BitVec 8) ++ addrField u.ext x.ea)) := by
  rw [opLa, requirePsd_ok hm, Res.bind_ok, hres, Res.bind_ok]

theorem opLear_ok {pa : Addr} (hm : s.mode = .psd) (hp : s.priv = true)
    (ht : u.translate .operand false x.ea.addr = .ok pa) :
    opLear r m s = .ok () (u.setReg r ((0 : BitVec 7) ++ BitVec.ofBool x.ea.f ++ pa)) := by
  simp only [opLear, requirePsd_ok hm, requirePriv_ok hp, hres, Res.bind_ok, ht]

end Addresses

end Sys2Proof.Machine

namespace Sys2Proof.Proofs

open Sys2Proof.Machine

/-- Settles O15: the value each of the three puts in its register, and the frame by `perform_setReg`. -/
theorem loadsOfAddresses : Obligations.LoadsOfAddresses := by
  intro s r m x u hq hres field last
  have hu : onlyHalt (s.start .word) u := resolve_onlyHalt (s := s.start .word) hq.alone hres
  have hmode : u.mode = s.mode := (onlyHalt_mode hu).trans rfl
  have hext : u.ext = s.ext := (onlyHalt_ext hu).trans rfl
  have hindex : u.index x.x = if x.x = 0 then 0 else s.reg (x.x.setWidth 3) := by
    rw [State.index, onlyHalt_reg hu, State.reg_start]
  refine ⟨?_, fun hm => ?_, fun hm hp pa ht => ?_⟩
  · obtain ⟨t, ht, hregs, hend, hcc, hothers, hval⟩ := perform_setReg hq hu (opLea_ok (r := r) hres)
    rw [leaValue_eq, hmode, hext, hindex] at hval
    exact ⟨t, ht, hregs, hend, hcc, hothers, hval⟩
  · obtain ⟨t, ht, hregs, hend, hcc, hothers, hval⟩ := perform_setReg hq hu (opLa_ok (r := r) hres hm)
    rw [hext] at hval
    exact ⟨t, ht, hregs, hend, hcc, hothers, hval⟩
  · exact perform_setReg hq hu (opLear_ok hres hm hp ht)

end Sys2Proof.Proofs
end

section
/-!
The stores (R250 to R257, R263, R265 to R268). A store to a real address, of each width, is described once by
`StoredAt`; a store through the MAP is that one at the address it translates to, and what ends a storing instruction is
the same for both.
-/

namespace Sys2Proof.Machine

/-! ### Fields of a register pair -/

/-- A field that lies in the upper part of a concatenation is that part's. -/
theorem bits_append_left {n k : Nat} (x : BitVec n) (y : BitVec k) {a l : Nat} (h : a + l ≤ n) :
    bits (x ++ y) a l = bits x a l := by
  apply bits_of_toNat
  have hdiv (z : Nat) : z / 2 ^ (n + k - a - l) = z / 2 ^ k / 2 ^ (n - a - l) := by
    rw [Nat.div_div_eq_div_mul, ← pow_add]
    congr 2
    omega
  have hy : (x.toNat * 2 ^ k + y.toNat) / 2 ^ k = x.toNat := by
    rw [Nat.mul_comm, Nat.mul_add_div (Nat.two_pow_pos k), Nat.div_eq_of_lt y.isLt, Nat.add_zero]
  rw [append_toNat, hdiv, hy, bits_toNat]

theorem bits_pair_high (s : State) (r : Reg) : bits (s.pair r) 0 32 = s.reg r := by
  refine bits_of_toNat ?_
  rw [State.pair, append_toNat]
  omega

theorem bits_pair_low (s : State) (r : Reg) : bits (s.pair r) 32 32 = s.reg (r + 1) := by
  refine bits_of_toNat ?_
  rw [State.pair, append_toNat]
  omega

/-- Masking both words of a pair by R4 is masking the pair (R257). -/
theorem masked_pair (s : State) (r : Reg) :
    (s.reg r &&& s.reg 4) ++ (s.reg (r + 1) &&& s.reg 4) = s.pair r &&& maskPair s.mask :=
  BitVec.and_append.symm

/-! ### Aligned addresses -/

/-- An operand of this width in bytes (R90). -/
def Width.bytes : Width → Nat
  | .byte => 1
  | .half => 2
  | .word => 4
  | .dword => 8

theorem operandAddr_toNat (w : Width) (a : Addr) : (operandAddr w a).toNat = a.toNat / w.bytes * w.bytes := by
  cases w with
  | byte => simp [operandAddr, Width.bytes]
  | half => exact halfAlign_toNat a
  | word => exact wordAlign_toNat a
  | dword => exact dwordAlign_toNat a

theorem operandAddr_mod (w : Width) (a : Addr) : (operandAddr w a).toNat % w.bytes = 0 := by
  rw [operandAddr_toNat, Nat.mul_mod_left]

theorem operandAddr_of_mod {w : Width} {a : Addr} (h : a.toNat % w.bytes = 0) : operandAddr w a = a := by
  apply BitVec.eq_of_toNat_eq
  rw [operandAddr_toNat, Nat.div_mul_cancel (Nat.dvd_of_mod_eq_zero h)]

/-- The place in the page is kept, and with it the alignment (R115). -/
theorem translate_aligned {s : State} {k : Access} {b : Bool} {w : Width} {a pa : Addr}
    (h : s.translate k b (operandAddr w a) = .ok pa) : pa.toNat % w.bytes = 0 := by
  have hoff := translate_offset h
  have hmod := operandAddr_mod w a
  cases w <;> simp only [Width.bytes] at hmod ⊢ <;> omega

/-! ### One store -/

/-- `t` differs from `s` in memory, and in a halt asked for by an address stop (R842), alone. -/
def onlyStored (s t : State) : Prop := t = { s with mem := t.mem, haltReq := t.haltReq }

/-- The value `v` at the real address `a`, as far as a store of this width puts it there (R250 to R253). -/
def State.holds (t : State) (w : Width) (a : Nat) (v : Dword) : Prop :=
  match w with
  | .byte => t.byte a = bits v 24 8
  | .half => t.peek a .half = (bits v 16 16).setWidth 32
  | .word => t.peek a .word = bits v 0 32
  | .dword => t.peek a .word = bits v 0 32 ∧ t.peek (a + 4) .word = bits v 32 32

/-- `t` is `s` after a store of `v`, of this width, at the real address `a`. -/
structure StoredAt (w : Width) (a : Nat) (v : Dword) (s t : State) : Prop where
  frame : onlyStored s t
  wf : Memory.wf t.mem = true
  value : t.holds w a v
  others : bytesBut a w.bytes s t

theorem StoredAt.of_onlyHalt {w : Width} {a : Nat} {v : Dword} {s u t : State} (hu : onlyHalt s u)
    (h : StoredAt w a v u t) : StoredAt w a v s t where
  frame := by
    have ht := h.frame
    unfold onlyStored onlyHalt at *
    rw [ht, hu]
  wf := h.wf
  value := h.value
  others := fun b hb => (h.others b hb).trans (onlyHalt_byte hu b)

theorem onlyStored_trans {s t u : State} (h : onlyStored s t) (h' : onlyStored t u) : onlyStored s u := by
  unfold onlyStored at *
  rw [h', h]

theorem onlyStored_translate {s t : State} (h : onlyStored s t) (k : Access) (b : Bool) (a : Addr) :
    t.translate k b a = s.translate k b a := by
  unfold onlyStored at h; rw [h]; rfl

theorem onlyStored_permitted {s t : State} (h : onlyStored s t) {pa : Addr}
    (hp : s.priv = true ∨ s.pageProtected pa = false) : t.priv = true ∨ t.pageProtected pa = false := by
  unfold onlyStored at h; rw [h]; exact hp

theorem onlyStored_present {s t : State} (h : onlyStored s t) (pa : Addr) (n : Size) :
    t.present pa n = s.present pa n := by
  unfold onlyStored at h; rw [h]; rfl

theorem onlyStored_between {s t : State} (h : onlyStored s t) : t.between = s.between := by
  unfold onlyStored at h; rw [h]

theorem onlyStored_pc {s t : State} (h : onlyStored s t) : t.pc = s.pc := by
  unfold onlyStored at h; rw [h]

theorem onlyStored_lastBix {s t : State} (h : onlyStored s t) : t.lastBix = s.lastBix := by
  unfold onlyStored at h; rw [h]

theorem onlyStored_cc {s t : State} (h : onlyStored s t) : t.cc = s.cc := by
  unfold onlyStored at h; rw [h]

theorem effectMem_of_onlyStored {s t : State} (h : onlyStored s t) : effectMem s t := by
  unfold onlyStored at h; unfold effectMem; rw [h]

theorem byte_poke_byte (s : State) (a : Nat) (b : Byte) (hw : Memory.wf s.mem = true) :
    (s.poke a .byte (b.setWidth 32)).byte a = b := by
  have h := byte_poke s a .byte (b.setWidth 32) (k := 0) hw (by decide)
  refine h.trans (bits_of_toNat ?_)
  simp only [Size.bytes, BitVec.toNat_setWidth]
  omega

theorem peek_poke_half (s : State) (a : Nat) (h : Half) (hw : Memory.wf s.mem = true) :
    (s.poke a .half (h.setWidth 32)).peek a .half = h.setWidth 32 := by
  rw [peek_poke s a .half _ hw]
  apply BitVec.eq_of_toNat_eq
  simp only [Size.bytes, BitVec.toNat_ofNat, BitVec.toNat_setWidth]
  omega

/-- `t` is `s` after one access that stores the low bytes of `x` at the real address `a` (R111, R842). -/
structure Poked (a : Nat) (n : Size) (x : Word) (s t : State) : Prop where
  frame : onlyStored s t
  mem : t.mem = (s.poke a n x).mem

/-- Such an access to installed memory, before which no other agent stores. -/
theorem operandWrite_poked {s : State} {pa : Addr} {n : Size} (x : Word) (hb : s.between = [])
    (hp : s.present pa n = true) : ∃ t, operandWrite pa n x s = .ok () t ∧ Poked pa.toNat n x s t := by
  rw [operandWrite, physWrite_eq operandErr x hb hp, Res.bind_ok]
  refine ⟨_, rfl, ?_, rfl⟩
  rw [poke_eq]
  rfl

namespace Poked

variable {a : Nat} {n : Size} {x : Word} {s t : State}

theorem wf (h : Poked a n x s t) (hw : Memory.wf s.mem = true) : Memory.wf t.mem = true := by
  rw [h.mem]
  exact wf_poke s a n x hw

theorem others (h : Poked a n x s t) : bytesBut a n.bytes s t := fun b hb =>
  (byte_congr h.mem b).trans (byte_poke_ne s a n x b hb)

theorem peek_word (h : Poked a .word x s t) (hw : Memory.wf s.mem = true) : t.peek a .word = x :=
  (peek_congr h.mem a .word).trans (peek_poke_word s a x hw)

/-- A word away from the store reads as before. -/
theorem peek_word_ne (h : Poked a n x s t) {b : Nat} (hb : b + 4 ≤ a ∨ a + n.bytes ≤ b) :
    t.peek b .word = s.peek b .word := by
  simp only [State.peek]
  rw [h.others b (by omega), h.others (b + 1) (by omega), h.others (b + 2) (by omega), h.others (b + 3) (by omega)]

end Poked

/-! ### A store to a real address -/

/-- The words of a doubleword, the least significant one stored first (R253). -/
theorem StoredAt.of_words {a : Nat} {v : Dword} {s t u : State} (hw : Memory.wf s.mem = true)
    (hlow : Poked (a + 4) .word (bits v 32 32) s t) (hhigh : Poked a .word (bits v 0 32) t u) :
    StoredAt .dword a v s u where
  frame := onlyStored_trans hlow.frame hhigh.frame
  wf := hhigh.wf (hlow.wf hw)
  value := ⟨hhigh.peek_word (hlow.wf hw), (hhigh.peek_word_ne (.inr (Nat.le_refl _))).trans (hlow.peek_word hw)⟩
  others := fun b hb => by
    simp only [Width.bytes] at hb
    exact (hhigh.others b (by simp only [Size.bytes]; omega)).trans (hlow.others b (by simp only [Size.bytes]; omega))

/-- A store of any width to installed memory at a real address (R263). -/
theorem physWriteAt_stored {w : Width} {a : Addr} (v : Dword) {s : State} (hb : s.between = [])
    (hw : Memory.wf s.mem = true) (hi : s.installed (operandAddr w a).toNat w.bytes = true) :
    ∃ t, physWriteAt a (storeValue w v) s = .ok () t ∧ StoredAt w (operandAddr w a).toNat v s t := by
  cases w with
  | byte =>
    obtain ⟨t, ht, hp⟩ := operandWrite_poked (n := .byte) ((bits v 24 8).setWidth 32) hb hi
    exact ⟨t, ht, hp.frame, hp.wf hw, (byte_congr hp.mem _).trans (byte_poke_byte _ _ _ hw), hp.others⟩
  | half =>
    obtain ⟨t, ht, hp⟩ := operandWrite_poked (n := .half) ((bits v 16 16).setWidth 32) hb hi
    exact ⟨t, ht, hp.frame, hp.wf hw, (peek_congr hp.mem _ _).trans (peek_poke_half _ _ _ hw), hp.others⟩
  | word =>
    obtain ⟨t, ht, hp⟩ := operandWrite_poked (n := .word) (bits v 0 32) hb hi
    exact ⟨t, ht, hp.frame, hp.wf hw, hp.peek_word hw, hp.others⟩
  | dword =>
    have hnext : (operandAddr .dword a + 4).toNat = (operandAddr .dword a).toNat + 4 := addr_add_four (dwordAlign_mod a)
    obtain ⟨hihigh, hilow⟩ := installed_words hi
    rw [← hnext] at hilow
    obtain ⟨t, ht, hlow⟩ := operandWrite_poked (n := .word) (bits v 32 32) hb hilow
    obtain ⟨u, hu, hhigh⟩ := operandWrite_poked (n := .word) (bits v 0 32) ((onlyStored_between hlow.frame).trans hb)
      ((onlyStored_present hlow.frame _ _).trans hihigh)
    rw [hnext] at hlow
    refine ⟨u, ?_, .of_words hw hlow hhigh⟩
    rw [storeValue, physWriteAt, ht, Res.bind_ok, hu]

/-! ### A store through the MAP -/

/-- The two words of a doubleword are on one page, which is protected or not for both (R125). -/
theorem pageProtected_add_four {s : State} {pa : Addr} (h : pa.toNat % 8 = 0) :
    s.pageProtected (pa + 4) = s.pageProtected pa :=
  pageProtected_congr (by rw [addr_add_four h]; omega)

/-- A permitted store is the store at the address that its own translates to (R111, R253). -/
theorem writeAt_eq_physWriteAt {w : Width} {a pa : Addr} (v : Dword) {s : State} (hb : s.between = [])
    (hst : storesTo s (operandAddr w a) w.unit pa) (hi : s.installed pa.toNat w.bytes = true) :
    writeAt a (storeValue w v) s = physWriteAt pa (storeValue w v) s := by
  have hpa := operandAddr_of_mod (translate_aligned hst.real)
  have hone (n : Size) (x : Word) : memWrite (operandAddr w a) n x s = operandWrite (operandAddr w pa) n x s := by
    rw [memWrite_permitted n x hst.real hst.permitted, hpa]
  cases w with
  | byte => exact (hone _ _).trans (by rw [hpa]; rfl)
  | half | word => exact hone _ _
  | dword =>
    have h8 : pa.toNat % 8 = 0 := translate_aligned hst.real
    have hplow : s.present (pa + 4) .word = true := by
      rw [State.present, addr_add_four h8]
      exact (installed_words hi).2
    have hperm : s.priv = true ∨ s.pageProtected (pa + 4) = false := by
      rw [pageProtected_add_four h8]
      exact hst.permitted
    obtain ⟨t, ht, hlow⟩ := operandWrite_poked (bits v 32 32) hb hplow
    have hhigh : memWrite (dwordAlign a) .word (bits v 0 32) t = operandWrite pa .word (bits v 0 32) t :=
      memWrite_permitted .word _ ((onlyStored_translate hlow.frame _ _ _).trans hst.real)
        (onlyStored_permitted hlow.frame hst.permitted)
    simp only [storeValue, writeAt, writeDword, physWriteAt, hpa]
    rw [operandAddr, memWrite_permitted .word _ (translate_low hst.real) hperm, ht, Res.bind_ok, Res.bind_ok, hhigh]

theorem storeForm_stored {m : MemRef} {x : Target} {pa : Addr} (v : Dword) {s u : State} (hb : s.between = [])
    (hw : Memory.wf s.mem = true) (hres : resolve .operand m s = .ok x u)
    (hst : storesTo u (operandAddr x.ea.width x.ea.addr) x.ea.width.unit pa)
    (hi : u.installed pa.toNat x.ea.width.bytes = true) :
    ∃ t, storeForm m v s = .ok () t ∧ StoredAt x.ea.width pa.toNat v s t := by
  have hu := resolve_onlyHalt hb hres
  have hbu : u.between = [] := (onlyHalt_between hu).trans hb
  have hwu : Memory.wf u.mem = true := by
    unfold onlyHalt at hu
    rw [hu]
    exact hw
  have hpa := operandAddr_of_mod (translate_aligned hst.real)
  obtain ⟨t, ht, hstored⟩ := physWriteAt_stored (w := x.ea.width) (a := pa) v hbu hwu (by rw [hpa]; exact hi)
  rw [hpa] at hstored
  refine ⟨t, ?_, hstored.of_onlyHalt hu⟩
  rw [storeForm, hres, Res.bind_ok, writeAt_eq_physWriteAt v hbu hst hi, ht]

/-! ### The end of a storing instruction -/

/-- An instruction whose one effect is a store, the condition codes left alone. -/
theorem perform_storedAt {len : Len} {op : State → Res Unit} {w : Width} {a : Nat} {v : Dword} {s u : State}
    (hq : s.quiet) (h : op (s.start len) = .ok () u) (hu : StoredAt w a v (s.start len) u) :
    ∃ t, perform len op s = .next t ∧ onlyMem s t ∧ Ended len s t ∧ t.cc = s.cc ∧ Memory.wf t.mem = true ∧
      t.holds w a v ∧ bytesBut a w.bytes s t := by
  obtain ⟨hframe, hw, hval, hothers⟩ := hu
  obtain ⟨ht, hmem, hend⟩ := perform_mem_ended hq h (effectMem_of_onlyStored hframe) (onlyStored_pc hframe)
    (onlyStored_lastBix hframe)
  refine ⟨_, ht, hmem, hend, (onlyStored_cc hframe).trans rfl, hw, ?_, hothers⟩
  cases w <;> exact hval

end Sys2Proof.Machine

namespace Sys2Proof.Proofs

open Sys2Proof.Machine

/-- Settles O17: each of the twelve is `storeForm` of its value, which `storeForm_stored` describes. -/
theorem stores : Obligations.Stores := by
  intro s r m x u pa hq hw hres w a hst masked p hp
  have hu : onlyHalt (s.start .word) u := resolve_onlyHalt (s := s.start .word) hq.alone hres
  have hst' : storesTo u a w.unit pa ∧ u.installed pa.toNat w.bytes = true := by
    rw [onlyHalt_installed hu]
    cases hwidth : w with
    | byte | half | word => rw [hwidth] at hst; exact ⟨hst, (onlyHalt_installed hu _ _).symm.trans hst.present⟩
    | dword => rw [hwidth] at hst; exact hst
  have hexec : ∃ op, exec p.1 s = perform .word op s ∧ op (s.start .word) = storeForm m p.2 (s.start .word) := by
    have hmask : masked = (s.start .word).pair r &&& maskPair (s.start .word).mask := masked_pair s r
    rw [hmask] at hp
    simp only [List.mem_cons, List.not_mem_nil, or_false] at hp
    rcases hp with rfl | rfl | rfl | rfl | rfl | rfl | rfl | rfl | rfl | rfl | rfl | rfl <;> exact ⟨_, rfl, rfl⟩
  obtain ⟨op, hop, hform⟩ := hexec
  obtain ⟨v, hv, hstored⟩ : ∃ v, storeForm m p.2 (s.start .word) = .ok () v ∧
      StoredAt w pa.toNat p.2 (s.start .word) v := storeForm_stored p.2 hq.alone hw hres hst'.1 hst'.2
  obtain ⟨t, ht, hmem, hend, hcc, hwt, hval, hothers⟩ := perform_storedAt hq (hform.trans hv) hstored
  refine ⟨t, hop.trans ht, hmem, hend, hcc, hwt, ?_⟩
  cases hwidth : w with
  | byte | half | word => rw [hwidth] at hval hothers; exact ⟨hval, hothers⟩
  | dword => rw [hwidth] at hval hothers; exact ⟨hval.1, hval.2, hothers⟩

end Sys2Proof.Proofs
end

section
/-!
LEM, CEMA and SEM (R241, R242, R263) reach their operand through the map of another PSD (R244): its MAP is loaded aside,
so that the translation leaves the machine as it was, and the operand is read or stored at the real address.
-/

namespace Sys2Proof.Machine

/-! ### Translation through an external map -/

theorem asideMap_ok {α : Type} (s : State) (a : α) (t : State) : asideMap s (.ok a t) = .ok a t := rfl

/-- The load of the MAP changes its registers alone; put back, the state is as it was (log 22). -/
theorem loadMap_restored {err : MemErr → Trap} {psd2 : Word} {s u : State} {n : Nat} (hb : s.between = [])
    (h : loadMap err psd2 s = .ok n u) : { u with mapRegs := s.mapRegs } = s := by
  rw [(loadMap_ok hb h).frame]

/-- A load that stops does not answer, the MAP registers put back or not. -/
theorem asideMap_eq_ok {α : Type} {s t : State} {x : Res α} {a : α} (h : asideMap s x = .ok a t) : x = .ok a t := by
  cases x with
  | ok => exact h
  | stop => cases h

theorem pageField_toNat (la : BitVec 20) : (bits la 0 5).toNat = la.toNat / 32768 := by
  have h : (bits la 0 5).toNat = la.toNat / 2 ^ 15 % 2 ^ 5 := bits_toNat la 0 5
  omega

theorem pageField_eq (la : BitVec 20) : bits la 0 5 = BitVec.ofNat 5 (la.toNat / 32768) := by
  rw [← pageField_toNat, BitVec.ofNat_toNat, BitVec.setWidth_eq]

theorem extRealAddr_eq (e : Half) (la : BitVec 20) :
    bits e 7 9 ++ bits la 5 15 = BitVec.ofNat 24 (e.toNat % 512 * 32768 + la.toNat % 32768) := by
  have he : (bits e 7 9).toNat = e.toNat / 2 ^ 0 % 2 ^ 9 := bits_toNat e 7 9
  have ha : (bits la 5 15).toNat = la.toNat / 2 ^ 0 % 2 ^ 15 := bits_toNat la 5 15
  apply BitVec.eq_of_toNat_eq
  rw [append_toNat, BitVec.toNat_ofNat]
  omega

section Translate

variable {s : State} {psd : Addr} (hb : s.between = []) (hp : s.present (psd + 4) .word = true)
  (ho : s.operandParity = false)
include hb hp ho

theorem extTranslate_unmapped (la : BitVec 20) (hm : mapped (s.peek (psd + 4).toNat .word) = false) :
    extTranslate psd la s = .stop (.trap .mapFault) s := by
  rw [extTranslate, physRead_eq operandErr hb hp ho, Res.bind_ok, hm]
  rfl

/-- The three ends of a translation whose map is loaded: no entry, an entry without VALID, the real address. -/
theorem extTranslate_loaded {la : BitVec 20} {u : State} {n : Nat}
    (hm : mapped (s.peek (psd + 4).toNat .word) = true)
    (hl : loadMap (switchErr false) (s.peek (psd + 4).toNat .word) s = .ok n u) :
    extTranslate psd la s =
      if n ≤ la.toNat / 32768 then .stop (.trap (.systemCheck (statBit 16))) s
      else if (u.mapReg (bits la 0 5)).toNat < 2 ^ 15 then .stop (.trap .mapFault) s
      else .ok (BitVec.ofNat 24 ((u.mapReg (bits la 0 5)).toNat % 512 * 32768 + la.toNat % 32768)) s := by
  have hinvalid : (!bitAt (u.mapReg (bits la 0 5)) 0) = true ↔ (u.mapReg (bits la 0 5)).toNat < 2 ^ 15 := by
    rw [← Nat.not_le, ← valid_iff, Bool.not_eq_true, Bool.not_eq_true']
  rw [extTranslate, physRead_eq operandErr hb hp ho, Res.bind_ok, hm, hl, asideMap_ok]
  simp only [Res.bind_ok, loadMap_restored hb hl, pageField_toNat, hinvalid, extRealAddr_eq, trapNow_eq, Bool.not_true,
    Bool.false_eq_true, if_false]

end Translate

/-- A translation that answers has changed nothing (R244). -/
theorem extTranslate_ok {psd : Addr} {la : BitVec 20} {s u : State} {pa : Addr} (hb : s.between = [])
    (h : extTranslate psd la s = .ok pa u) : u = s := by
  obtain ⟨psd2, t, hread, hrest⟩ := Res.bind_eq_ok h
  obtain ⟨-, ht⟩ := physRead_alone hb hread
  rw [ht] at hrest
  split at hrest
  · cases hrest
  · obtain ⟨n, v, hload, hend⟩ := Res.bind_eq_ok hrest
    simp only [loadMap_restored hb (asideMap_eq_ok hload)] at hend
    split at hend
    · cases hend
    · split at hend <;> cases hend
      rfl

/-- The address of LEM, CEMA and SEM where the translation answers. -/
theorem extAddr_ok {rs rz : Reg} {s u : State} {pa : Addr} (hb : s.between = []) (hm : s.mode = .psd)
    (hp : s.priv = true) (h : extTranslate (addrOf (s.reg rs)) (bits (s.reg rz) 12 20) s = .ok pa u) :
    extAddr rs rz s = .ok pa s := by
  rw [extAddr, requirePsd_ok hm, Res.bind_ok, requirePriv_ok hp, Res.bind_ok, h, extTranslate_ok hb h]

/-- The data type that R_Z selects (R241). -/
theorem extWidth_eq (z : Word) :
    extWidth z = if bitAt z 7 then .byte else if z.toNat % 2 = 1 then .half else if z.toNat % 4 = 2 then .dword
      else .word := by
  have haddr : (addrOf z).toNat = z.toNat / 2 ^ 0 % 2 ^ 24 := bits_toNat z 8 24
  have h2 : (addrOf z).toNat % 2 = z.toNat % 2 := by omega
  have h4 : (addrOf z).toNat % 4 = z.toNat % 4 := by omega
  rw [extWidth, width_eq, h2, h4]

/-! ### An operand at a real address -/

/-- The operand of this width in memory at the real address `a` (R90). -/
def State.operandAt (s : State) (w : Width) (a : Nat) : Operand :=
  match w with
  | .byte => .byte (s.byte a)
  | .half => .half (s.byte a ++ s.byte (a + 1))
  | .word => .word (s.peek a .word)
  | .dword => .dword (s.peek a .word ++ s.peek (a + 4) .word)

/-- A read of installed memory before which no other agent stores, and that meets no memory error (R110, R842). -/
theorem operandRead_alone {s : State} {pa : Addr} {n : Size} (hb : s.between = []) (ho : s.operandParity = false)
    (hp : s.present pa n = true) :
    ∃ t, operandRead pa n s = .ok (s.peek pa.toNat n) t ∧ onlyHalt s t := by
  rw [operandRead, physRead_eq operandErr hb hp ho]
  exact ⟨_, rfl, onlyHalt_askHalt s _⟩

theorem onlyHalt_operandParity {s t : State} (h : onlyHalt s t) : t.operandParity = s.operandParity := by
  unfold onlyHalt at h; rw [h]

/-- A read of any width of installed memory at a real address (R241). -/
theorem physReadAt_ok {w : Width} {a : Addr} {s : State} (hb : s.between = []) (ho : s.operandParity = false)
    (hi : s.installed (operandAddr w a).toNat w.bytes = true) :
    ∃ t, physReadAt w a s = .ok (s.operandAt w (operandAddr w a).toNat) t ∧ onlyHalt s t := by
  cases w with
  | byte =>
    obtain ⟨t, ht, hst⟩ := operandRead_alone (n := .byte) hb ho hi
    refine ⟨t, ?_, hst⟩
    rw [operandAddr] at ht
    rw [physReadAt, ht, Res.bind_ok, bits_peek_byte]
    rfl
  | half =>
    obtain ⟨t, ht, hst⟩ := operandRead_alone (n := .half) hb ho hi
    refine ⟨t, ?_, hst⟩
    rw [physReadAt, ht, Res.bind_ok, bits_peek_half]
    rfl
  | word =>
    obtain ⟨t, ht, hst⟩ := operandRead_alone (n := .word) hb ho hi
    exact ⟨t, by rw [physReadAt, ht, Res.bind_ok]; rfl, hst⟩
  | dword =>
    have hnext : (operandAddr .dword a + 4).toNat = (operandAddr .dword a).toNat + 4 := addr_add_four (dwordAlign_mod a)
    obtain ⟨hihigh, hilow⟩ := installed_words hi
    rw [← hnext] at hilow
    obtain ⟨t, ht, hst⟩ := operandRead_alone (n := .word) hb ho hilow
    obtain ⟨u, hu, htu⟩ := operandRead_alone (n := .word) ((onlyHalt_between hst).trans hb)
      ((onlyHalt_operandParity hst).trans ho) ((onlyHalt_installed hst _ _).trans hihigh)
    refine ⟨u, ?_, onlyHalt_trans hst htu⟩
    rw [physReadAt, ht, Res.bind_ok, hu, Res.bind_ok, onlyHalt_peek hst, hnext]
    rfl

/-! ### The three instructions -/

/-- The operand `o` put in `r`, or in its pair, and reported on with the CC1 given (R241). -/
def wroteOperand (r : Reg) (o : Operand) (c1 : Bool) (s t : State) : Prop :=
  match o with
  | .dword v => wrotePair r v c1 s t
  | o => wroteWord r o.ext c1 s t

/-- An instruction that puts an operand in a register and leaves CC1 alone. -/
theorem perform_lemPut {len : Len} {op : State → Res Unit} {s u : State} {r : Reg} {o : Operand} (hq : s.quiet)
    (hu : onlyHalt (s.start len) u) (h : op (s.start len) = .ok () (lemPut r o u)) :
    ∃ t, perform len op s = .next t ∧ onlyRegs s t ∧ Ended len s t ∧ wroteOperand r o s.cc.cc1 s t := by
  have hreg (q : Reg) : u.reg q = s.reg q := onlyHalt_reg hu q
  have hcc : u.cc = s.cc := (onlyHalt_cc hu).trans rfl
  have hfields : effectRegs u (lemPut r o u) ∧ (lemPut r o u).pc = u.pc ∧ (lemPut r o u).lastBix = u.lastBix := by
    cases o <;> exact ⟨rfl, rfl, rfl⟩
  obtain ⟨hregs, hpc, hlast⟩ := hfields
  obtain ⟨ht, hregs, hend⟩ := perform_regs_ended hq h (effectRegs_trans (effectRegs_of_onlyHalt hu) hregs)
    (hpc.trans (onlyHalt_pc hu)) (hlast.trans (onlyHalt_lastBix hu))
  refine ⟨_, ht, hregs, hend, ?_⟩
  rw [← hcc]
  cases o with
  | byte v | half v | word v => exact wroteWord_finish hreg
  | dword v => exact wrotePair_finish hreg

section External

variable {s : State} {rd rs rz : Reg} {pa : Addr} (he : extAddr rs rz s = .ok pa s)
include he

theorem opCema_ok :
    opCema rd rs rz s = .ok () (s.setReg rd ((0 : BitVec 7) ++ BitVec.ofBool (bitAt (s.reg rz) 7) ++ pa)) := by
  simp only [opCema, he, Res.bind_ok]

theorem opLem_ok (hb : s.between = []) (ho : s.operandParity = false)
    (hi : s.installed (operandAddr (extWidth (s.reg rz)) pa).toNat (extWidth (s.reg rz)).bytes = true) :
    ∃ t, onlyHalt s t ∧ opLem rd rs rz s = .ok ()
      (lemPut rd (s.operandAt (extWidth (s.reg rz)) (operandAddr (extWidth (s.reg rz)) pa).toNat) t) := by
  obtain ⟨t, ht, hst⟩ := physReadAt_ok hb ho hi
  refine ⟨t, hst, ?_⟩
  simp only [opLem, he, ht, Res.bind_ok]

theorem opSem_stored (hb : s.between = []) (hw : Memory.wf s.mem = true)
    (hi : s.installed (operandAddr (extWidth (s.reg rz)) pa).toNat (extWidth (s.reg rz)).bytes = true) :
    ∃ t, opSem rd rs rz s = .ok () t ∧
      StoredAt (extWidth (s.reg rz)) (operandAddr (extWidth (s.reg rz)) pa).toNat (s.pair rd) s t := by
  obtain ⟨t, ht, hst⟩ := physWriteAt_stored (s.pair rd) hb hw hi
  refine ⟨t, ?_, hst⟩
  simp only [opSem, he, ht, Res.bind_ok]

end External

end Sys2Proof.Machine

namespace Sys2Proof.Proofs

open Sys2Proof.Machine

/-- Settles O36: the ends of the translation by `extTranslate_unmapped` and `extTranslate_loaded`; CEMA, LEM and SEM, at
the address it answers, by their effects and the frame of an instruction. -/
theorem externalAccesses : Obligations.ExternalAccesses := by
  constructor
  · intro s u psd la n psd2 hb hpres ho
    constructor
    · intro h0 h1
      exact extTranslate_unmapped hb hpres ho la (by rw [mapped_eq, h0, h1]; rfl)
    · intro hmode hload page e
      have hmapped : mapped psd2 = true := by rwa [mapped_eq, Bool.or_eq_true]
      have hend := extTranslate_loaded hb hpres ho (la := la) hmapped hload
      rw [pageField_eq] at hend
      exact ⟨fun hn => hend.trans (if_pos hn),
        fun hn hv => hend.trans ((if_neg (Nat.not_le.mpr hn)).trans (if_pos hv)),
        fun hn hv => hend.trans ((if_neg (Nat.not_le.mpr hn)).trans (if_neg (Nat.not_lt.mpr hv)))⟩
  · intro s rd rs rz pa u hq hm hp htr z w a n
    have hwidth : extWidth (s.reg rz) = w := extWidth_eq z
    have hbytes : w.bytes = n := by cases hw : w <;> simp only [n, hw] <;> rfl
    have he : extAddr rs rz (s.start .word) = .ok pa (s.start .word) :=
      extAddr_ok (s := s.start .word) hq.alone hm hp htr
    refine ⟨perform_setReg hq (onlyHalt_refl _) (opCema_ok he), fun hi ho => ?_, fun hi hwf => ?_⟩
    all_goals rw [← hbytes] at hi
    · obtain ⟨v, hv, hop⟩ : ∃ v, onlyHalt (s.start .word) v ∧
          opLem rd rs rz (s.start .word) = .ok () (lemPut rd (s.operandAt w a) v) := by
        have h := opLem_ok (rd := rd) he hq.alone ho (by rw [State.reg_start, hwidth]; exact hi)
        rwa [State.reg_start, hwidth] at h
      obtain ⟨t, ht, hregs, hend, hval⟩ := perform_lemPut hq hv hop
      refine ⟨t, ht, hregs, hend, ?_⟩
      cases hw : w <;> rw [hw] at hval <;> exact hval
    · obtain ⟨v, hop, hstored⟩ : ∃ v, opSem rd rs rz (s.start .word) = .ok () v ∧
          StoredAt w a (s.pair rd) (s.start .word) v := by
        have h := opSem_stored (rd := rd) he hq.alone hwf (by rw [State.reg_start, hwidth]; exact hi)
        rwa [State.reg_start, hwidth] at h
      obtain ⟨t, ht, hmem, hend, hcc, hwt, hval, hothers⟩ := perform_storedAt hq hop hstored
      refine ⟨t, ht, hmem, hend, hcc, hwt, ?_⟩
      cases hw : w with
      | byte => rw [hw] at hval hothers; exact ⟨hval.trans (bits_append_left _ _ (by decide)), hothers⟩
      | half =>
        rw [hw] at hval hothers
        exact ⟨hval.trans (congrArg _ (bits_append_left _ _ (by decide))), hothers⟩
      | word => rw [hw] at hval hothers; exact ⟨hval.trans (bits_pair_high s rd), hothers⟩
      | dword =>
        rw [hw] at hval hothers
        obtain ⟨hhigh, hlow⟩ := hval
        exact ⟨hhigh.trans (bits_pair_high s rd), hlow.trans (bits_pair_low s rd), hothers⟩

end Sys2Proof.Proofs
end

section
/-!
The word operations between registers (R283, R284, R289 to R292, R406, R411, R412, R417, R418): one register takes a
word that is reported on, or two take each other's; and the fields of the interregister format (R166), by which their
operation codes decode.
-/

namespace Sys2Proof.Machine

/-! ### The end of the instruction -/

/-- An instruction whose one result is a word in `r`, reported on. -/
theorem perform_putWord {len : Len} {op : State → Res Unit} {s : State} {r : Reg} {v : Word} (hq : s.quiet)
    (h : op (s.start len) = .ok () (putWord r v (s.start len))) :
    ∃ t, perform len op s = .next t ∧ onlyRegs s t ∧ Ended len s t ∧ wroteWord r v false s t := by
  obtain ⟨ht, hregs, hend⟩ := perform_regs_ended hq h rfl rfl rfl
  exact ⟨_, ht, hregs, hend, wroteWord_finish fun _ => rfl⟩

/-- What `exchange` leaves: where the two registers are one, the second value stands. -/
theorem exchange_reg (s : State) (rd rs : Reg) (a b : Word) (q : Reg) :
    (exchange rd rs a b s).reg q = if q = rs then b else if q = rd then a else s.reg q := by
  simp only [exchange, State.reg_setCC, State.reg_setReg]

/-- An instruction that gives `a` to `rd` and `b` to `rs` and reports on `b`. -/
theorem perform_exchange {len : Len} {op : State → Res Unit} {s : State} {rd rs : Reg} {a b : Word} (hq : s.quiet)
    (h : op (s.start len) = .ok () (exchange rd rs a b (s.start len))) :
    ∃ t, perform len op s = .next t ∧ onlyRegs s t ∧ Ended len s t ∧ t.reg rs = b ∧ (rs ≠ rd → t.reg rd = a) ∧
      (∀ q, q ≠ rd → q ≠ rs → t.reg q = s.reg q) ∧ signCC false b t.cc := by
  obtain ⟨ht, hregs, hend⟩ := perform_regs_ended hq h rfl rfl rfl
  refine ⟨_, ht, hregs, hend, ?_, fun hne => ?_, fun q hd hs => ?_, signCC_ccArith false b⟩
  · rw [finish_reg, exchange_reg, if_pos rfl]
  · rw [finish_reg, exchange_reg, if_neg hne.symm, if_pos rfl]
  · rw [finish_reg, exchange_reg, if_neg hs, if_neg hd, State.reg_start]

end Sys2Proof.Machine

namespace Sys2Proof

/-! ### The interregister format (R166) -/

theorem halfWord_toNat (op : BitVec 6) (rd rs : Reg) (aug : BitVec 4) :
    (halfWord op rd rs aug).toNat =
      op.toNat * 2 ^ 26 + rd.toNat * 2 ^ 23 + rs.toNat * 2 ^ 20 + aug.toNat * 2 ^ 16 := by
  unfold halfWord
  simp only [Machine.append_toNat, BitVec.ofNat_eq_ofNat, BitVec.toNat_ofNat]
  omega

section Fields

variable (op : BitVec 6) (rd rs : Reg) (aug : BitVec 4)

theorem opOf_halfWord : opOf (halfWord op rd rs aug) = op.toNat := by
  have h : opOf (halfWord op rd rs aug) = _ := Machine.bits_toNat (halfWord op rd rs aug) 0 6
  rw [h, halfWord_toNat]
  omega

theorem f6_halfWord : f6 (halfWord op rd rs aug) = rd :=
  Machine.bits_of_toNat (by rw [halfWord_toNat]; omega)

theorem f9_halfWord : f9 (halfWord op rd rs aug) = rs :=
  Machine.bits_of_toNat (by rw [halfWord_toNat]; omega)

theorem f12_halfWord : f12 (halfWord op rd rs aug) = aug :=
  Machine.bits_of_toNat (by rw [halfWord_toNat]; omega)

end Fields

/-! ### The operation codes -/

/-- A halfword of the table of R170: operation code and augmenting code, the register fields zero (R166). -/
def operationHalf (op : BitVec 6) (aug : BitVec 4) : Half := op ++ (0 : BitVec 6) ++ aug

/-- Putting the register numbers in: each bit of the halfword belongs to one field alone. -/
theorem operationHalf_registers (op : BitVec 6) (aug : BitVec 4) (rd rs : Reg) :
    operationHalf op aug ||| rd.setWidth 16 <<< 7 ||| rs.setWidth 16 <<< 4 = op ++ rd ++ rs ++ aug := by
  unfold operationHalf
  ext i hi
  grind

section Rows

variable (rd rs : Reg)

theorem decode_halfWord (op : BitVec 6) (aug : BitVec 4) :
    decode (halfWord op rd rs aug) = decodeOp op.toNat (halfWord op rd rs aug) := by
  rw [decode, opOf_halfWord]

/-- A row of the operation code map that has one form. -/
theorem decode_aug0_row {op : BitVec 6} {f : Reg → Reg → Instr}
    (h : ∀ w, decodeOp op.toNat w = aug0 w (f (f6 w) (f9 w))) : decode (halfWord op rd rs 0) = .ok (f rd rs) := by
  rw [decode_halfWord, h, aug0, f12_halfWord, f6_halfWord, f9_halfWord]
  rfl

/-- A row of the operation code map that has a plain and a masked form. -/
theorem decode_aug08_row {op : BitVec 6} {f g : Reg → Reg → Instr}
    (h : ∀ w, decodeOp op.toNat w = aug08 w (f (f6 w) (f9 w)) (g (f6 w) (f9 w))) :
    decode (halfWord op rd rs 0) = .ok (f rd rs) ∧ decode (halfWord op rd rs 8) = .ok (g rd rs) := by
  constructor <;> rw [decode_halfWord, h, aug08, f12_halfWord, f6_halfWord, f9_halfWord] <;> rfl

/-- Operation code 0x0B (R171): the transfers and exchanges by their augmenting codes. -/
theorem decode_transfer (aug : BitVec 4) (i : Instr)
    (h : (aug, i) ∈ [((0x0 : BitVec 4), Instr.trr rd rs), (0x3, .trc rd rs), (0x5, .xcr rd rs), (0x8, .trrm rd rs),
      (0xB, .trcm rd rs), (0xD, .xcrm rd rs)]) :
    decode (halfWord 0x0B rd rs aug) = .ok i := by
  have hrow : decode (halfWord 0x0B rd rs aug) = decode0B (halfWord 0x0B rd rs aug) := decode_halfWord rd rs 0x0B aug
  rw [hrow, decode0B, f12_halfWord, f6_halfWord, f9_halfWord]
  simp only [List.mem_cons, Prod.mk.injEq, List.not_mem_nil, or_false] at h
  rcases h with ⟨rfl, rfl⟩ | ⟨rfl, rfl⟩ | ⟨rfl, rfl⟩ | ⟨rfl, rfl⟩ | ⟨rfl, rfl⟩ | ⟨rfl, rfl⟩ <;> rfl

theorem decode_and : decode (halfWord 0x01 rd rs 0) = .ok (.anr rd rs) :=
  decode_aug0_row rd rs fun _ => rfl

theorem decode_or :
    decode (halfWord 0x02 rd rs 0) = .ok (.orr rd rs) ∧ decode (halfWord 0x02 rd rs 8) = .ok (.orrm rd rs) :=
  decode_aug08_row rd rs fun _ => rfl

/-- The plain exclusive OR of a register with itself is ZR (R192, R269). -/
theorem decode_exclusiveOr :
    decode (halfWord 0x03 rd rs 0) = .ok (if rd = rs then .zr rd else .eor rd rs) ∧
      decode (halfWord 0x03 rd rs 8) = .ok (.eorm rd rs) :=
  decode_aug08_row rd rs (f := fun rd rs => if rd = rs then .zr rd else .eor rd rs) fun _ => rfl

end Rows

/-- An image written as a halfword of the table with the register numbers put in decodes as its fields say. -/
theorem decode_operationHalf {rd rs : Reg} {h : Half} {x : Except DecodeError Instr} (op : BitVec 6) (aug : BitVec 4)
    (hh : h = operationHalf op aug) (hx : decode (halfWord op rd rs aug) = x) :
    decode ((h ||| rd.setWidth 16 <<< 7 ||| rs.setWidth 16 <<< 4) ++ (0 : Half)) = x := by
  rw [hh, operationHalf_registers]
  exact hx

end Sys2Proof

namespace Sys2Proof.Proofs

open Sys2Proof.Machine

/-- Settles O18: the nine that put one word by `perform_putWord`, the two exchanges by `perform_exchange`, and the
operation codes by `decode_operationHalf` and the rows of the decoder. -/
theorem registerWordOps : Obligations.RegisterWordOps := by
  refine ⟨?puts, ?exchanges, ?codes⟩
  case puts =>
    intro s rd rs hq a b k p hp
    simp only [List.mem_cons, List.not_mem_nil, or_false] at hp
    rcases hp with rfl | rfl | rfl | rfl | rfl | rfl | rfl | rfl | rfl
    · exact perform_putWord (op := opTrr rd rs) hq rfl
    · exact perform_putWord (op := opTrrm rd rs) hq rfl
    · exact perform_putWord (op := opTrc rd rs) hq rfl
    · exact perform_putWord (op := opTrcm rd rs) hq rfl
    · exact perform_putWord (op := opAnr rd rs) hq rfl
    · exact perform_putWord (op := opOrr rd rs) hq rfl
    · exact perform_putWord (op := opOrrm rd rs) hq rfl
    · exact perform_putWord (op := opEor rd rs) hq rfl
    · exact perform_putWord (op := opEorm rd rs) hq rfl
  case exchanges =>
    intro s rd rs hq p hp
    simp only [List.mem_cons, List.not_mem_nil, or_false] at hp
    rcases hp with rfl | rfl
    · exact perform_exchange (op := opXcr rd rs) hq rfl
    · exact perform_exchange (op := opXcrm rd rs) hq rfl
  case codes =>
    intro rd rs word
    refine ⟨fun p hp => ?_, decode_operationHalf 0x03 0x0 rfl (decode_exclusiveOr rd rs).1⟩
    simp only [List.mem_cons, List.not_mem_nil, or_false] at hp
    rcases hp with rfl | rfl | rfl | rfl | rfl | rfl | rfl | rfl | rfl | rfl
    · exact decode_operationHalf 0x0B 0x0 rfl (decode_transfer rd rs _ _ (by simp))
    · exact decode_operationHalf 0x0B 0x8 rfl (decode_transfer rd rs _ _ (by simp))
    · exact decode_operationHalf 0x0B 0x3 rfl (decode_transfer rd rs _ _ (by simp))
    · exact decode_operationHalf 0x0B 0xB rfl (decode_transfer rd rs _ _ (by simp))
    · exact decode_operationHalf 0x0B 0x5 rfl (decode_transfer rd rs _ _ (by simp))
    · exact decode_operationHalf 0x0B 0xD rfl (decode_transfer rd rs _ _ (by simp))
    · exact decode_operationHalf 0x01 0x0 rfl (decode_and rd rs)
    · exact decode_operationHalf 0x02 0x0 rfl (decode_or rd rs).1
    · exact decode_operationHalf 0x02 0x8 rfl (decode_or rd rs).2
    · exact decode_operationHalf 0x03 0x8 rfl (decode_exclusiveOr rd rs).2

end Sys2Proof.Proofs
end

section
/-!
The transfers between general and special registers (R281, R282, R285, R286, R293, R310, R311): each writes one
register and leaves the rest of the machine alone but for what every instruction changes.
-/

namespace Sys2Proof.Machine

section Privileged

variable {s : State} (hp : s.priv = true)
include hp

theorem opTscr_ok (rd rs : Reg) : opTscr rd rs s = .ok () (s.setReg rd (s.cell (cellAddr (s.reg rs)))) := by
  rw [opTscr, requirePriv_ok hp, Res.bind_ok]

theorem opTrsc_ok (rd rs : Reg) : opTrsc rd rs s = .ok () (s.setCell (cellAddr (s.reg rd)) (s.reg rs)) := by
  rw [opTrsc, requirePriv_ok hp, Res.bind_ok]

theorem opTrp_ok (p : BitVec 4) (r : Reg) : opTrp p r s = .ok () (s.setProtReg p (bits (s.reg r) 16 16)) := by
  rw [opTrp, requirePriv_ok hp, Res.bind_ok]

end Privileged

/-- The end of a branch: the effect has put `p` in the pc and left the BIx interlock alone. -/
theorem finish_turned {len : Len} {p : HAddr} {s u : State} (hp : u.pc = p) (hl : u.lastBix = false)
    (hc : u.blockCount = s.blockCount) : Turned len p s (finish len s u) :=
  ⟨hp, rfl, hl, by simp only [finish, hc]⟩

end Sys2Proof.Machine

namespace Sys2Proof.Proofs

open Sys2Proof.Machine

/-- Settles O34: the transfers to a general register by `perform_setReg`, the others by the one register they write
and the frame of an instruction. -/
theorem specialTransfers : Obligations.SpecialTransfers := by
  intro s rd rs p hq
  refine ⟨fun hp => ?tscr, fun hp => ?trsc, fun hp => ?trp, ?tpr, ?trsw, ?sea, ?cea⟩
  case tscr => exact perform_setReg hq (onlyHalt_refl _) (opTscr_ok (s := s.start .half) hp rd rs)
  case trsc =>
    obtain ⟨ht, hend⟩ := perform_done_ended hq (opTrsc_ok (s := s.start .half) hp rd rs) rfl rfl rfl rfl rfl rfl rfl
    exact ⟨_, ht, hend, rfl, (State.cell_setCell _ _ _ _).trans (if_pos rfl),
      fun c hc => (State.cell_setCell _ _ _ _).trans (if_neg hc)⟩
  case trp =>
    obtain ⟨ht, hend⟩ := perform_done_ended hq (opTrp_ok (s := s.start .half) hp p rs) rfl rfl rfl rfl rfl rfl rfl
    exact ⟨_, ht, hend, rfl, (State.protReg_setProtReg _ _ _ _).trans (if_pos rfl),
      fun q hne => (State.protReg_setProtReg _ _ _ _).trans (if_neg hne)⟩
  case tpr => exact perform_setReg (op := opTpr p rs) hq (onlyHalt_refl _) rfl
  case trsw =>
    have ht := perform_done (len := .half) (op := opTrsw rs) hq rfl rfl rfl rfl rfl rfl
    exact ⟨_, ht, finish_turned rfl rfl rfl, rfl⟩
  case sea =>
    obtain ⟨ht, hend⟩ := perform_done_ended (len := .half) (op := opSea) hq rfl rfl rfl rfl rfl rfl rfl rfl
    exact ⟨_, ht, hend, rfl⟩
  case cea =>
    obtain ⟨ht, hend⟩ := perform_done_ended (len := .half) (op := opCea) hq rfl rfl rfl rfl rfl rfl rfl rfl
    exact ⟨_, ht, hend, rfl⟩

end Sys2Proof.Proofs
end

section
/-!
Writable Control Storage (R325 to R330): WWCS and RWCS move a location to and from two memory words, whose addresses
never meet in real memory; JWCS leaves what its routine's reply says.
-/

namespace Sys2Proof.Machine

/-! ### The addresses of the two words -/

/-- The size of the space that the memory address is in: 19 bits or, in extended mode, 24 (R326, decision D36). -/
def wcsSpace (ext : Bool) : Nat := if ext then 2 ^ 24 else 2 ^ 19

theorem wcsAddr_toNat (ext : Bool) (w : Word) : (wcsAddr ext w).toNat = w.toNat % wcsSpace ext / 4 * 4 := by
  cases ext with
  | true =>
    have haddr : (addrOf w).toNat = w.toNat / 2 ^ 0 % 2 ^ 24 := bits_toNat w 8 24
    rw [wcsAddr, if_pos rfl, wordAlign_toNat, haddr, wcsSpace, if_pos rfl]
    omega
  | false =>
    have hfield : (bits w 13 17).toNat = w.toNat / 2 ^ 2 % 2 ^ 17 := bits_toNat w 13 17
    have h0 (n : Nat) : (0 : BitVec n).toNat = 0 := BitVec.toNat_zero
    rw [wcsAddr, if_neg Bool.false_ne_true, wcsSpace, if_neg Bool.false_ne_true, append_toNat, append_toNat, hfield,
      h0, h0]
    omega

theorem wcsNext_toNat {ext : Bool} {m : Addr} (h : m.toNat < wcsSpace ext) :
    (wcsNext ext m).toNat = (m.toNat + 4) % wcsSpace ext := by
  cases ext with
  | true =>
    have h4 : (4 : Addr).toNat = 4 := rfl
    rw [wcsNext, if_pos rfl, wcsSpace, if_pos rfl, BitVec.toNat_add, h4]
  | false =>
    have hfield : (bits m 5 19).toNat = m.toNat / 2 ^ 0 % 2 ^ 19 := bits_toNat m 5 19
    have h4 : (4 : BitVec 19).toNat = 4 := rfl
    have h0 : (0 : BitVec 5).toNat = 0 := rfl
    rw [wcsNext, if_neg Bool.false_ne_true, wcsSpace, if_neg Bool.false_ne_true, append_toNat, BitVec.toNat_add,
      hfield, h4, h0]
    omega

theorem wcsAddr_lt (ext : Bool) (w : Word) : (wcsAddr ext w).toNat < wcsSpace ext := by
  have : w.toNat % wcsSpace ext < wcsSpace ext := Nat.mod_lt _ (by cases ext <;> decide)
  rw [wcsAddr_toNat]
  omega

theorem wcsAddr_eq (ext : Bool) (w : Word) : wcsAddr ext w = BitVec.ofNat 24 (w.toNat % wcsSpace ext / 4 * 4) := by
  rw [← wcsAddr_toNat, BitVec.ofNat_toNat, BitVec.setWidth_eq]

theorem wcsNext_eq (ext : Bool) (w : Word) :
    wcsNext ext (wcsAddr ext w) = BitVec.ofNat 24 ((w.toNat % wcsSpace ext / 4 * 4 + 4) % wcsSpace ext) := by
  rw [← wcsAddr_toNat, ← wcsNext_toNat (wcsAddr_lt ext w), BitVec.ofNat_toNat, BitVec.setWidth_eq]

/-- The two words do not overlap in real memory: a page is larger, and translation keeps the place in it (R115). -/
theorem wcsWords_apart {s : State} {k : Access} {b : Bool} {w : Word} {pa pb : Addr} (ext : Bool)
    (ha : s.translate k b (wcsAddr ext w) = .ok pa) (hb : s.translate k b (wcsNext ext (wcsAddr ext w)) = .ok pb) :
    pa.toNat + 4 ≤ pb.toNat ∨ pb.toNat + 4 ≤ pa.toNat := by
  have hpa := translate_offset ha
  have hpb := translate_offset hb
  have hnext := wcsNext_toNat (wcsAddr_lt ext w)
  have haddr := wcsAddr_toNat ext w
  cases ext <;> simp only [wcsSpace, if_true, Bool.false_eq_true, if_false] at hnext haddr <;> omega

/-! ### The two accesses -/

/-- A read before which no other agent stores, and that meets no error (R110, R842). -/
theorem memRead_alone {k : Access} {a pa : Addr} {n : Size} {s : State} (hb : s.between = [])
    (ht : s.translate k false a = .ok pa) (hp : s.present pa n = true) (ho : s.operandParity = false) :
    ∃ t, memRead k a n s = .ok (s.peek pa.toNat n) t ∧ onlyHalt s t := by
  rw [memRead_eq ht hp ho, interleave_alone hb]
  exact ⟨_, rfl, onlyHalt_askHalt s _⟩

/-- A permitted store to installed memory, before which no other agent stores (R111, R842). -/
theorem memWrite_poked {a pa : Addr} {n : Size} {s : State} (x : Word) (hb : s.between = [])
    (h : storesTo s a n pa) : ∃ t, memWrite a n x s = .ok () t ∧ Poked pa.toNat n x s t := by
  rw [memWrite_permitted n x h.real h.permitted]
  exact operandWrite_poked x hb h.present

theorem onlyHalt_translate {s t : State} (h : onlyHalt s t) (k : Access) (b : Bool) (a : Addr) :
    t.translate k b a = s.translate k b a := by
  unfold onlyHalt at h; rw [h]; rfl

/-- `onlyHalt` as a state written out, for a proof that replaces `t` by it. -/
theorem exists_haltReq {s t : State} (h : onlyHalt s t) : ∃ r, t = { s with haltReq := r } := ⟨t.haltReq, h⟩

theorem onlyStored_ext {s t : State} (h : onlyStored s t) : t.ext = s.ext := by
  unfold onlyStored at h; rw [h]

theorem storesTo_of_onlyStored {s t : State} {a pa : Addr} {n : Size} (hs : onlyStored s t) (h : storesTo s a n pa) :
    storesTo t a n pa where
  real := (onlyStored_translate hs _ _ _).trans h.real
  permitted := onlyStored_permitted hs h.permitted
  present := (onlyStored_present hs _ _).trans h.present

theorem wcsAvailable_of_lt {s : State} {a : Word} (h : a.toNat ≤ 4095) (h' : a.toNat < s.cfg.wcsWords) :
    s.wcsAvailable a = true := by
  simp only [State.wcsAvailable, Bool.and_eq_true, decide_eq_true_eq]
  omega

theorem wcsAt_setWcs (s : State) (a : Nat) (v : Dword) (b : Nat) (h : Sparse.wf (0 : Dword) s.wcs = true) :
    (s.setWcs a v).wcsAt b = if b = a then v else s.wcsAt b := Sparse.get_set 0 v h

/-! ### WWCS and RWCS -/

/-- WWCS on an installed location, both words readable: the location alone is written (R326). -/
theorem opWwcs_ok {s : State} {rd rs : Reg} {pa pb : Addr} (hb : s.between = []) (hp : s.priv = true)
    (hw : s.wcsAvailable (s.reg rd) = true) (ho : s.operandParity = false)
    (hta : s.translate .operand false (wcsAddr s.ext (s.reg rs)) = .ok pa)
    (htb : s.translate .operand false (wcsNext s.ext (wcsAddr s.ext (s.reg rs))) = .ok pb)
    (hpa : s.present pa .word = true) (hpb : s.present pb .word = true) :
    ∃ u, onlyHalt s u ∧ opWwcs rd rs s = .ok ()
      ((u.setWcs (s.reg rd).toNat (s.peek pa.toNat .word ++ s.peek pb.toNat .word)).setCC
        ⟨false, false, false, false⟩) := by
  obtain ⟨t, ht, hst⟩ := memRead_alone hb hta hpa ho
  obtain ⟨u, hu, htu⟩ := memRead_alone (s := t) ((onlyHalt_between hst).trans hb)
    ((onlyHalt_translate hst _ _ _).trans htb) ((onlyHalt_installed hst _ _).trans hpb)
    ((onlyHalt_operandParity hst).trans ho)
  refine ⟨u, onlyHalt_trans hst htu, ?_⟩
  rw [onlyHalt_peek hst] at hu
  simp only [opWwcs, requirePriv_ok hp, hw, ht, onlyHalt_ext hst, hu, Res.bind_ok, Bool.not_true, Bool.false_eq_true,
    if_false]

/-- RWCS on an installed location, both stores permitted: the two words are stored one after the other (R327). -/
theorem opRwcs_ok {s : State} {rd rs : Reg} {pa pb : Addr} (hb : s.between = []) (hp : s.priv = true)
    (hw : s.wcsAvailable (s.reg rs) = true) (hsa : storesTo s (wcsAddr s.ext (s.reg rd)) .word pa)
    (hsb : storesTo s (wcsNext s.ext (wcsAddr s.ext (s.reg rd))) .word pb) :
    ∃ t u, Poked pa.toNat .word (bits (s.wcsAt (s.reg rs).toNat) 0 32) s t ∧
      Poked pb.toNat .word (bits (s.wcsAt (s.reg rs).toNat) 32 32) t u ∧
      opRwcs rd rs s = .ok () (u.setCC ⟨false, false, false, false⟩) := by
  obtain ⟨t, ht, hst⟩ := memWrite_poked (bits (s.wcsAt (s.reg rs).toNat) 0 32) hb hsa
  obtain ⟨u, hu, htu⟩ := memWrite_poked (bits (s.wcsAt (s.reg rs).toNat) 32 32)
    ((onlyStored_between hst.frame).trans hb) (storesTo_of_onlyStored hst.frame hsb)
  refine ⟨t, u, hst, htu, ?_⟩
  simp only [opRwcs, requirePriv_ok hp, hw, ht, onlyStored_ext hst.frame, hu, Res.bind_ok, Bool.not_true,
    Bool.false_eq_true, if_false]

/-- The words of `v` stored at places that do not overlap: both are read back, and the other bytes are as they were. -/
theorem peek_of_poked_apart {a b : Nat} {v : Dword} {s t u : State} (hw : Memory.wf s.mem = true)
    (hst : Poked a .word (bits v 0 32) s t) (htu : Poked b .word (bits v 32 32) t u)
    (hab : a + 4 ≤ b ∨ b + 4 ≤ a) :
    u.peek a .word ++ u.peek b .word = v ∧
      ∀ k, (k < a ∨ a + 4 ≤ k) → (k < b ∨ b + 4 ≤ k) → u.byte k = s.byte k := by
  have hhigh : u.peek a .word = bits v 0 32 := (htu.peek_word_ne hab).trans (hst.peek_word hw)
  have hlow : u.peek b .word = bits v 32 32 := htu.peek_word (hst.wf hw)
  rw [hhigh, hlow]
  exact ⟨State.bits_append v, fun k ha hb => (htu.others k hb).trans (hst.others k ha)⟩

/-! ### JWCS -/

/-- The entry point: the low six bits of the effective address (R330). -/
theorem wcsEntry_eq (a : Addr) : bits a 18 6 = BitVec.ofNat 6 a.toNat := by
  have hfield : (bits a 18 6).toNat = a.toNat / 2 ^ 0 % 2 ^ 6 := bits_toNat a 18 6
  apply BitVec.eq_of_toNat_eq
  rw [hfield, BitVec.toNat_ofNat]
  omega

/-- The stores of a reply change memory alone (log 42), so the frame of the routine is the reply's fields. -/
theorem wcsRoutine_cons {s : State} {r : WcsReply} {rest : List WcsReply} (h : s.wcsReplies = r :: rest) :
    wcsRoutine s = { s with
      mem := (storeAll r.stores s).mem, regs := r.regs, cc := r.cc, wcsReplies := rest } := by
  have hs : wcsRoutine s = { storeAll r.stores s with regs := r.regs, cc := r.cc, wcsReplies := rest } := by
    rw [wcsRoutine, h]
  rw [hs, (storeAll_spec r.stores s).1]

section Jump

variable {m : MemRef} {x : Target} {s u : State} (hw : s.cfg.wcsWords ≠ 0) (hres : resolve .operand m s = .ok x u)
include hw hres

theorem opJwcs_ok : opJwcs m s = .ok () (wcsRoutine (u.send (.wcs (BitVec.ofNat 6 x.ea.addr.toNat)))) := by
  rw [opJwcs, if_neg hw, hres, Res.bind_ok, wcsEntry_eq]

theorem opJwcs_noReply (h : u.wcsReplies = []) :
    opJwcs m s = .ok () (u.send (.wcs (BitVec.ofNat 6 x.ea.addr.toNat))) := by
  rw [opJwcs_ok hw hres, wcsRoutine, State.send_wcsReplies, h]

theorem opJwcs_reply {r : WcsReply} {rest : List WcsReply} (h : u.wcsReplies = r :: rest) :
    let v := u.send (.wcs (BitVec.ofNat 6 x.ea.addr.toNat))
    opJwcs m s =
      .ok () { v with mem := (storeAll r.stores v).mem, regs := r.regs, cc := r.cc, wcsReplies := rest } := by
  rw [opJwcs_ok hw hres, wcsRoutine_cons ((State.send_wcsReplies _ _).trans h)]

end Jump

end Sys2Proof.Machine

namespace Sys2Proof.Proofs

open Sys2Proof.Machine

/-- Settles O37: WWCS and RWCS by their effects at the addresses that `wcsAddr_eq` and `wcsNext_eq` give, JWCS by its
routine's reply. -/
theorem controlStore : Obligations.ControlStore := by
  refine ⟨?moves, ?jump⟩
  case moves =>
    intro s rd rs pa pb hq hp hwcs space at24 after4
    have hat (w : Word) : at24 w = wcsAddr s.ext w := (wcsAddr_eq s.ext w).symm
    have hafter (w : Word) : after4 w = wcsNext s.ext (wcsAddr s.ext w) := (wcsNext_eq s.ext w).symm
    simp only [hat, hafter]
    refine ⟨fun hle hlt ho hta htb hpa hpb => ?wwcs, fun hle hlt hwf hsa hsb => ?rwcs⟩
    case wwcs =>
      obtain ⟨u, hu, hop⟩ := opWwcs_ok (s := s.start .half) hq.alone hp (wcsAvailable_of_lt hle hlt) ho
        hta htb hpa hpb
      obtain ⟨h, rfl⟩ := exists_haltReq hu
      obtain ⟨ht, hend⟩ := perform_done_ended hq hop rfl rfl rfl rfl rfl rfl rfl
      exact ⟨_, ht, hend, rfl, (wcsAt_setWcs _ _ _ _ hwcs).trans (if_pos rfl),
        fun a ha => (wcsAt_setWcs _ _ _ _ hwcs).trans (if_neg ha)⟩
    case rwcs =>
      obtain ⟨t, u, hst, htu, hop⟩ := opRwcs_ok (s := s.start .half) hq.alone hp (wcsAvailable_of_lt hle hlt)
        ⟨hsa.real, hsa.permitted, hsa.present⟩ ⟨hsb.real, hsb.permitted, hsb.present⟩
      have hframe := onlyStored_trans hst.frame htu.frame
      obtain ⟨hval, hothers⟩ := peek_of_poked_apart (s := s.start .half) hwf hst htu
        (wcsWords_apart s.ext hsa.real hsb.real)
      obtain ⟨ht, hmem, hend⟩ := perform_mem_ended hq hop
        (effectMem_trans (effectMem_of_onlyStored hframe) rfl) (onlyStored_pc hframe) (onlyStored_lastBix hframe)
      exact ⟨_, ht, hmem, hend, rfl, hval, hothers⟩
  case jump =>
    intro s m x u hq hw hres entry
    obtain ⟨h, rfl⟩ := exists_haltReq (resolve_onlyHalt (s := s.start .word) hq.alone hres)
    refine ⟨fun hnil => ?_, fun regs cc stores rest hcons hwf => ?_⟩
    · obtain ⟨ht, hend⟩ := perform_done_ended hq (opJwcs_noReply (s := s.start .word) hw hres hnil)
        rfl rfl rfl rfl rfl rfl rfl
      exact ⟨_, ht, hend, rfl⟩
    · obtain ⟨ht, hend⟩ := perform_done_ended hq (opJwcs_reply (s := s.start .word) hw hres hcons)
        rfl rfl rfl rfl rfl rfl rfl
      exact ⟨_, ht, hend, (storeAll_spec stores _).2 hwf, rfl, byte_storeAll_eq hwf⟩

end Sys2Proof.Proofs
end

section
/-!
The branches (R341 to R346). Each but BL is one conditional branch with its own condition; a branch taken ends with the
pc at the branch address and the condition codes that its chain leaves, one not taken as a NOP does.
-/

namespace Sys2Proof.Machine

/-! ### Where a branch goes -/

/-- The condition codes after a branch to `x`: those of the last indirect word where there is one (R341). -/
def Target.ccAfter (x : Target) (c : CC) : CC := x.last.elim c ccOf

theorem branchTo_eq (x : Target) (s : State) :
    branchTo x s = { s with pc := branchPc x.ea, cc := x.ccAfter s.cc } := by
  obtain ⟨ea, last, i⟩ := x
  cases last <;> rfl

/-- Bits 13 to 30 of a word are the halfword address of its 24-bit byte address, modulo 512 KB (R103). -/
theorem branchPc_eq (e : EA) : branchPc e = BitVec.ofNat 18 (e.addr.toNat / 2) := by
  have hfield : (bits e.addr 5 18).toNat = e.addr.toNat / 2 ^ 1 % 2 ^ 18 := bits_toNat e.addr 5 18
  apply BitVec.eq_of_toNat_eq
  rw [branchPc, hfield, BitVec.toNat_ofNat, pow_one]

theorem branch_ok {m : MemRef} {x : Target} {s u : State} (h : resolve .branch m s = .ok x u) :
    branch m s = .ok () { u with pc := branchPc x.ea, cc := x.ccAfter u.cc } := by
  rw [branch, h, Res.bind_ok, branchTo_eq]

theorem opBl_ok {m : MemRef} {x : Target} {s u : State} (h : resolve .branch m s = .ok x u) :
    opBl m s =
      .ok () ({ u with pc := branchPc x.ea, cc := x.ccAfter u.cc }.setReg 0 s.storedPsd1) := by
  rw [opBl, branch_ok h, Res.bind_ok]

/-! ### The conditions -/

/-- The bit of R4 that BFT tests, by the number of the condition codes (R345, N33). -/
theorem functionBit_eq (mask : Word) (c : CC) :
    functionBit mask c =
      mask.getLsbD (15 - (8 * c.cc1.toNat + 4 * c.cc2.toNat + 2 * c.cc3.toNat + c.cc4.toNat)) := by
  rw [functionBit, bitAt, CC.index, CC.toBits_toNat]
  congr 1
  omega

theorem perform_congr {len : Len} {op op' : State → Res Unit} {s : State} (h : op (s.start len) = op' (s.start len)) :
    perform len op s = perform len op' s := by
  rw [perform, perform, h]

/-- BFT's condition is read in the state before the instruction (R345). -/
theorem execBft_eq (m : MemRef) (s : State) :
    execBft m s = perform .word (branchIf (functionBit s.mask s.cc) m) s := perform_congr rfl

/-- So are those of BCT and BCF (R343, R344). -/
theorem execBct_eq (d : BitVec 3) (m : MemRef) (s : State) :
    execBct d m s = perform .word (branchIf (condTrue d s.cc) m) s := perform_congr rfl

theorem execBcf_eq (d : BitVec 3) (m : MemRef) (s : State) :
    execBcf d m s = perform .word (branchIf (!condTrue d s.cc) m) s := perform_congr rfl

/-! ### Taken, not taken, and with the link -/

/-- A branch not taken follows no chain and changes nothing (R341, decision D37). -/
theorem perform_branchIf_false {m : MemRef} {s : State} (hq : s.quiet) :
    ∃ t, perform .word (branchIf false m) s = .next t ∧ Ended .word s t ∧ t = s.endedAs t := by
  obtain ⟨ht, hend⟩ := perform_done_ended (len := .word) (op := branchIf false m) hq rfl rfl rfl rfl rfl rfl rfl rfl
  exact ⟨_, ht, hend, rfl⟩

section Taken

variable {m : MemRef} {x : Target} {s u : State} (hq : s.quiet) (hres : resolve .branch m (s.start .word) = .ok x u)
include hq hres

theorem perform_branchIf_true :
    ∃ t, perform .word (branchIf true m) s = .next t ∧ Turned .word (branchPc x.ea) s t ∧
      t = { s.endedAs t with cc := x.ccAfter s.cc } := by
  obtain ⟨h, rfl⟩ := exists_haltReq (resolve_onlyHalt (s := s.start .word) hq.alone hres)
  have ht := perform_done (op := branchIf true m) hq (branch_ok hres) rfl rfl rfl rfl rfl
  exact ⟨_, ht, finish_turned rfl rfl rfl, rfl⟩

/-- The link is the PSD1 that the instruction would have stored, the pc past it (R346, log 10). -/
theorem perform_opBl :
    ∃ t, perform .word (opBl m) s = .next t ∧ Turned .word (branchPc x.ea) s t ∧
      t = { s.endedAs t with cc := x.ccAfter s.cc, regs := t.regs } ∧ regsBut 0 s t ∧
      t.reg 0 = (s.start .word).storedPsd1 := by
  obtain ⟨h, rfl⟩ := exists_haltReq (resolve_onlyHalt (s := s.start .word) hq.alone hres)
  exact ⟨_, perform_done hq (opBl_ok hres) rfl rfl rfl rfl rfl, finish_turned rfl rfl rfl, rfl,
    fun q hne => (State.reg_setReg _ _ _ q).trans (if_neg hne), State.reg_setReg_same _ _ _⟩

end Taken

/-- The stored PSD1 bit by bit, the condition codes one after the other. -/
theorem storedPsd1_eq (s : State) :
    s.storedPsd1 = BitVec.ofBool s.priv ++ BitVec.ofBool s.cc.cc1 ++ BitVec.ofBool s.cc.cc2 ++ BitVec.ofBool s.cc.cc3 ++
      BitVec.ofBool s.cc.cc4 ++ BitVec.ofBool s.ext ++ BitVec.ofBool s.hist ++ BitVec.ofBool s.aexp ++
      (0 : BitVec 5) ++ s.pc ++ (0 : BitVec 1) := by
  apply BitVec.eq_of_toNat_eq
  rw [storedPsd1_toNat, CC.toBits_toNat]
  simp only [append_toNat, BitVec.toNat_ofBool, BitVec.ofNat_eq_ofNat, BitVec.toNat_ofNat]
  omega

end Sys2Proof.Machine

namespace Sys2Proof.Proofs

open Sys2Proof.Machine

/-- Settles O32: each conditional form is `branchIf` of its condition, read before the instruction; BL by its link. -/
theorem branches : Obligations.Branches := by
  intro s m hq c index conds forms
  have hconds : ∀ d ∈ conds, condTrue d.1 c = d.2 := by
    simp only [conds, List.forall_mem_cons, List.not_mem_nil, false_imp_iff, implies_true, and_true]
    and_intros <;> rfl
  have hform : ∀ p ∈ forms, exec p.1 s = perform .word (branchIf p.2 m) s := by
    simp only [forms, List.forall_mem_append, List.forall_mem_map, List.forall_mem_cons, List.not_mem_nil,
      false_imp_iff, implies_true, and_true]
    refine ⟨⟨⟨rfl, ?bft⟩, fun d hd => ?bct⟩, fun d hd => ?bcf⟩
    case bft => exact (execBft_eq m s).trans (by rw [functionBit_eq]; rfl)
    case bct => exact (execBct_eq d.1 m s).trans (by rw [hconds d hd])
    case bcf => exact (execBcf_eq d.1 m s).trans (by rw [hconds d hd])
  refine ⟨fun p hp hcond => ?idle, fun x u hres => ?_⟩
  case idle =>
    rw [hform p hp, hcond]
    exact perform_branchIf_false hq
  intro target cc
  have htarget : branchPc x.ea = target := branchPc_eq x.ea
  have hcc : x.ccAfter s.cc = cc := by simp only [cc, Target.ccAfter]; cases x.last <;> rfl
  rw [← htarget, ← hcc]
  refine ⟨fun p hp hcond => ?taken, ?link⟩
  case taken =>
    rw [hform p hp, hcond]
    exact perform_branchIf_true hq hres
  case link =>
    have h := perform_opBl hq hres
    rw [storedPsd1_eq] at h
    exact h

end Sys2Proof.Proofs
end

section
/-!
A halt that the panel, a step or an address stop has asked for (R841, R842, R845) is never withdrawn by an instruction:
an operand access may turn it into the halt of an address stop, and nothing else writes it, in a trap entry as little
as in an effect. `KeepsHalt` says so of each piece of an instruction and is closed under `Res.bind`.
-/

namespace Sys2Proof.Machine

/-! ### The rule, and how it passes through an instruction -/

/-- What asks for a halt in `s` still does in `t`, or an address stop does instead. -/
def haltStands (s t : State) : Prop := t.haltReq = s.haltReq ∨ t.haltReq = .stop

theorem haltStands.refl (s : State) : haltStands s s := .inl rfl

theorem haltStands.trans {s t u : State} (h : haltStands s t) (h' : haltStands t u) : haltStands s u :=
  h'.elim (fun e => h.imp e.trans e.trans) .inr

theorem haltStands.congr {s t u : State} (h : haltStands s t) (e : u.haltReq = t.haltReq) : haltStands s u :=
  h.trans (.inl e)

theorem haltStands.ne_none {s t : State} (h : haltStands s t) (hs : s.haltReq ≠ .none) : t.haltReq ≠ .none := by
  rcases h with h | h <;> rw [h]
  · exact hs
  · decide

theorem haltStands.eq_stop {s t : State} (h : haltStands s t) (hs : s.haltReq = .stop) : t.haltReq = .stop :=
  h.elim (·.trans hs) id

/-- A halt asked for stands while `x` runs in `s`, whether it completes or stops. -/
def KeepsHalt {α : Type} (s : State) (x : Res α) : Prop := haltStands s x.state

section Rules

variable {α β : Type} {s t : State} {x : Res α} {f : α → State → Res β}

/-- A piece that writes other fields alone. -/
theorem KeepsHalt.of (h : x.state.haltReq = s.haltReq) : KeepsHalt s x := .inl h

/-- A piece that begins after such a write. -/
theorem KeepsHalt.after (h : t.haltReq = s.haltReq) (hx : KeepsHalt t x) : KeepsHalt s x := haltStands.trans (.inl h) hx

theorem KeepsHalt.bind (hx : KeepsHalt s x) (hf : ∀ v t, KeepsHalt t (f v t)) : KeepsHalt s (x.bind f) := by
  cases x with
  | stop e t => exact hx
  | ok v t => exact haltStands.trans hx (hf v t)

end Rules

section Pieces

variable {s : State}

/-! ### The checks that come first and the exception that comes last -/

theorem arithCheck_keepsHalt {u : State} (h : u.haltReq = s.haltReq) : KeepsHalt s (arithCheck u) := by
  unfold arithCheck
  split <;> exact .of h

theorem requirePsd_keepsHalt : KeepsHalt s (requirePsd s) := by
  unfold requirePsd
  split <;> exact .of rfl

theorem requirePriv_keepsHalt : KeepsHalt s (requirePriv s) := by
  unfold requirePriv
  split <;> exact .of rfl

theorem requireUnmapped_keepsHalt : KeepsHalt s (requireUnmapped s) := by
  unfold requireUnmapped
  split <;> exact .of rfl

theorem requireJumper_keepsHalt : KeepsHalt s (requireJumper s) := by
  unfold requireJumper
  split <;> exact .of rfl

/-- The checks of a privileged PSD mode instruction, then anything that keeps the rule. -/
theorem psdPriv_keepsHalt {α : Type} {f : Unit → State → Res α} (hf : ∀ v t, KeepsHalt t (f v t)) :
    KeepsHalt s ((requirePsd s).bind fun _ u => (requirePriv u).bind f) :=
  requirePsd_keepsHalt.bind fun _ _ => requirePriv_keepsHalt.bind hf

/-! ### Accesses to memory -/

theorem interleave_haltReq (s : State) : s.interleave.haltReq = s.haltReq := by rw [(interleave_spec s).1]

theorem poke_haltReq (s : State) (a : Nat) (n : Size) (v : Word) : (s.poke a n v).haltReq = s.haltReq := by rw [poke_eq]

theorem askHalt_keepsHalt {α : Type} (v : α) (b : Bool) : KeepsHalt s (.ok v (s.askHalt b)) := by
  cases b
  · exact .inl rfl
  · exact .inr rfl

theorem physRead_keepsHalt {err : MemErr → Trap} {pa : Addr} {n : Size} : KeepsHalt s (physRead err pa n s) := by
  unfold physRead readNow
  split
  · exact .of (interleave_haltReq s)
  · split <;> exact .of (interleave_haltReq s)

theorem physWrite_keepsHalt {err : MemErr → Trap} {pa : Addr} {n : Size} {v : Word} :
    KeepsHalt s (physWrite err pa n v s) := by
  unfold physWrite writeNow
  split
  · exact .of ((poke_haltReq _ _ _ _).trans (interleave_haltReq s))
  · exact .of (interleave_haltReq s)

theorem operandRead_keepsHalt {pa : Addr} {n : Size} : KeepsHalt s (operandRead pa n s) :=
  physRead_keepsHalt.bind fun _ _ => askHalt_keepsHalt _ _

theorem operandWrite_keepsHalt {pa : Addr} {n : Size} {v : Word} : KeepsHalt s (operandWrite pa n v s) :=
  physWrite_keepsHalt.bind fun _ _ => askHalt_keepsHalt _ _

theorem memRead_keepsHalt {k : Access} {a : Addr} {n : Size} : KeepsHalt s (memRead k a n s) := by
  unfold memRead
  split
  · exact .of rfl
  · exact operandRead_keepsHalt

theorem memWrite_keepsHalt {a : Addr} {n : Size} {v : Word} : KeepsHalt s (memWrite a n v s) := by
  unfold memWrite
  split
  · exact .of rfl
  · split
    · exact .of rfl
    · exact operandWrite_keepsHalt

theorem locked_keepsHalt {α : Type} {x : State → Res α} (hx : ∀ u, KeepsHalt u (x u)) : KeepsHalt s (locked x s) := by
  have h := hx { s with between := [] }
  unfold locked
  split <;> next e => rw [e] at h; exact h

/-! ### The MAP and the PSD -/

theorem loadEntries_keepsHalt {err : MemErr → Trap} {n : Nat} {p : Addr} {cell : Nat} :
    KeepsHalt s (loadEntries err n p cell s) := by
  induction n generalizing p cell s with
  | zero => exact .of rfl
  | succ n ih =>
    unfold loadEntries
    split
    · exact .of rfl
    · exact physRead_keepsHalt.bind fun _ _ => .after (State.setMapReg_haltReq _ _ _) ih

theorem loadSegments_keepsHalt {err : MemErr → Trap} {n : Nat} {list : Addr} {cell : Nat} :
    KeepsHalt s (loadSegments err n list cell s) := by
  induction n generalizing list cell s with
  | zero => exact .of rfl
  | succ n ih => exact physRead_keepsHalt.bind fun _ _ => loadEntries_keepsHalt.bind fun _ _ => ih

theorem loadMap_keepsHalt {err : MemErr → Trap} {psd2 : Word} : KeepsHalt s (loadMap err psd2 s) := by
  refine physRead_keepsHalt.bind fun mscd t => ?_
  split
  · exact .of rfl
  · split
    · exact physRead_keepsHalt.bind fun _ _ => physRead_keepsHalt.bind fun _ _ => loadEntries_keepsHalt.bind fun _ _ =>
        loadSegments_keepsHalt
    · exact loadSegments_keepsHalt

theorem loadPsd_keepsHalt {err : MemErr → Trap} {w1 w2 : Word} {b : Bool} : KeepsHalt s (loadPsd err w1 w2 b s) := by
  unfold loadPsd
  split
  · exact loadMap_keepsHalt.bind fun _ _ => .of rfl
  · exact .of rfl

/-! ### Addresses and operands -/

theorem chase_keepsHalt {k : Access} {n : Nat} {m : MemRef} {w : Option Word} : KeepsHalt s (chase k n m w s) := by
  induction n generalizing m w s with
  | zero => exact .of rfl
  | succ n ih =>
    unfold chase
    split
    · exact memRead_keepsHalt.bind fun _ _ => ih
    · exact .of rfl

theorem resolve_keepsHalt {k : Access} {m : MemRef} : KeepsHalt s (resolve k m s) := chase_keepsHalt

theorem readAt_keepsHalt {w : Width} {a : Addr} : KeepsHalt s (readAt w a s) := by
  cases w with
  | byte | half | word => exact memRead_keepsHalt.bind fun _ _ => .of rfl
  | dword =>
    refine KeepsHalt.bind ?_ fun _ _ => .of rfl
    exact memRead_keepsHalt.bind fun _ _ => memRead_keepsHalt.bind fun _ _ => .of rfl

theorem writeAt_keepsHalt {a : Addr} {o : Operand} : KeepsHalt s (writeAt a o s) := by
  cases o with
  | byte | half | word => exact memWrite_keepsHalt
  | dword => exact memWrite_keepsHalt.bind fun _ _ => memWrite_keepsHalt

theorem operand_keepsHalt {m : MemRef} : KeepsHalt s (operand m s) := resolve_keepsHalt.bind fun _ _ => readAt_keepsHalt

theorem operandNoDword_keepsHalt {m : MemRef} : KeepsHalt s (operandNoDword m s) := by
  refine resolve_keepsHalt.bind fun x t => ?_
  cases x.ea.width with
  | byte | half => exact memRead_keepsHalt.bind fun _ _ => .of rfl
  | word | dword => exact memRead_keepsHalt

theorem bitAddress_keepsHalt {m : MemRef} : KeepsHalt s (bitAddress m s) := resolve_keepsHalt.bind fun _ _ => .of rfl

theorem readFile_keepsHalt {n : Nat} {a : Addr} : KeepsHalt s (readFile n a s) := by
  induction n generalizing a s with
  | zero => exact .of rfl
  | succ n ih => exact memRead_keepsHalt.bind fun _ _ => ih.bind fun _ _ => .of rfl

theorem writeFile_keepsHalt {n : Nat} {r : Reg} {a : Addr} : KeepsHalt s (writeFile n r a s) := by
  induction n generalizing r a s with
  | zero => exact .of rfl
  | succ n ih => exact memWrite_keepsHalt.bind fun _ _ => ih

theorem setFile_haltReq (r : Reg) (vs : List Word) (s : State) : (setFile r vs s).haltReq = s.haltReq := by
  induction vs generalizing r s with
  | nil => rfl
  | cons v vs ih => exact ih (r + 1) (s.setReg r v)

theorem extAddr_keepsHalt {rs rz : Reg} : KeepsHalt s (extAddr rs rz s) := by
  refine psdPriv_keepsHalt fun _ t => physRead_keepsHalt.bind fun psd2 u => ?_
  split
  · exact .of rfl
  · have hmap : KeepsHalt u (asideMap u (loadMap (switchErr false) psd2 u)) := by
      have h : KeepsHalt u (loadMap (switchErr false) psd2 u) := loadMap_keepsHalt
      unfold asideMap
      split <;> next e => rw [e] at h; exact h
    refine hmap.bind fun n v => ?_
    dsimp only
    repeat' split
    all_goals exact .of rfl

/-! ### The families of instructions -/

theorem addToMemory_keepsHalt {r : Reg} {m : MemRef} : KeepsHalt s (addToMemory r m s) := by
  refine resolve_keepsHalt.bind fun x t => readAt_keepsHalt.bind fun o u => ?_
  cases o with
  | byte | half => exact writeAt_keepsHalt.bind fun _ _ => .of rfl
  | word | dword => exact writeAt_keepsHalt.bind fun _ _ => arithCheck_keepsHalt rfl

theorem divide_keepsHalt {r : Reg} {v : Word} : KeepsHalt s (divide r v s) := by
  unfold divide
  split
  · exact arithCheck_keepsHalt rfl
  · exact .of rfl

theorem floatOp_keepsHalt {r : Reg} {m : MemRef} {f : {n : Nat} → FNum → FNum → FResult n} :
    KeepsHalt s (floatOp r m f s) := by
  have hword {x : FResult 32} {t : State} : KeepsHalt t (putFloat r x t) := by
    unfold putFloat
    split <;> exact arithCheck_keepsHalt rfl
  have hpair {x : FResult 64} {t : State} : KeepsHalt t (putFloatPair r x t) := by
    unfold putFloatPair
    split <;> exact arithCheck_keepsHalt rfl
  refine KeepsHalt.bind (resolve_keepsHalt.bind fun _ _ => readAt_keepsHalt) fun o t => ?_
  cases o with
  | dword => exact hpair
  | byte | half | word => exact hword

theorem opRnd_keepsHalt {r : Reg} : KeepsHalt s (opRnd r s) := by
  unfold opRnd
  split
  · exact arithCheck_keepsHalt rfl
  · exact .of rfl

theorem branch_keepsHalt {m : MemRef} : KeepsHalt s (branch m s) :=
  resolve_keepsHalt.bind fun x t => .of (by rw [branchTo_eq]; rfl)

theorem branchIf_keepsHalt {c : Bool} {m : MemRef} : KeepsHalt s (branchIf c m s) := by
  unfold branchIf
  split
  · exact branch_keepsHalt
  · exact .of rfl

theorem branchIncrement_keepsHalt {r : Reg} {n : Word} {i : Bool} {a : BitVec 20} :
    KeepsHalt s (branchIncrement r n i a s) := by
  have h : KeepsHalt (s.setReg r (s.reg r + n))
    (branchIf (decide (s.reg r + n ≠ 0)) ⟨0, i, a⟩ (s.setReg r (s.reg r + n))) := branchIf_keepsHalt
  simp only [branchIncrement]
  split <;> next e => rw [e] at h; exact h

theorem opJwcs_keepsHalt {m : MemRef} : KeepsHalt s (opJwcs m s) := by
  unfold opJwcs
  split
  · exact .of rfl
  · refine resolve_keepsHalt.bind fun x t => ?_
    unfold wcsRoutine
    split
    · exact .of rfl
    · exact .of (by rw [(storeAll_spec _ _).1]; rfl)

theorem opWait_keepsHalt : KeepsHalt s (opWait s) := by
  unfold opWait
  split <;> exact .of rfl

theorem opLear_keepsHalt {r : Reg} {m : MemRef} : KeepsHalt s (opLear r m s) := by
  refine psdPriv_keepsHalt fun _ _ => resolve_keepsHalt.bind fun x t => ?_
  split <;> exact .of rfl

theorem physReadAt_keepsHalt {w : Width} {a : Addr} : KeepsHalt s (physReadAt w a s) := by
  cases w with
  | byte | half | word => exact operandRead_keepsHalt.bind fun _ _ => .of rfl
  | dword => exact operandRead_keepsHalt.bind fun _ _ => operandRead_keepsHalt.bind fun _ _ => .of rfl

theorem opLem_keepsHalt {rd rs rz : Reg} : KeepsHalt s (opLem rd rs rz s) :=
  extAddr_keepsHalt.bind fun _ _ => physReadAt_keepsHalt.bind fun o _ => by cases o <;> exact .of rfl

theorem opSem_keepsHalt {rd rs rz : Reg} : KeepsHalt s (opSem rd rs rz s) := by
  refine extAddr_keepsHalt.bind fun a t => ?_
  cases storeValue (extWidth (s.reg rz)) (t.pair rd) with
  | byte | half | word => exact operandWrite_keepsHalt
  | dword => exact operandWrite_keepsHalt.bind fun _ _ => operandWrite_keepsHalt

theorem opWwcs_keepsHalt {rd rs : Reg} : KeepsHalt s (opWwcs rd rs s) := by
  refine requirePriv_keepsHalt.bind fun _ t => ?_
  split
  · exact .of rfl
  · exact memRead_keepsHalt.bind fun _ _ => memRead_keepsHalt.bind fun _ _ => .of rfl

theorem opRwcs_keepsHalt {rd rs : Reg} : KeepsHalt s (opRwcs rd rs s) := by
  refine requirePriv_keepsHalt.bind fun _ t => ?_
  split
  · exact .of rfl
  · exact memWrite_keepsHalt.bind fun _ _ => memWrite_keepsHalt.bind fun _ _ => .of rfl

theorem loadStatus_keepsHalt {m : MemRef} {b : Bool} : KeepsHalt s (loadStatus m b s) :=
  psdPriv_keepsHalt fun _ _ => resolve_keepsHalt.bind fun _ _ => memRead_keepsHalt.bind fun _ _ =>
    memRead_keepsHalt.bind fun _ _ => loadPsd_keepsHalt

theorem briLoad_keepsHalt {a : Addr} : KeepsHalt s (briLoad a s) := by
  unfold briLoad
  split
  · have hread : KeepsHalt s (briHalt (memRead .operand (wordAlign a) .word s)) := by
      have h : KeepsHalt s (memRead .operand (wordAlign a) .word s) := memRead_keepsHalt
      unfold briHalt
      split
      · next e => rw [e] at h; exact h
      · exact h
    exact hread.bind fun _ _ => .of rfl
  · exact memRead_keepsHalt.bind fun _ _ => memRead_keepsHalt.bind fun _ _ => loadPsd_keepsHalt

theorem opBri_keepsHalt {m : MemRef} : KeepsHalt s (opBri m s) := by
  refine requirePriv_keepsHalt.bind fun _ t => KeepsHalt.bind ?_ fun _ u => .of ?_
  · split
    · exact briLoad_keepsHalt
    · exact .of rfl
  · simp only [Res.state, resetHighest]
    repeat' split
    all_goals rfl

theorem setCpu_haltReq (v : Word) (s : State) : (setCpu v s).haltReq = s.haltReq := by
  unfold setCpu
  cases bitAt v 19 <;> rfl

theorem commandLevel_keepsHalt {l : Level} {f : State → State} (hf : ∀ t, (f t).haltReq = t.haltReq) :
    KeepsHalt s (commandLevel l f s) := by
  refine requirePriv_keepsHalt.bind fun _ t => .of ?_
  simp only [Res.state]
  split
  · exact hf t
  · rfl

theorem commandDevice_keepsHalt {d : BitVec 7} {c : Half} : KeepsHalt s (commandDevice d c s) := by
  unfold commandDevice
  repeat' split
  all_goals exact .of rfl

theorem testDevice_keepsHalt {d : BitVec 7} {c : Half} : KeepsHalt s (testDevice d c s) := by
  unfold testDevice deviceTest
  repeat' split
  all_goals exact .of rfl

theorem channelOp_keepsHalt {op : ChanOp} {chan : BitVec 7} {sub : Byte} {l : Level} {rep : ChanReply} :
    KeepsHalt s (channelOp op chan sub l rep s) := by
  have hdisarm : (disarm op chan s).haltReq = s.haltReq := by unfold disarm; split <;> rfl
  refine .after hdisarm (physRead_keepsHalt.bind fun _ t => KeepsHalt.bind ?list fun _ u => ?answer)
  case list =>
    split
    · exact physRead_keepsHalt.bind fun _ _ => .of rfl
    · exact .of rfl
  case answer =>
    refine KeepsHalt.bind ?status fun _ v => .of ?effect
    case status =>
      unfold storeStatus
      split
      · exact .after (State.send_haltReq _ _) physWrite_keepsHalt
      · exact .of rfl
    case effect =>
      simp only [Res.state, State.setCC_haltReq]
      split
      · cases op <;> rfl
      · unfold refusedEffect; split <;> rfl

theorem ofDevice_keepsHalt {α : Type} {d : DevEntry} {x : Res α} (h : KeepsHalt s x) : KeepsHalt s (ofDevice d x) := by
  unfold ofDevice
  split <;> exact h

theorem nextReply_haltReq {rep : Option ChanReply} {u : State} (h : nextReply s = (rep, u)) :
    u.haltReq = s.haltReq := by
  unfold nextReply at h
  split at h <;> cases h <;> rfl

theorem classF_keepsHalt {op : ChanOp} {r : Reg} {k : Half} : KeepsHalt s (classF op r k s) := by
  refine psdPriv_keepsHalt fun _ t => ?_
  dsimp only
  split
  · exact .of rfl
  · split
    · exact .of rfl
    · split
      · exact .of rfl
      · split
        · next h =>
          have hu := nextReply_haltReq h
          exact .of hu
        · next h => exact .after (nextReply_haltReq h) (ofDevice_keepsHalt channelOp_keepsHalt)

/-! ### Every instruction -/

theorem effectOf_keepsHalt_of_needsPriv {i : Instr} (hi : needsPriv i = true) : KeepsHalt s (effectOf i s) := by
  cases i with
  | lear => exact opLear_keepsHalt
  | lem => exact opLem_keepsHalt
  | cema => exact extAddr_keepsHalt.bind fun _ _ => .of rfl
  | sem => exact opSem_keepsHalt
  | tscr | trsc | trp | halt => exact requirePriv_keepsHalt.bind fun _ _ => .of rfl
  | rdsts => exact psdPriv_keepsHalt fun _ _ => requireJumper_keepsHalt.bind fun _ _ => .of rfl
  | eae | dae | bei | uei => exact psdPriv_keepsHalt fun _ _ => .of rfl
  | lmap =>
    exact psdPriv_keepsHalt fun _ _ => requireUnmapped_keepsHalt.bind fun _ _ => physRead_keepsHalt.bind fun _ _ =>
      loadMap_keepsHalt.bind fun _ _ => .of rfl
  | tmapr => exact psdPriv_keepsHalt fun _ _ => requireUnmapped_keepsHalt.bind fun _ _ => .of rfl
  | wwcs => exact opWwcs_keepsHalt
  | rwcs => exact opRwcs_keepsHalt
  | bri => exact opBri_keepsHalt
  | lpsd | lpsdcm => exact loadStatus_keepsHalt
  | setcpu =>
    exact requirePriv_keepsHalt.bind fun _ _ => requireJumper_keepsHalt.bind fun _ _ => .of (setCpu_haltReq _ _)
  | ei | di => exact commandLevel_keepsHalt fun t => by split <;> rfl
  | ri | ai | dai => exact commandLevel_keepsHalt fun t => rfl
  | cd => exact requirePriv_keepsHalt.bind fun _ _ => commandDevice_keepsHalt
  | td => exact requirePriv_keepsHalt.bind fun _ _ => testDevice_keepsHalt
  | eci | dci | aci | daci | sio | tio | stpio | rschnl | hio | grio | rsctl | ecwcs | wcwcs => exact classF_keepsHalt
  | _ => cases hi

theorem effectOf_keepsHalt_of_plain {i : Instr} (hp : needsPriv i = false) (he : isExecute i = false) :
    KeepsHalt s (effectOf i s) := by
  cases i with
  | lb | lh | lw | ld | lmb | lmh | lmw | lmd => exact operand_keepsHalt.bind fun o _ => by cases o <;> exact .of rfl
  | anmb | anmh | anmw | anmd | ormb | ormh | ormw | ormd | eomb | eomh | eomw | eomd =>
    exact operand_keepsHalt.bind fun o _ => by cases o <;> exact .of rfl
  | camb | camh | camw | camd | cmmb | cmmh | cmmw | cmmd => exact operand_keepsHalt.bind fun _ _ => .of rfl
  | lnb | lnh | lnw | lnd | admb | admh | admw | admd | sumb | sumh | sumw | sumd =>
    exact operand_keepsHalt.bind fun o _ => by cases o <;> exact arithCheck_keepsHalt rfl
  | lea => exact resolve_keepsHalt.bind fun _ _ => .of rfl
  | la => exact requirePsd_keepsHalt.bind fun _ _ => resolve_keepsHalt.bind fun _ _ => .of rfl
  | lf =>
    exact resolve_keepsHalt.bind fun _ _ => readFile_keepsHalt.bind fun _ _ => .of (setFile_haltReq _ _ _)
  | stb | sth | stw | std | stmb | stmh | stmw | stmd | zmb | zmh | zmw | zmd =>
    exact resolve_keepsHalt.bind fun _ _ => writeAt_keepsHalt
  | stf => exact resolve_keepsHalt.bind fun _ _ => writeFile_keepsHalt
  | li | zr | trr | trrm | trc | trcm | xcr | xcrm | tpr | trsw | sea | cea | lcs | nop | calm => exact .of rfl
  | anr | orr | orrm | eor | eorm | car | ci | cmr | es | mpr | mpi => exact .of rfl
  | nor | nord | scz | sll | slc | slld | sra | srl | src | srad | srld | sbr | zbr | tbr => exact .of rfl
  | trn | trnm | sla | slad | abr | adr | adrm | adi | sur | surm | sui => exact arithCheck_keepsHalt rfl
  | jwcs => exact opJwcs_keepsHalt
  | bu => exact branch_keepsHalt
  | bct | bcf | bft => exact branchIf_keepsHalt
  | bl => exact branch_keepsHalt.bind fun _ _ => .of rfl
  | bib | bih | biw | bid => exact branchIncrement_keepsHalt
  | sbm | zbm =>
    exact bitAddress_keepsHalt.bind fun _ _ => memRead_keepsHalt.bind fun _ _ =>
      (locked_keepsHalt fun _ => memWrite_keepsHalt).bind fun _ _ => .of rfl
  | abm =>
    exact bitAddress_keepsHalt.bind fun _ _ => memRead_keepsHalt.bind fun _ _ =>
      (locked_keepsHalt fun _ => memWrite_keepsHalt).bind fun _ _ => arithCheck_keepsHalt rfl
  | tbm => exact bitAddress_keepsHalt.bind fun _ _ => memRead_keepsHalt.bind fun _ _ => .of rfl
  | armb | armh | armw | armd => exact addToMemory_keepsHalt
  | rnd => exact opRnd_keepsHalt
  | mpmb | mpmh | mpmw => exact operandNoDword_keepsHalt.bind fun _ _ => .of rfl
  | dvmb | dvmh | dvmw => exact operandNoDword_keepsHalt.bind fun _ _ => divide_keepsHalt
  | dvr | dvi => exact divide_keepsHalt
  | adfw | adfd | sufw | sufd | mpfw | mpfd | dvfw | dvfd => exact floatOp_keepsHalt
  | wait => exact opWait_keepsHalt
  | svc => exact requirePsd_keepsHalt.bind fun _ _ => .of rfl
  | exr | exrr | exm => cases he
  | _ => cases hp

theorem executeTarget_keepsHalt {image : Word} : KeepsHalt s (executeTarget image s) := by
  unfold executeTarget
  split
  · exact .of rfl
  · next i _ =>
    split
    · exact .of rfl
    · next f hf =>
      obtain ⟨rfl, he⟩ := targetOp_some hf
      cases hp : needsPriv i with
      | true => exact effectOf_keepsHalt_of_needsPriv hp
      | false => exact effectOf_keepsHalt_of_plain hp he

theorem effectOf_keepsHalt (i : Instr) : KeepsHalt s (effectOf i s) := by
  cases hp : needsPriv i with
  | true => exact effectOf_keepsHalt_of_needsPriv hp
  | false =>
    cases i with
    | exr | exrr => exact executeTarget_keepsHalt
    | exm =>
      exact resolve_keepsHalt.bind fun _ _ => memRead_keepsHalt.bind fun _ _ => executeTarget_keepsHalt
    | _ => exact effectOf_keepsHalt_of_plain hp rfl

end Pieces

/-! ### Traps -/

theorem saveWord_haltReq (s : State) (pa : Addr) (v : Word) : (s.saveWord pa v).haltReq = s.haltReq := by
  unfold State.saveWord State.pokeIfPresent
  split
  · exact (poke_haltReq _ _ _ _).trans (interleave_haltReq s)
  · exact interleave_haltReq s

theorem trapHalt_haltReq (t : Trap) (s : State) : (trapHalt t s).haltReq = s.haltReq := by
  change (saveArea t s).haltReq = s.haltReq
  simp only [saveArea, saveWord_haltReq]
  split <;> simp only [saveWord_haltReq]

theorem haltFor_haltReq (t : Trap) (s : State) : (haltFor t s).haltReq = s.haltReq := trapHalt_haltReq _ _

theorem leaveWait_haltReq (s : State) : s.leaveWait.haltReq = s.haltReq := by
  unfold State.leaveWait
  split <;> rfl

theorem enterTrap_keepsHalt {t : Trap} {s : State} : KeepsHalt s (enterTrap t s) := by
  refine KeepsHalt.bind (physRead_keepsHalt.bind fun v u => ?icb) fun icb u => ?exchange
  case icb =>
    split
    · exact physRead_keepsHalt.bind fun _ _ => .of rfl
    · exact .of rfl
  case exchange =>
    exact physWrite_keepsHalt.bind fun _ _ => physWrite_keepsHalt.bind fun _ _ => physWrite_keepsHalt.bind fun _ _ =>
      physRead_keepsHalt.bind fun _ _ => physRead_keepsHalt.bind fun _ _ => loadPsd_keepsHalt.bind fun _ _ =>
        .of (leaveWait_haltReq _)

theorem trapEntry_haltStands (n : Nat) (t : Trap) (s : State) : haltStands s (trapEntry n t s) := by
  induction n generalizing t s with
  | zero => exact .inl (trapHalt_haltReq t s)
  | succ n ih =>
    have h : KeepsHalt s (enterTrap t s) := enterTrap_keepsHalt
    unfold trapEntry
    split <;> rename_i e <;> rw [e] at h
    case h_2 =>
      dsimp only
      split
      · exact haltStands.trans h (.inl (trapHalt_haltReq _ _))
      · split
        · exact haltStands.trans h (ih _ _)
        · exact haltStands.trans h (.inl (trapHalt_haltReq _ _))
    all_goals exact h

theorem takeIntPsw_haltStands (l : Level) (s : State) : haltStands s (takeIntPsw l s) := by
  have h : KeepsHalt s (enterIntPsw l s) :=
    physRead_keepsHalt.bind fun _ _ => KeepsHalt.after rfl <| physWrite_keepsHalt.bind fun _ _ =>
      physRead_keepsHalt.bind fun _ _ => .of (leaveWait_haltReq _)
  unfold takeIntPsw
  split <;> rename_i e <;> rw [e] at h
  case h_2 => exact haltStands.trans h (.inl (haltFor_haltReq _ _))
  all_goals exact h

theorem raise_haltStands (t : Trap) (s : State) : haltStands s (raise t s) := by
  unfold raise
  dsimp only
  split
  · split
    · exact .inl (trapHalt_haltReq _ _)
    · exact trapEntry_haltStands _ _ _
  · unfold raisePsw
    split
    · split
      · exact takeIntPsw_haltStands _ _
      · exact .inl rfl
    · split <;> exact .inl rfl

theorem raiseAsync_haltStands (t : Trap) (s : State) : haltStands s (raiseAsync t s) := by
  unfold raiseAsync
  repeat' split
  · exact .refl s
  · exact raise_haltStands t s
  · exact raise_haltStands t s
  · exact .refl s
  · exact .inl (haltFor_haltReq t s)

theorem foldl_raiseAsync_haltStands (ts : List Trap) (s : State) :
    haltStands s (ts.foldl (fun s a => raiseAsync a s) s) := by
  induction ts generalizing s with
  | nil => exact .refl s
  | cons t ts ih => exact (raiseAsync_haltStands t s).trans (ih _)

theorem raiseSync_haltStands (t : Trap) (s : State) : haltStands s (raiseSync t s) := by
  unfold raiseSync
  split
  · exact raise_haltStands t s
  · have h : haltStands s ((s.urgent t).foldl (fun s a => raiseAsync a s) (s.dropUrgent t)) :=
      haltStands.trans (t := s.dropUrgent t) (.inl rfl) (foldl_raiseAsync_haltStands _ _)
    dsimp only
    split
    · exact h
    · exact h.trans (raise_haltStands t _)

/-! ### The instruction and the step -/

theorem complete_haltStands (len : Len) (s u : State) : haltStands u (complete len s u) := by
  unfold complete
  split
  · exact haltStands.trans (.inl rfl) (raiseSync_haltStands _ _)
  · unfold State.haltedFrom
    split <;> exact .inl rfl

theorem perform_haltStands {len : Len} {op : State → Res Unit} {s t : State}
    (hop : KeepsHalt (s.start len) (op (s.start len))) (h : perform len op s = .next t) : haltStands s t := by
  unfold perform at h
  split at h <;> rename_i u e <;> rw [e] at hop <;> replace hop : haltStands s u := hop <;> cases h
  · exact hop.trans (complete_haltStands len s u)
  · exact (hop.congr (State.setHist_haltReq _ _)).trans (raiseSync_haltStands _ _)
  · exact (hop.congr (State.setPc_haltReq _ _)).trans (complete_haltStands _ _ _)
  · exact ((hop.congr (State.setPc_haltReq _ _)).congr (State.setHist_haltReq _ _)).trans (raiseSync_haltStands _ _)
  · exact (hop.congr (State.setHist_haltReq _ _)).congr (haltFor_haltReq _ _)

theorem exec_haltStands {i : Instr} {s t : State} (h : exec i s = .next t) : haltStands s t :=
  perform_haltStands (effectOf_keepsHalt i) ((exec_eq i s).symm.trans h)

theorem fetch_keepsHalt {s : State} : KeepsHalt s (fetch s) := by
  unfold fetch
  split
  · exact .of rfl
  · refine .after (interleave_haltReq s) ?_
    unfold fetchNow
    split
    · exact .of rfl
    · split
      · exact .of rfl
      · exact askHalt_keepsHalt _ _

/-- A fetch stops by a trap alone. -/
theorem fetch_stop {s u : State} {e : Stop} (h : fetch s = .stop e u) : ∃ t, e = .trap t := by
  unfold fetch fetchNow at h
  split at h
  · cases h; exact ⟨_, rfl⟩
  · split at h
    · cases h; exact ⟨_, rfl⟩
    · split at h <;> cases h
      exact ⟨_, rfl⟩

theorem settleOutcome_next {o : Host.Outcome State Fault Refusal} {t : State} (h : settleOutcome o = .next t) :
    ∃ u, o = .next u ∧ t = settle u := by
  cases o with
  | next u => exact ⟨u, rfl, by cases h; rfl⟩
  | fault f => cases h
  | refused r => cases h

/-- What asked for a halt once the instruction was fetched still does when the step comes to settle it. -/
theorem runInstr_settles {s t : State} (h : runInstr s = .next t) :
    ∃ u, haltStands (fetch s).state u ∧ t = settle u := by
  unfold runInstr at h
  split at h <;> rename_i e <;> rw [e]
  · cases h
    exact ⟨_, raiseSync_haltStands _ _, rfl⟩
  · obtain ⟨_, he⟩ := fetch_stop e
    cases he
  · obtain ⟨_, he⟩ := fetch_stop e
    cases he
  · cases h
  · split at h <;> obtain ⟨u, hu, rfl⟩ := settleOutcome_next h
    · exact ⟨u, perform_haltStands (.of rfl) hu, rfl⟩
    · exact ⟨u, exec_haltStands hu, rfl⟩

/-! ### Where the halt takes effect -/

/-- Right after a BIx it waits (R845). -/
theorem settle_bix {u : State} (h : (settle u).lastBix = true) : settle u = u := by
  unfold settle at h ⊢
  split at h
  · next hs => exact absurd (hs.2.symm.trans h) (by decide)
  · next hs => exact if_neg hs

/-- After any other instruction the CPU halts, and the displays show it (R841, R842). -/
theorem settle_halts {u : State} (hr : u.haltReq ≠ .none) (hb : (settle u).lastBix = false) :
    (settle u).run = .halt ∧ (settle u).haltReq = .none ∧ (settle u).panel.aDisplay = (settle u).displayPsd1 ∧
      (u.haltReq = .stop → (settle u).panel.stopLight = true) := by
  have hlast : u.lastBix = false := by
    unfold settle at hb
    split at hb <;> exact hb
  rw [settle, if_pos ⟨hr, hlast⟩]
  exact ⟨rfl, rfl, rfl, fun h => by simp [h, State.showHalt]⟩

/-- A step that runs an instruction: it settles what asked for a halt when the instruction was fetched, or an address
stop's request since. -/
theorem step_settles {s t : State} (hin : s.inputs = []) (hrun : s.run = .run) (hsens : s.sensed = none)
    (h : step s = .next t) :
    ∃ u, haltStands (fetch { s with noIntNext := false }).state u ∧ t = settle u :=
  runInstr_settles ((step_runs hin hrun hsens).symm.trans h)

end Sys2Proof.Machine
end

section
/-!
BIB, BIH, BIW and BID (R347 to R351), and the panel's halts and address stops (R841, R842, R845): where a halt asked for
takes effect is `settle`, and that it is still asked for when a step comes to settle it is `step_settles`.
-/

namespace Sys2Proof.Machine

/-! ### The address stops (R842) -/

theorem stopHit_iff (s : State) (pa : Addr) (n : Size) :
    s.stopHit pa n = true ↔ pa.toNat ≤ s.stops.addr.toNat ∧ s.stops.addr.toNat < pa.toNat + n.bytes := by
  rw [State.stopHit, Bool.and_eq_true, decide_eq_true_iff, decide_eq_true_iff]

/-- An instruction stop compares halfword addresses (R842, log 25). -/
theorem instrStopHit_of_addr {s : State} (hon : s.stops.instr = true) (haddr : s.stops.addr.toNat / 2 = s.pc.toNat) :
    s.instrStopHit = true := by
  have hpc := s.pc.isLt
  have hhigh : bits s.stops.addr 0 5 = 0 := by
    rw [bits_eq_zero_iff]
    omega
  have hlow : bits s.stops.addr 5 18 = s.pc := by
    apply BitVec.eq_of_toNat_eq
    rw [bits_toNat]
    omega
  simp [State.instrStopHit, hon, hhigh, hlow]

/-- What an access asks for: the stop where it is enabled and hit, else nothing new. -/
theorem askHalt_hit {s u : State} {enabled hit : Bool} {touched : Prop} (ht : hit = true ↔ touched)
    (hu : u.haltReq = s.haltReq) :
    (enabled = true ∧ touched → (u.askHalt (enabled && hit)).haltReq = .stop) ∧
      (¬(enabled = true ∧ touched) → (u.askHalt (enabled && hit)).haltReq = s.haltReq) := by
  rw [← ht, ← Bool.and_eq_true, State.askHalt_haltReq, hu]
  exact ⟨fun h => if_pos h, fun h => if_neg h⟩

/-! ### The panel's keys (R840, R841, R845) -/

/-- A step whose boundary leaves `b`, which expects no further event, is the step of `b`. -/
theorem step_eq_step_boundary {s b : State} (h : boundary s = b) (hb : b.inputs = []) : step s = step b := by
  have hb' : boundary s = boundary b := h.trans (boundary_nil hb).symm
  unfold step
  rw [hb']

/-- A boundary whose one event is a key of the panel. -/
theorem boundary_key {s : State} {k : PanelKey} (h : s.inputs = [[.key k]]) :
    boundary s = pressKey k { s with inputs := [] } := boundary_single h

theorem pressKey_runHalt {s : State} (hl : s.panel.locked = false) : pressKey .runHalt s = panelRunHalt s :=
  if_neg (by rw [hl]; decide)

theorem pressKey_instrStep {s : State} (hr : s.run = .halt) (hl : s.panel.locked = false) :
    pressKey .instrStep s = s.setGoing .key := by
  change (if s.panel.locked then panelFault 2 s else if s.run = .halt then s.setGoing .key else panelFault 2 s) = _
  rw [hl, if_neg Bool.false_ne_true, if_pos hr]

theorem boundary_runHalt {s : State} (hl : s.panel.locked = false) (hi : s.inputs = [[.key .runHalt]]) :
    boundary s = panelRunHalt { s with inputs := [] } :=
  (boundary_key hi).trans (pressKey_runHalt (s := { s with inputs := [] }) hl)

theorem panelRunHalt_halt {s : State} (hr : s.run = .halt) : panelRunHalt s = s.setGoing .none := by
  rw [panelRunHalt, hr]

/-- Right after a BIx the key asks for the halt only; an address stop that has asked first stays (R845). -/
theorem panelRunHalt_bix {s : State} (hr : s.run = .run) (hb : s.lastBix = true) :
    panelRunHalt s = { s with haltReq := if s.haltReq = .stop then .stop else .key } := by
  rw [panelRunHalt, hr]
  exact if_pos hb

theorem panelRunHalt_run {s : State} (hr : s.run = .run) (hb : s.lastBix = false) :
    panelRunHalt s = { s with run := .halt, haltReq := .none }.showHalt := by
  rw [panelRunHalt, hr]
  exact if_neg (by rw [hb]; decide)

theorem nextWord_present {s : State} {pa : Addr} (ht : s.translate .fetch false (fetchAddr s.pc) = .ok pa)
    (hp : s.present pa .word = true) : s.nextWord = some (s.peek pa.toNat .word) := by
  simp only [State.nextWord, ht, hp, if_true]

/-- The displays of a CPU that has just halted (R841, R844, log 46). -/
theorem showsHalt_showHalt {s v : State} (h : v.panel = s.panel) : ShowsHalt s v.showHalt where
  panel := by rw [← h]; rfl
  word := fun pa ht hp => by
    have hword : v.nextWord = some (v.peek pa.toNat .word) := nextWord_present ht hp
    change v.nextWord.getD _ = v.peek pa.toNat .word
    rw [hword]
    rfl

theorem step_runHalt {s : State} (hr : s.run = .run) (hl : s.panel.locked = false) (hi : s.inputs = [[.key .runHalt]])
    (hb : s.lastBix = false) :
    step s = .next { s with inputs := [], run := .halt, haltReq := .none }.showHalt := by
  have hbound : boundary s = { s with inputs := [], run := .halt, haltReq := .none }.showHalt :=
    (boundary_runHalt hl hi).trans (panelRunHalt_run (s := { s with inputs := [] }) hr hb)
  exact (step_eq_step_boundary hbound rfl).trans (step_halted rfl rfl)

/-! ### BIB, BIH, BIW and BID (R347 to R351) -/

section Increment

variable {r : Reg} {n : Word} {i : Bool} {a : BitVec 20} {s : State}

/-- The register that has become zero ends the loop: no branch (R347). -/
theorem branchIncrement_zero (h : s.reg r + n = 0) :
    branchIncrement r n i a s = .ok () { s.setReg r 0 with lastBix := true } := by
  simp [branchIncrement, branchIf, h]

theorem branchIncrement_taken {x : Target} {u : State} (h : s.reg r + n ≠ 0)
    (hres : resolve .branch ⟨0, i, a⟩ (s.setReg r (s.reg r + n)) = .ok x u) :
    branchIncrement r n i a s = .ok () { u with pc := branchPc x.ea, cc := x.ccAfter u.cc, lastBix := true } := by
  simp only [branchIncrement, branchIf, decide_eq_true h, if_true, branch_ok hres]

theorem perform_branchIncrement_zero (hq : s.quiet) (h : s.reg r + n = 0) :
    ∃ t, perform .word (branchIncrement r n i a) s = .next t ∧ onlyRegs s t ∧ t.cc = s.cc ∧ t.reg r = 0 ∧
      regsBut r s t ∧ t.pc = s.pc + 2 ∧ t.lastBix = true := by
  obtain ⟨ht, hregs⟩ := perform_regs hq (branchIncrement_zero (s := s.start .word) h) rfl
  exact ⟨_, ht, hregs, rfl, State.reg_setReg_same _ _ _, fun q hne => (State.reg_setReg _ _ _ q).trans (if_neg hne),
    rfl, rfl⟩

theorem perform_branchIncrement_taken {x : Target} {u : State} (hq : s.quiet) (h : s.reg r + n ≠ 0)
    (hres : resolve .branch ⟨0, i, a⟩ ((s.start .word).setReg r (s.reg r + n)) = .ok x u) :
    ∃ t, perform .word (branchIncrement r n i a) s = .next t ∧ onlyRegs s t ∧ t.reg r = s.reg r + n ∧ regsBut r s t ∧
      t.pc = branchPc x.ea ∧ t.lastBix = true ∧ t.cc = x.ccAfter s.cc := by
  obtain ⟨q, rfl⟩ := exists_haltReq (resolve_onlyHalt (s := (s.start .word).setReg r (s.reg r + n)) hq.alone hres)
  obtain ⟨ht, hregs⟩ := perform_regs hq (branchIncrement_taken (s := s.start .word) h hres) rfl
  exact ⟨_, ht, hregs, State.reg_setReg_same _ _ _, fun q hne => (State.reg_setReg _ _ _ q).trans (if_neg hne),
    rfl, rfl, rfl⟩

end Increment

end Sys2Proof.Machine

namespace Sys2Proof.Proofs

open Sys2Proof.Machine

/-- Settles O33: the count by `branchIncrement`, the keys by the boundary they are pressed at, the halts by
`step_settles`, the operand stops by what an access asks for. -/
theorem branchesIncrementing : Obligations.BranchesIncrementing := by
  refine ⟨?count, ?runHalt, ?going, ?asked, ?fetched, ?stored, ?read⟩
  case count =>
    intro s r i a hq
    have hform : ∀ p ∈ [(Instr.bib r i a, 1), (.bih r i a, 2), (.biw r i a, 4), (.bid r i a, 8)],
        exec p.1 s = perform .word (branchIncrement r p.2 i a) s := by
      simp only [List.forall_mem_cons, List.not_mem_nil, false_imp_iff, implies_true, and_true]
      and_intros <;> rfl
    intro p hp v
    rw [hform p hp]
    refine ⟨perform_branchIncrement_zero hq, fun hv x u hres => ?_⟩
    obtain ⟨t, ht, hregs, hval, hothers, hpc, hbix, hcc⟩ := perform_branchIncrement_taken hq hv hres
    refine ⟨t, ht, hregs, hval, hothers, hpc.trans (branchPc_eq x.ea), hbix, hcc.trans ?_⟩
    rw [Target.ccAfter]
    cases x.last <;> rfl
  case runHalt =>
    intro s hr hl hi
    have hkey := boundary_runHalt hl hi
    refine ⟨fun hb hreq => ?key, fun hb hreq => ?stop, fun hb => ?now⟩
    case key =>
      refine step_eq_step_boundary (hkey.trans ?_) rfl
      rw [panelRunHalt_bix (s := { s with inputs := [] }) hr hb, if_neg hreq]
    case stop =>
      refine step_eq_step_boundary (hkey.trans ?_) rfl
      rw [panelRunHalt_bix (s := { s with inputs := [] }) hr hb, if_pos hreq, ← hreq]
    case now =>
      exact ⟨_, step_runHalt hr hl hi hb, showsHalt_showHalt rfl, rfl⟩
  case going =>
    intro s k hr hl hi go
    refine ⟨fun hk => ?step, fun hk => ?run⟩
    case step =>
      subst hk
      exact step_eq_step_boundary 
        ((boundary_key hi).trans (pressKey_instrStep (s := { s with inputs := [] }) hr hl)) rfl
    case run =>
      subst hk
      exact step_eq_step_boundary 
        ((boundary_runHalt hl hi).trans (panelRunHalt_halt (s := { s with inputs := [] }) hr)) rfl
  case asked =>
    intro s t hin hrun hsens hreq hstep
    obtain ⟨u, hu, rfl⟩ := step_settles hin hrun hsens hstep
    have hs : haltStands s u := haltStands.trans (fetch_keepsHalt (s := { s with noIntNext := false })) hu
    split
    · next hb =>
      rw [settle_bix hb]
      exact ⟨hs.ne_none hreq, hs.eq_stop⟩
    · next hb =>
      obtain ⟨hhalt, hnone, hdisplay, hlight⟩ := settle_halts (hs.ne_none hreq) (Bool.eq_false_iff.mpr hb)
      exact ⟨hhalt, hnone, hdisplay, fun h => hlight (hs.eq_stop h)⟩
  case fetched =>
    intro s t pa hin hrun hsens htr hpres hpar hon haddr hstep
    obtain ⟨u, hu, rfl⟩ := step_settles hin hrun hsens hstep
    have hfetch := fetch_ok (s := { s with noIntNext := false }) htr hpres hpar
    rw [hfetch, instrStopHit_of_addr (s := { s with noIntNext := false }) hon haddr] at hu
    have hstop : u.haltReq = .stop := hu.eq_stop rfl
    have hreq : u.haltReq ≠ .none := by rw [hstop]; decide
    split
    · next hb => rw [settle_bix hb, hstop]
    · next hb =>
      obtain ⟨hhalt, hnone, -, hlight⟩ := settle_halts hreq (Bool.eq_false_iff.mpr hb)
      exact ⟨hhalt, hnone, hlight hstop⟩
  case stored =>
    intro s t a pa n v htr touched h
    obtain ⟨pb, htr', -, -, rfl⟩ := memWrite_ok h
    cases htr.symm.trans htr'
    exact askHalt_hit (stopHit_iff s pa n) ((poke_haltReq _ _ _ _).trans (interleave_haltReq s))
  case read =>
    intro s t k a pa n v htr touched h
    obtain ⟨pb, htr', -, -, -, rfl⟩ := memRead_ok h
    cases htr.symm.trans htr'
    exact askHalt_hit (stopHit_iff s pa n) (interleave_haltReq s)

end Sys2Proof.Proofs
end

section
/-!
AND, OR and exclusive OR with memory (R402 to R405, R407 to R410, R413 to R416): the operand is read in a state that
differs in a halt asked for alone, then one register or the pair takes the result and the condition codes report.
-/

namespace Sys2Proof.Machine

/-! ### The end of the instruction -/

/-- An instruction that puts one word in `r` and sets the condition codes. -/
theorem perform_setReg_setCC {len : Len} {op : State → Res Unit} {s u : State} {r : Reg} {v : Word} {c : CC}
    (hq : s.quiet) (hu : onlyHalt (s.start len) u) (h : op (s.start len) = .ok () ((u.setReg r v).setCC c)) :
    ∃ t, perform len op s = .next t ∧ onlyRegs s t ∧ Ended len s t ∧ regsBut r s t ∧ t.reg r = v ∧ t.cc = c := by
  have hframe : effectRegs (s.start len) ((u.setReg r v).setCC c) := effectRegs_trans (effectRegs_of_onlyHalt hu) rfl
  obtain ⟨ht, hregs, hend⟩ := perform_regs_ended hq h hframe (onlyHalt_pc hu) (onlyHalt_lastBix hu)
  refine ⟨_, ht, hregs, hend, fun q hne => ?_, State.reg_setReg_same u r v, rfl⟩
  rw [finish_reg, State.reg_setCC, State.reg_setReg, if_neg hne, onlyHalt_reg hu, State.reg_start]

/-- `perform_putWord` after a read: the word is put in the state that the read has left. -/
theorem perform_read_putWord {len : Len} {op : State → Res Unit} {s u : State} {r : Reg} {v : Word} (hq : s.quiet)
    (hu : onlyHalt (s.start len) u) (h : op (s.start len) = .ok () (putWord r v u)) :
    ∃ t, perform len op s = .next t ∧ onlyRegs s t ∧ Ended len s t ∧ wroteWord r v false s t := by
  obtain ⟨t, ht, hregs, hend, hothers, hval, hcc⟩ := perform_setReg_setCC hq hu h
  exact ⟨t, ht, hregs, hend, hval, hothers, hcc ▸ signCC_ccArith false v⟩

/-- The same for a doubleword put in the pair of `r`. -/
theorem perform_read_putDword {len : Len} {op : State → Res Unit} {s u : State} {r : Reg} {v : Dword} (hq : s.quiet)
    (hu : onlyHalt (s.start len) u) (h : op (s.start len) = .ok () (putDword r v u)) :
    ∃ t, perform len op s = .next t ∧ onlyRegs s t ∧ Ended len s t ∧ wrotePair r v false s t := by
  have hframe : effectRegs (s.start len) (putDword r v u) := effectRegs_trans (effectRegs_of_onlyHalt hu) rfl
  obtain ⟨ht, hregs, hend⟩ := perform_regs_ended hq h hframe (onlyHalt_pc hu) (onlyHalt_lastBix hu)
  exact ⟨_, ht, hregs, hend, wrotePair_finish fun q => onlyHalt_reg hu q⟩

/-! ### AND with memory -/

theorem bits_append_bits {n k : Nat} (x : BitVec (n + k)) : bits x 0 n ++ bits x n k = x := by
  apply BitVec.eq_of_toNat_eq
  have hhigh : n + k - 0 - n = k := by omega
  have hlow : n + k - n - k = 0 := by omega
  have hlt : x.toNat / 2 ^ k < 2 ^ n := Nat.div_lt_of_lt_mul (by rw [← pow_add, Nat.add_comm k]; exact x.isLt)
  rw [append_toNat, bits_toNat, bits_toNat, hhigh, hlow, Nat.mod_eq_of_lt hlt, pow_zero, Nat.div_one]
  exact Nat.div_add_mod' _ _

/-- ANDing the low end of a value is ANDing the whole with ones above that end (R402, R403). -/
theorem and_low_end {n k : Nat} (x : BitVec (n + k)) (v : BitVec k) :
    bits x 0 n ++ (v &&& bits x n k) = x &&& (BitVec.allOnes n ++ v) := by
  calc bits x 0 n ++ (v &&& bits x n k)
      = (bits x 0 n &&& BitVec.allOnes n) ++ (bits x n k &&& v) := by rw [BitVec.and_allOnes, BitVec.and_comm v]
    _ = (bits x 0 n ++ bits x n k) &&& (BitVec.allOnes n ++ v) := BitVec.and_append.symm
    _ = x &&& (BitVec.allOnes n ++ v) := by rw [bits_append_bits]

theorem setLowByte_and (s : State) (r : Reg) (v : Byte) :
    s.setLowByte r (v &&& bits (s.reg r) 24 8) = s.setReg r (s.reg r &&& ((0xFFFFFF : BitVec 24) ++ v : Word)) := by
  have hmask : (0xFFFFFF : BitVec 24) = BitVec.allOnes 24 := by decide
  rw [hmask, State.setLowByte]
  exact congrArg (s.setReg r) (and_low_end (n := 24) (k := 8) (s.reg r) v)

theorem setLowHalf_and (s : State) (r : Reg) (v : Half) :
    s.setLowHalf r (v &&& bits (s.reg r) 16 16) = s.setReg r (s.reg r &&& ((0xFFFF : BitVec 16) ++ v : Word)) := by
  have hmask : (0xFFFF : BitVec 16) = BitVec.allOnes 16 := by decide
  rw [hmask, State.setLowHalf]
  exact congrArg (s.setReg r) (and_low_end (n := 16) (k := 16) (s.reg r) v)

theorem ccUnsigned_eq {n : Nat} (v : BitVec n) :
    ccUnsigned v = ⟨false, !decide (v = 0), false, decide (v = 0)⟩ := by
  rw [ccUnsigned, decide_not]

/-- What AND with the operand `o` leaves in `t` (R401 to R405). -/
def wroteAnd (r : Reg) (o : Operand) (s t : State) : Prop :=
  match o with
  | .byte v => regsBut r s t ∧ t.reg r = s.reg r &&& ((0xFFFFFF : BitVec 24) ++ v : Word) ∧
      t.cc = ccUnsigned (v &&& bits (s.reg r) 24 8)
  | .half v => regsBut r s t ∧ t.reg r = s.reg r &&& ((0xFFFF : BitVec 16) ++ v : Word) ∧
      t.cc = ccUnsigned (v &&& bits (s.reg r) 16 16)
  | .word v => wroteWord r (v &&& s.reg r) false s t
  | .dword v => wrotePair r (v &&& s.pair r) false s t

theorem exec_andMemory {i : Instr} {r : Reg} {m : MemRef} (s : State)
    (hi : i ∈ [Instr.anmb r m, .anmh r m, .anmw r m, .anmd r m]) : exec i s = perform .word (andMemory r m) s := by
  simp only [List.mem_cons, List.not_mem_nil, or_false] at hi
  rcases hi with rfl | rfl | rfl | rfl <;> rfl

theorem perform_andMemory {s u : State} {r : Reg} {m : MemRef} {o : Operand} (hq : s.quiet)
    (h : operand m (s.start .word) = .ok o u) :
    ∃ t, perform .word (andMemory r m) s = .next t ∧ onlyRegs s t ∧ Ended .word s t ∧ wroteAnd r o s t := by
  have hu := operand_onlyHalt (s := s.start .word) hq.alone h
  have hreg : u.reg r = s.reg r := onlyHalt_reg hu r
  have hpair : u.pair r = s.pair r := onlyHalt_pair hu r
  cases o with
  | byte v =>
    refine perform_setReg_setCC hq hu ?_
    rw [andMemory, h, Res.bind_ok, ← hreg, ← setLowByte_and]
  | half v =>
    refine perform_setReg_setCC hq hu ?_
    rw [andMemory, h, Res.bind_ok, ← hreg, ← setLowHalf_and]
  | word v => exact perform_read_putWord hq hu (by rw [andMemory, h, Res.bind_ok, hreg])
  | dword v => exact perform_read_putDword hq hu (by rw [andMemory, h, Res.bind_ok, hpair])

/-! ### OR and exclusive OR with memory -/

/-- The operand, widened with zeros, combined by `f` with the register or the pair (R407 to R410, R413 to R416). -/
def combine (f : ∀ {n : Nat}, BitVec n → BitVec n → BitVec n) (r : Reg) (o : Operand) (s : State) : State :=
  match o with
  | .dword v => putDword r (f (s.pair r) v) s
  | o => putWord r (f (s.reg r) o.zext) s

theorem exec_orMemory {i : Instr} {r : Reg} {m : MemRef} (s : State)
    (hi : i ∈ [Instr.ormb r m, .ormh r m, .ormw r m, .ormd r m]) : exec i s = perform .word (orMemory r m) s := by
  simp only [List.mem_cons, List.not_mem_nil, or_false] at hi
  rcases hi with rfl | rfl | rfl | rfl <;> rfl

theorem orMemory_ok {r : Reg} {m : MemRef} {o : Operand} {s u : State} (h : operand m s = .ok o u) :
    orMemory r m s = .ok () (combine (· ||| ·) r o u) := by
  rw [orMemory, h, Res.bind_ok]
  cases o <;> simp only [combine, BitVec.or_comm]

theorem exec_xorMemory {i : Instr} {r : Reg} {m : MemRef} (s : State)
    (hi : i ∈ [Instr.eomb r m, .eomh r m, .eomw r m, .eomd r m]) : exec i s = perform .word (xorMemory r m) s := by
  simp only [List.mem_cons, List.not_mem_nil, or_false] at hi
  rcases hi with rfl | rfl | rfl | rfl <;> rfl

theorem xorMemory_ok {r : Reg} {m : MemRef} {o : Operand} {s u : State} (h : operand m s = .ok o u) :
    xorMemory r m s = .ok () (combine (· ^^^ ·) r o u) := by
  rw [xorMemory, h, Res.bind_ok]
  cases o <;> simp only [combine, BitVec.xor_comm]

/-- What `combine` leaves in `t`. -/
def wroteCombined (f : ∀ {n : Nat}, BitVec n → BitVec n → BitVec n) (r : Reg) (o : Operand) (s t : State) : Prop :=
  match o with
  | .dword v => wrotePair r (f (s.pair r) v) false s t
  | o => wroteWord r (f (s.reg r) o.zext) false s t

theorem perform_combine {f : ∀ {n : Nat}, BitVec n → BitVec n → BitVec n} {op : State → Res Unit} {s u : State}
    {r : Reg} {o : Operand} (hq : s.quiet) (hu : onlyHalt (s.start .word) u)
    (h : op (s.start .word) = .ok () (combine f r o u)) :
    ∃ t, perform .word op s = .next t ∧ onlyRegs s t ∧ Ended .word s t ∧ wroteCombined f r o s t := by
  have hreg : u.reg r = s.reg r := onlyHalt_reg hu r
  have hpair : u.pair r = s.pair r := onlyHalt_pair hu r
  cases o with
  | byte v | half v | word v =>
    simp only [combine, hreg] at h
    exact perform_read_putWord hq hu h
  | dword v =>
    simp only [combine, hpair] at h
    exact perform_read_putDword hq hu h

end Sys2Proof.Machine

namespace Sys2Proof.Proofs

open Sys2Proof.Machine

/-- Settles O23: the four widths of an operation have one effect; AND is `perform_andMemory`, OR and exclusive OR are
`perform_combine`. -/
theorem logicalMemory : Obligations.LogicalMemory := by
  refine ⟨fun s r m o u hq ho i hi => ?and, fun s r m o u hq ho => ?combined⟩
  case and =>
    rw [exec_andMemory s hi]
    obtain ⟨t, ht, hregs, hend, hval⟩ := perform_andMemory (r := r) hq ho
    refine ⟨t, ht, hregs, hend, ?_⟩
    cases o with
    | byte v | half v =>
      obtain ⟨hothers, hreg, hcc⟩ := hval
      exact ⟨hothers, hreg, hcc.trans (ccUnsigned_eq _)⟩
    | word v | dword v => exact hval
  case combined =>
    have hu := operand_onlyHalt (s := s.start .word) hq.alone ho
    refine ⟨fun i hi => ?or, fun i hi => ?xor⟩
    case or =>
      rw [exec_orMemory s hi]
      obtain ⟨t, ht, hregs, hend, hval⟩ := perform_combine hq hu (orMemory_ok (r := r) ho)
      exact ⟨t, ht, hregs, hend, by cases o <;> exact hval⟩
    case xor =>
      rw [exec_xorMemory s hi]
      obtain ⟨t, ht, hregs, hend, hval⟩ := perform_combine hq hu (xorMemory_ok (r := r) ho)
      exact ⟨t, ht, hregs, hend, by cases o <;> exact hval⟩

end Sys2Proof.Proofs
end

section
/-!
The shifts of the general registers as arithmetic (R440, R445 to R454): each multiplies or divides by a power of two,
the arithmetic ones the signed number; and the fields of the shift format, by which their operation codes decode.
-/

namespace Sys2Proof.Machine

/-! ### Shifts and rotations as numbers -/

section Numbers

variable {n : Nat} (v : BitVec n)

theorem shiftLeft_toNat (k : Nat) : (v <<< k).toNat = v.toNat * 2 ^ k % 2 ^ n := by
  rw [BitVec.toNat_shiftLeft, Nat.shiftLeft_eq]

theorem ushiftRight_toNat (k : Nat) : (v >>> k).toNat = v.toNat / 2 ^ k := by
  rw [BitVec.toNat_ushiftRight, Nat.shiftRight_eq_div_pow]

/-- Shifting right with the sign filled in is dividing the signed number, rounded down (R450, R453). -/
theorem sshiftRight_toNat (k : Nat) :
    (v.sshiftRight k).toNat = ((v.toInt / ((2 ^ k : Nat) : Int)) % 2 ^ n).toNat := by
  rw [BitVec.sshiftRight_eq, BitVec.toNat_ofInt, Int.shiftRight_eq_div_pow]
  push_cast
  rfl

/-- The two parts of a rotation share no bit: the one is a multiple of `2 ^ k`, the other is below it. -/
theorem rotated_toNat {k j : Nat} (h : k + j = n) :
    (v <<< k ||| v >>> j).toNat = v.toNat * 2 ^ k % 2 ^ n + v.toNat / 2 ^ j := by
  have hpow : 2 ^ n = 2 ^ k * 2 ^ j := by rw [← h, pow_add]
  have hlow : v.toNat / 2 ^ j < 2 ^ k := Nat.div_lt_of_lt_mul (by rw [Nat.mul_comm, ← hpow]; exact v.isLt)
  have hhigh : v.toNat * 2 ^ k % 2 ^ n = 2 ^ k * (v.toNat % 2 ^ j) := by
    rw [Nat.mul_comm, hpow, Nat.mul_mod_mul_left]
  rw [BitVec.toNat_or, shiftLeft_toNat, ushiftRight_toNat, hhigh, Nat.two_pow_add_eq_or_of_lt hlow]

theorem rotateLeft_toNat {k : Nat} (h : k < n) :
    (v.rotateLeft k).toNat = v.toNat * 2 ^ k % 2 ^ n + v.toNat / 2 ^ (n - k) := by
  rw [BitVec.rotateLeft_def, Nat.mod_eq_of_lt h, rotated_toNat v (by omega)]

theorem rotateRight_toNat {k : Nat} (h : k < n) :
    (v.rotateRight k).toNat = v.toNat / 2 ^ k + v.toNat * 2 ^ (n - k) % 2 ^ n := by
  rw [BitVec.rotateRight_def, Nat.mod_eq_of_lt h, BitVec.or_comm, rotated_toNat v (by omega), Nat.add_comm]

end Numbers

/-! ### The end of a shift -/

/-- A shift that puts `v` in `r` and reports nothing. -/
theorem perform_shift {op : State → Res Unit} {s : State} {r : Reg} {v : Word} {x : Nat} (hq : s.quiet)
    (h : op (s.start .half) = .ok () ((s.start .half).setReg r v)) (hv : v.toNat = x) :
    ∃ t, perform .half op s = .next t ∧ onlyRegs s t ∧ Ended .half s t ∧ t.cc = s.cc ∧ regsBut r s t ∧
      (t.reg r).toNat = x := by
  obtain ⟨t, ht, hregs, hend, hcc, hothers, hval⟩ := perform_setReg (len := .half) (u := s.start .half) hq rfl h
  exact ⟨t, ht, hregs, hend, hcc, hothers, by rw [hval, hv]⟩

end Sys2Proof.Machine

namespace Sys2Proof

/-! ### The shift format (R440) -/

theorem shiftWord_toNat (op : BitVec 6) (r : Reg) (left : Bool) (n : BitVec 5) :
    (shiftWord op r left n).toNat = op.toNat * 2 ^ 26 + r.toNat * 2 ^ 23 + left.toNat * 2 ^ 22 + n.toNat * 2 ^ 16 := by
  unfold shiftWord
  simp only [Machine.append_toNat, BitVec.ofNat_eq_ofNat, BitVec.toNat_ofNat, BitVec.toNat_ofBool]
  omega

section Fields

variable (op : BitVec 6) (r : Reg) (left : Bool) (n : BitVec 5)

theorem opOf_shiftWord : opOf (shiftWord op r left n) = op.toNat := by
  have hleft := left.toNat_le
  have h : opOf (shiftWord op r left n) = _ := Machine.bits_toNat (shiftWord op r left n) 0 6
  rw [h, shiftWord_toNat]
  omega

theorem f6_shiftWord : f6 (shiftWord op r left n) = r := by
  have hleft := left.toNat_le
  exact Machine.bits_of_toNat (by rw [shiftWord_toNat]; omega)

theorem bitAt_shiftWord : bitAt (shiftWord op r left n) 9 = left := by
  have hleft := left.toNat_le
  exact Machine.bitAt_of_toNat (by rw [shiftWord_toNat]; omega)

theorem bits_shiftWord : bits (shiftWord op r left n) 11 5 = n :=
  Machine.bits_of_toNat (by rw [shiftWord_toNat]; omega)

/-- A row of the operation code map that bit 9 parts into a left and a right shift (R170, R440). -/
theorem decode_shift_row {f g : Reg → BitVec 5 → Instr}
    (h : ∀ w, decodeOp op.toNat w = .ok (if bitAt w 9 then f (f6 w) (bits w 11 5) else g (f6 w) (bits w 11 5))) :
    decode (shiftWord op r left n) = .ok (if left then f r n else g r n) := by
  rw [decode, opOf_shiftWord, h, bitAt_shiftWord, f6_shiftWord, bits_shiftWord]

end Fields

/-- A halfword of the shift rows of R170: operation code and direction, the register and the count zero (R440). -/
def shiftHalf (op : BitVec 6) (left : Bool) : Half :=
  op ++ (0 : BitVec 3) ++ BitVec.ofBool left ++ (0 : BitVec 6)

/-- Putting the register and the count in: each bit of the halfword belongs to one field alone. -/
theorem shiftHalf_fields (op : BitVec 6) (left : Bool) (r : Reg) (n : BitVec 5) :
    shiftHalf op left ||| r.setWidth 16 <<< 7 ||| n.setWidth 16 =
      op ++ r ++ BitVec.ofBool left ++ (0 : BitVec 1) ++ n := by
  unfold shiftHalf
  ext i hi
  grind

/-- An image written as a halfword of the table with register and count put in decodes as its fields say. -/
theorem decode_shiftHalf {r : Reg} {n : BitVec 5} {h : Half} {x : Except DecodeError Instr} (op : BitVec 6)
    (left : Bool) (hh : h = shiftHalf op left) (hx : decode (shiftWord op r left n) = x) :
    decode ((h ||| r.setWidth 16 <<< 7 ||| n.setWidth 16) ++ (0 : Half)) = x := by
  rw [hh, shiftHalf_fields]
  exact hx

section Rows

variable (r : Reg) (left : Bool) (n : BitVec 5)

theorem decode_shiftArithmetic : decode (shiftWord 0x1B r left n) = .ok (if left then .sla r n else .sra r n) :=
  decode_shift_row _ r left n fun _ => rfl

theorem decode_shiftLogical : decode (shiftWord 0x1C r left n) = .ok (if left then .sll r n else .srl r n) :=
  decode_shift_row _ r left n fun _ => rfl

theorem decode_shiftCircular : decode (shiftWord 0x1D r left n) = .ok (if left then .slc r n else .src r n) :=
  decode_shift_row _ r left n fun _ => rfl

end Rows

end Sys2Proof

namespace Sys2Proof.Proofs

open Sys2Proof.Machine

/-- Settles O24: the words by the rows of the decoder, the effects by `perform_shift`, the results by the shifts and
rotations as numbers. -/
theorem shifts : Obligations.Shifts := by
  intro s r n hq word v p x hx
  simp only [List.mem_cons, List.not_mem_nil, or_false] at hx
  rcases hx with rfl | rfl | rfl | rfl | rfl
  · exact ⟨decode_shiftHalf 0x1C true rfl (decode_shiftLogical r true n),
      perform_shift (op := opSll r n) hq rfl (shiftLeft_toNat v n.toNat)⟩
  · exact ⟨decode_shiftHalf 0x1C false rfl (decode_shiftLogical r false n),
      perform_shift (op := opSrl r n) hq rfl (ushiftRight_toNat v n.toNat)⟩
  · exact ⟨decode_shiftHalf 0x1D true rfl (decode_shiftCircular r true n),
      perform_shift (op := opSlc r n) hq rfl (rotateLeft_toNat v n.isLt)⟩
  · exact ⟨decode_shiftHalf 0x1D false rfl (decode_shiftCircular r false n),
      perform_shift (op := opSrc r n) hq rfl (rotateRight_toNat v n.isLt)⟩
  · exact ⟨decode_shiftHalf 0x1B false rfl (decode_shiftArithmetic r false n),
      perform_shift (op := opSra r n) hq rfl (sshiftRight_toNat v n.toNat)⟩

end Sys2Proof.Proofs
end

section
/-!
The shifts of a pair (R448, R449, R453, R454) and the arithmetic left shifts (R445, R448): those shift the bits below
the sign, and a bit that leaves position 1 differs from the sign exactly where the signed product is out of range.
-/

namespace Sys2Proof.Machine

/-! ### The end of a shift -/

/-- An instruction that puts a doubleword in the pair of `r` and sets the condition codes. -/
theorem perform_setPair_setCC {len : Len} {op : State → Res Unit} {s : State} {r : Reg} {v : Dword} {c : CC}
    (hq : s.quiet) (h : op (s.start len) = .ok () (((s.start len).setPair r v).setCC c)) :
    ∃ t, perform len op s = .next t ∧ onlyRegs s t ∧ Ended len s t ∧ t.cc = c ∧ regsButPair r s t ∧
      t.pair r = v := by
  obtain ⟨ht, hregs, hend⟩ := perform_regs_ended hq h rfl rfl rfl
  refine ⟨_, ht, hregs, hend, rfl, fun q hne hne' => ?_, State.pair_setPair (s.start len) r v⟩
  rw [finish_reg, State.reg_setCC, State.reg_setPair, if_neg hne, if_neg hne', State.reg_start]

/-- A shift of the pair that reports nothing. -/
theorem perform_shiftPair {op : State → Res Unit} {s : State} {r : Reg} {v : Dword} {x : Nat} (hq : s.quiet)
    (h : op (s.start .half) = .ok () ((s.start .half).setPair r v)) (hv : v.toNat = x) :
    ∃ t, perform .half op s = .next t ∧ onlyRegs s t ∧ Ended .half s t ∧ t.cc = s.cc ∧ regsButPair r s t ∧
      (t.pair r).toNat = x := by
  obtain ⟨t, ht, hregs, hend, hcc, hothers, hval⟩ := perform_setPair_setCC (c := s.cc) hq h
  exact ⟨t, ht, hregs, hend, hcc, hothers, by rw [hval, hv]⟩

/-! ### Left shifts of signed numbers -/

section Signed

variable {n : Nat} (v : BitVec n)

theorem shiftLeft_eq_ofInt (k : Nat) : v <<< k = BitVec.ofInt n (v.toInt * 2 ^ k) := by
  have hpow : ((2 : Int) ^ k) = ((2 ^ k : Nat) : Int) := by push_cast; rfl
  rw [BitVec.ofInt_mul, BitVec.ofInt_toInt, hpow, BitVec.ofInt_natCast]
  apply BitVec.eq_of_toNat_eq
  rw [shiftLeft_toNat, BitVec.toNat_mul, BitVec.toNat_ofNat, Nat.mul_mod_mod]

/-- A left shift whose product is in range is the signed product. -/
theorem shiftLeft_toInt {k : Nat} (hn : 0 < n) (hlow : -2 ^ (n - 1) ≤ v.toInt * 2 ^ k)
    (hhigh : v.toInt * 2 ^ k < 2 ^ (n - 1)) : (v <<< k).toInt = v.toInt * 2 ^ k := by
  rw [shiftLeft_eq_ofInt, BitVec.toInt_ofInt_eq_self hn hlow hhigh]

theorem bitAt_zero_eq_sign : bitAt v 0 = decide (v.toInt < 0) := by
  rw [← BitVec.msb_eq_toInt, BitVec.msb_eq_getLsbD_last]
  rfl

/-- Below the sign the signed number has the bits of the pattern: the two differ by an even multiple of `2 ^ m`. -/
theorem getLsbD_eq_toInt {m : Nat} (hm : m < n) : v.getLsbD m = decide (v.toInt / 2 ^ m % 2 = 1) := by
  have hpow : (2 : Int) ^ n = 2 ^ m * (2 * 2 ^ (n - 1 - m)) := by
    rw [← pow_succ', ← pow_add]
    congr 1
    omega
  have hbit : v.getLsbD m = decide (v.toNat / 2 ^ m % 2 = 1) := Nat.testBit_eq_decide_div_mod_eq
  have hdiv : ((v.toNat / 2 ^ m % 2 : Nat) : Int) = v.toInt / 2 ^ m % 2 := by
    rw [BitVec.toInt_eq_toNat_cond]
    push_cast
    split
    · rfl
    · rw [hpow, Int.sub_eq_add_neg, ← mul_neg, Int.add_mul_ediv_left _ _ (by positivity)]
      omega
  rw [hbit, ← hdiv]
  norm_cast

/-- Bit `m` of a number that fits `m + 2` bits is the sign exactly where the number fits `m + 1` bits. -/
theorem getLsbD_eq_sign_iff {m : Nat} (hm : m < n) (hlow : -2 ^ (m + 1) ≤ v.toInt) (hhigh : v.toInt < 2 ^ (m + 1)) :
    v.getLsbD m = decide (v.toInt < 0) ↔ -2 ^ m ≤ v.toInt ∧ v.toInt < 2 ^ m := by
  have hpos : (0 : Int) < 2 ^ m := by positivity
  rw [getLsbD_eq_toInt v hm, decide_eq_decide]
  rw [pow_succ'] at hlow hhigh
  have hge : -2 ≤ v.toInt / 2 ^ m := Int.le_ediv_of_mul_le hpos (by omega)
  have hlt : v.toInt / 2 ^ m < 2 := Int.ediv_lt_of_lt_mul hpos hhigh
  have hdiv := Int.mul_ediv_add_emod v.toInt (2 ^ m)
  have hrem := Int.emod_nonneg v.toInt hpos.ne'
  have hrem' := Int.emod_lt_of_pos v.toInt hpos
  obtain hq | hq | hq | hq : v.toInt / 2 ^ m = -2 ∨ v.toInt / 2 ^ m = -1 ∨ v.toInt / 2 ^ m = 0 ∨
    v.toInt / 2 ^ m = 1 := by omega
  all_goals rw [hq] at hdiv ⊢; omega

/-! ### Overflow and sign of an arithmetic left shift (R445) -/

theorem lostSign_eq_false_iff {k m : Nat} (h : k + m + 1 = n) :
    lostSign v k = false ↔ -2 ^ m ≤ v.toInt ∧ v.toInt < 2 ^ m := by
  induction k generalizing m with
  | zero =>
    obtain rfl : m = n - 1 := by omega
    exact iff_of_true rfl ⟨BitVec.le_toInt v, BitVec.toInt_lt⟩
  | succ k ih =>
    have hbit : bitAt v (k + 1) = v.getLsbD m := congrArg v.getLsbD (by omega)
    have hwide : (2 : Int) ^ m ≤ 2 ^ (m + 1) := pow_le_pow_right₀ (by decide) (Nat.le_succ m)
    rw [lostSign, Bool.or_eq_false_iff, bne_eq_false_iff_eq, ih (m := m + 1) (by omega), hbit, bitAt_zero_eq_sign]
    constructor
    · rintro ⟨hsign, hlow, hhigh⟩
      exact (getLsbD_eq_sign_iff v (by omega) hlow hhigh).mp hsign
    · rintro ⟨hlow, hhigh⟩
      have hlow' : -2 ^ (m + 1) ≤ v.toInt := by omega
      have hhigh' : v.toInt < 2 ^ (m + 1) := by omega
      exact ⟨(getLsbD_eq_sign_iff v (by omega) hlow' hhigh').mpr ⟨hlow, hhigh⟩, hlow', hhigh'⟩

/-- CC1 of an arithmetic left shift: the product with the power of two is out of range. -/
theorem lostSign_eq {k : Nat} (hk : k < n) :
    lostSign v k = decide (v.toInt * 2 ^ k < -2 ^ (n - 1) ∨ 2 ^ (n - 1) ≤ v.toInt * 2 ^ k) := by
  have hpos : (0 : Int) < 2 ^ k := by positivity
  have hpow : (2 : Int) ^ (n - 1) = 2 ^ (n - 1 - k) * 2 ^ k := by
    rw [← pow_add]
    congr 1
    omega
  have hiff := lostSign_eq_false_iff v (k := k) (m := n - 1 - k) (by omega)
  rw [Bool.eq_iff_iff, decide_eq_true_eq, ← not_iff_not, Bool.not_eq_true, hiff, hpow, ← neg_mul, not_or, not_lt,
    not_le, mul_le_mul_iff_left₀ hpos, mul_lt_mul_iff_left₀ hpos]

theorem putBitAt_zero_toNat (hn : 0 < n) (b : Bool) :
    (putBitAt v 0 b).toNat = b.toNat * 2 ^ (n - 1) + v.toNat % 2 ^ (n - 1) := by
  obtain ⟨m, rfl⟩ : ∃ m, n = m + 1 := ⟨n - 1, by omega⟩
  have hcons : putBitAt v 0 b = BitVec.cons b (v.setWidth m) := by
    apply BitVec.eq_of_getLsbD_eq
    intro i hi
    rw [putBitAt, State.getLsbD_putBit _ _ _ _ hi, BitVec.getLsbD_cons, BitVec.getLsbD_setWidth]
    by_cases him : i = m
    · simp [him]
    · have hlt : i < m := by omega
      simp [him, hlt]
  rw [hcons, BitVec.toNat_cons', Nat.shiftLeft_eq, BitVec.toNat_setWidth]
  rfl

theorem bitAt_zero_toNat (hn : 0 < n) : (bitAt v 0).toNat = v.toNat / 2 ^ (n - 1) := by
  have hlt : v.toNat / 2 ^ (n - 1) < 2 :=
    Nat.div_lt_of_lt_mul (by rw [← pow_succ, Nat.sub_add_cancel hn]; exact v.isLt)
  rw [bitAt_eq_decide]
  obtain h | h := Nat.le_one_iff_eq_zero_or_eq_one.mp (Nat.le_of_lt_succ hlt) <;> simp [h]

/-- The sign stays and the bits below it shift. -/
theorem shiftLeftArith_toNat (hn : 0 < n) (k : Nat) :
    (shiftLeftArith v k).toNat =
      v.toNat / 2 ^ (n - 1) * 2 ^ (n - 1) + v.toNat * 2 ^ k % 2 ^ (n - 1) := by
  rw [shiftLeftArith, putBitAt_zero_toNat _ hn, bitAt_zero_toNat v hn, shiftLeft_toNat,
    Nat.mod_mod_of_dvd _ (pow_dvd_pow 2 (Nat.sub_le n 1))]

/-- In range the sign of the product is the sign of the number, so keeping it changes nothing. -/
theorem shiftLeftArith_toInt {k : Nat} (hn : 0 < n) (hlow : -2 ^ (n - 1) ≤ v.toInt * 2 ^ k)
    (hhigh : v.toInt * 2 ^ k < 2 ^ (n - 1)) : (shiftLeftArith v k).toInt = v.toInt * 2 ^ k := by
  have hshift := shiftLeft_toInt v hn hlow hhigh
  have hsign : bitAt v 0 = bitAt (v <<< k) 0 := by
    have hneg : v.toInt * 2 ^ k < 0 * 2 ^ k ↔ v.toInt < 0 := mul_lt_mul_iff_left₀ (by positivity)
    rw [bitAt_zero_eq_sign, bitAt_zero_eq_sign, hshift, decide_eq_decide, ← hneg, zero_mul]
  have hkeep : shiftLeftArith v k = v <<< k := by
    apply BitVec.eq_of_toNat_eq
    rw [shiftLeftArith, putBitAt_zero_toNat _ hn, hsign, bitAt_zero_toNat _ hn, Nat.div_add_mod']
  rw [hkeep, hshift]

end Signed

theorem shiftCC_ok {ov : Bool} {s : State} (h : ov = true → s.arithEnabled = false) :
    shiftCC ov s = .ok () (s.setCC ⟨ov, false, false, false⟩) := arithCheck_ok h

end Sys2Proof.Machine

namespace Sys2Proof.Proofs

open Sys2Proof.Machine

/-- Settles O25: the shifts that report nothing by `perform_shiftPair`, the arithmetic ones by `lostSign_eq`,
`shiftLeftArith_toNat` and `shiftLeftArith_toInt` at each width. -/
theorem shiftsOfPairs : Obligations.ShiftsOfPairs := by
  intro s r n hq
  refine ⟨?plain, ?word, ?pair⟩
  case plain =>
    intro d p x hx
    simp only [List.mem_cons, List.not_mem_nil, or_false] at hx
    rcases hx with rfl | rfl | rfl
    · exact perform_shiftPair (op := opSlld r n) hq rfl (shiftLeft_toNat d n.toNat)
    · exact perform_shiftPair (op := opSrld r n) hq rfl (ushiftRight_toNat d n.toNat)
    · exact perform_shiftPair (op := opSrad r n) hq rfl (sshiftRight_toNat d n.toNat)
  case word =>
    intro v x c1 hc1
    have hlost : lostSign v n.toNat = c1 := lostSign_eq v n.isLt
    have hop : opSla r n (s.start .half) =
        .ok () (((s.start .half).setReg r (shiftLeftArith v n.toNat)).setCC ⟨c1, false, false, false⟩) := by
      rw [← hlost] at hc1 ⊢
      exact shiftCC_ok hc1
    obtain ⟨t, ht, hregs, hend, hothers, hval, hcc⟩ :=
      perform_setReg_setCC (len := .half) (u := s.start .half) hq rfl hop
    refine ⟨t, ht, hregs, hend, hcc, hothers, ?_, fun hin => ?_⟩
    · rw [hval]
      exact shiftLeftArith_toNat v (by decide) n.toNat
    · obtain ⟨hlow, hhigh⟩ := not_or.mp (of_decide_eq_false hin)
      rw [hval]
      exact shiftLeftArith_toInt v (by decide) (not_lt.mp hlow) (not_le.mp hhigh)
  case pair =>
    intro v x c1 hc1
    have hlost : lostSign v n.toNat = c1 := lostSign_eq v (n.isLt.trans (by decide))
    have hop : opSlad r n (s.start .half) =
        .ok () (((s.start .half).setPair r (shiftLeftArith v n.toNat)).setCC ⟨c1, false, false, false⟩) := by
      rw [← hlost] at hc1 ⊢
      exact shiftCC_ok hc1
    obtain ⟨t, ht, hregs, hend, hcc, hothers, hval⟩ := perform_setPair_setCC hq hop
    refine ⟨t, ht, hregs, hend, hcc, hothers, ?_, fun hin => ?_⟩
    · exact (congrArg BitVec.toNat hval).trans (shiftLeftArith_toNat v (by decide) n.toNat)
    · obtain ⟨hlow, hhigh⟩ := not_or.mp (of_decide_eq_false hin)
      exact (congrArg BitVec.toInt hval).trans
        (shiftLeftArith_toInt v (by decide) (not_lt.mp hlow) (not_le.mp hhigh))

end Sys2Proof.Proofs
end

section
/-!
NOR, NORD and SCZ (R442 to R444): normalization multiplies by 16 until bits 0 to 4 are neither all zeros nor all ones,
which is until the signed number fits no four bits less; the leading zeros place an unsigned number between two powers
of two. The count is written after the result.
-/

namespace Sys2Proof.Machine

/-! ### Normalization -/

/-- Signed numbers of `n` bits whose bits 0 to 4 are neither all zeros nor all ones (R442, decision D38). -/
def Normal (n : Nat) (x : Int) : Prop := ¬(-2 ^ (n - 5) ≤ x ∧ x < 2 ^ (n - 5))

section Normalize

variable {n : Nat}

/-- The test of `normalize`, in numbers. -/
theorem leadingFive_iff (v : BitVec n) (hn : 5 ≤ n) :
    (bits v 0 5 = 0 ∨ bits v 0 5 = 31) ↔ ¬Normal n v.toInt := by
  have hpow : (2 : Nat) ^ n = 32 * 2 ^ (n - 5) := by
    rw [← Nat.add_sub_cancel' hn, pow_add, Nat.add_sub_cancel_left]
    rfl
  have hfive : (bits v 0 5).toNat = v.toNat / 2 ^ (n - 5) := by
    rw [bits_toNat]
    exact Nat.mod_eq_of_lt (Nat.div_lt_of_lt_mul (v.isLt.trans_eq (hpow.trans (Nat.mul_comm _ _))))
  have hpos : 0 < 2 ^ (n - 5) := by positivity
  have hzeros : bits v 0 5 = 0 ↔ v.toNat < 2 ^ (n - 5) := by
    rw [← BitVec.toNat_inj, hfive]
    exact Nat.div_eq_zero_iff_lt hpos
  have hones : bits v 0 5 = 31 ↔ 31 * 2 ^ (n - 5) ≤ v.toNat := by
    have hle : 31 ≤ v.toNat / 2 ^ (n - 5) ↔ 31 * 2 ^ (n - 5) ≤ v.toNat := Nat.le_div_iff_mul_le hpos
    have hlt : (bits v 0 5).toNat < 32 := (bits v 0 5).isLt
    rw [← BitVec.toNat_inj, ← hle, ← hfive]
    exact ⟨fun h => h.ge, fun h => (Nat.le_antisymm h (Nat.le_of_lt_succ hlt)).symm⟩
  have hlt := v.isLt
  have hcast : ((2 ^ (n - 5) : Nat) : Int) = 2 ^ (n - 5) := by push_cast; rfl
  rw [hzeros, hones, Normal, not_not, BitVec.toInt_eq_toNat_cond, ← hcast, hpow]
  rw [hpow] at hlt
  split <;> omega

/-- What `normalize` leaves: the number times a power of 16, in normal form (R442). -/
structure NormalizedBy (v y : BitVec n) (j : Nat) : Prop where
  scaled : y.toInt = v.toInt * 16 ^ j
  normal : Normal n y.toInt

theorem NormalizedBy.of_shiftLeft_four {v y : BitVec n} {j : Nat} (h4 : (v <<< 4).toInt = v.toInt * 16)
    (h : NormalizedBy (v <<< 4) y j) : NormalizedBy v y (j + 1) where
  scaled := by rw [h.scaled, h4, pow_succ', mul_assoc]
  normal := h.normal

/-- Multiplying by 16 a number that is not in normal form stays in range. -/
theorem shiftLeft_four_toInt {v : BitVec n} (hn : 5 ≤ n) (h : ¬Normal n v.toInt) :
    (v <<< 4).toInt = v.toInt * 16 := by
  have hpow : (2 : Int) ^ (n - 1) = 2 ^ (n - 5) * 16 := by
    rw [show (16 : Int) = 2 ^ 4 from rfl, ← pow_add]
    congr 1
    omega
  obtain ⟨hlow, hhigh⟩ := not_not.mp h
  exact shiftLeft_toInt v (k := 4) (by omega) (by omega) (by omega)

/-- A number of at least `2 ^ (n - 4)` needs no shift. -/
theorem normal_of_le_abs (hn : 5 ≤ n) {x : Int} (h : 2 ^ (n - 4) ≤ |x|) : Normal n x := by
  rintro ⟨hlow, hhigh⟩
  have hpow : (2 : Int) ^ (n - 4) = 2 ^ (n - 5) * 2 := by
    rw [← pow_succ]
    congr 1
    omega
  have hpos : (0 : Int) < 2 ^ (n - 5) := by positivity
  have habs : |x| ≤ 2 ^ (n - 5) := abs_le.mpr ⟨hlow, hhigh.le⟩
  omega

theorem normalize_of_normal (hn : 5 ≤ n) {v : BitVec n} (h : Normal n v.toInt) (f k : Nat) :
    normalize (f + 1) v k = (v, k) := by
  rw [normalize, if_neg (by rw [leadingFive_iff v hn]; exact not_not.mpr h)]

theorem NormalizedBy.of_normal {v : BitVec n} (h : Normal n v.toInt) : NormalizedBy v v 0 :=
  ⟨by rw [pow_zero, mul_one], h⟩

/-- A number that `f` groups of four shifts take out of the four bits below the sign is in normal form after at most `f`
of them; one step of fuel more sees it. -/
theorem normalize_spec (hn : 5 ≤ n) (f : Nat) (v : BitVec n) (k : Nat) (hbig : 2 ^ (n - 4) ≤ |v.toInt| * 16 ^ f) :
    ∃ y j, normalize (f + 1) v k = (y, k + j) ∧ j ≤ f ∧ NormalizedBy v y j := by
  induction f generalizing v k with
  | zero =>
    have hv : Normal n v.toInt := normal_of_le_abs hn (by rwa [pow_zero, mul_one] at hbig)
    exact ⟨v, 0, normalize_of_normal hn hv 0 k, le_rfl, .of_normal hv⟩
  | succ f ih =>
    by_cases hv : Normal n v.toInt
    · exact ⟨v, 0, normalize_of_normal hn hv (f + 1) k, Nat.zero_le _, .of_normal hv⟩
    · have h4 := shiftLeft_four_toInt hn hv
      have hbig' : 2 ^ (n - 4) ≤ |(v <<< 4).toInt| * 16 ^ f := by
        rw [h4, abs_mul, mul_assoc]
        rwa [pow_succ'] at hbig
      obtain ⟨y, j, hy, hj, hyv⟩ := ih (v <<< 4) (k + 1) hbig'
      refine ⟨y, j + 1, ?_, Nat.succ_le_succ hj, hyv.of_shiftLeft_four h4⟩
      rw [normalize, if_pos ((leadingFive_iff v hn).mpr hv), hy, Nat.add_right_comm, Nat.add_assoc]

theorem normalized_zero {v : BitVec n} (h : v = 0) : normalized v = (0, 0) := if_pos h

/-- Normalization of a number that is not zero: `n / 4 - 1` groups of four shifts are enough for one bit (R442,
R443). -/
theorem normalized_spec {f : Nat} (hf : 0 < f) (hfuel : n = 4 * (f + 1)) (hcount : f ≤ 0x40) {v : BitVec n}
    (hv : v ≠ 0) : ∃ j, j ≤ f ∧ NormalizedBy v (normalized v).1 j ∧ (normalized v).2.toNat = 0x40 - j := by
  have hne : v.toInt ≠ 0 := fun h => hv (BitVec.eq_of_toInt_eq (h.trans BitVec.toInt_zero.symm))
  have hbig : 2 ^ (n - 4) ≤ |v.toInt| * 16 ^ f := by
    have hpow : (2 : Int) ^ (n - 4) = 16 ^ f := by
      rw [hfuel, show 4 * (f + 1) - 4 = 4 * f by omega, pow_mul]
      rfl
    rw [hpow]
    exact le_mul_of_one_le_left (by positivity) (Int.one_le_abs hne)
  obtain ⟨y, j, hy, hj, hyv⟩ := normalize_spec (by omega) f v 0 hbig
  have hsteps : n / 4 = f + 1 := by omega
  have hnorm : normalized v = (y, BitVec.ofNat 32 (0x40 - j)) := by
    rw [normalized, if_neg hv, hsteps, hy, Nat.zero_add]
  refine ⟨j, hj, by rw [hnorm]; exact hyv, ?_⟩
  rw [hnorm, BitVec.toNat_ofNat]
  omega

end Normalize

/-! ### Leading zeros -/

theorem bitAt_zero_iff (v : Word) : bitAt v 0 = true ↔ 2 ^ 31 ≤ v.toNat := by
  rw [bitAt_eq_decide, decide_eq_true_eq]
  omega

/-- A number that has a one among its first `f` bits has fewer than `f` leading zeros, and shifting them out leaves bit
0 set (R444). -/
theorem leadingZeros_spec (f : Nat) (v : Word) (h : 2 ^ 32 ≤ v.toNat * 2 ^ f) :
    leadingZeros f v < f ∧ 2 ^ 31 ≤ v.toNat * 2 ^ leadingZeros f v ∧ v.toNat * 2 ^ leadingZeros f v < 2 ^ 32 := by
  induction f generalizing v with
  | zero => omega
  | succ f ih =>
    rw [leadingZeros]
    split
    · next hbit => exact ⟨Nat.succ_pos f, by simpa using (bitAt_zero_iff v).mp hbit, by omega⟩
    · next hbit =>
      have hsmall : v.toNat < 2 ^ 31 := not_le.mp fun hle => hbit ((bitAt_zero_iff v).mpr hle)
      have hdouble : (v <<< 1).toNat = v.toNat * 2 := by rw [shiftLeft_toNat]; omega
      have hpow (k : Nat) : v.toNat * 2 ^ (k + 1) = (v <<< 1).toNat * 2 ^ k := by
        rw [hdouble, pow_succ', mul_assoc]
      rw [hpow] at h ⊢
      obtain ⟨hlt, hlow, hhigh⟩ := ih _ h
      exact ⟨Nat.succ_lt_succ hlt, hlow, hhigh⟩

/-- The number of leading zeros as the place of the first one bit. -/
theorem leadingZeros_bounds {v : Word} (hv : v ≠ 0) :
    leadingZeros 32 v ≤ 31 ∧ 2 ^ (31 - leadingZeros 32 v) ≤ v.toNat ∧ v.toNat < 2 ^ (32 - leadingZeros 32 v) := by
  have hpos : 0 < v.toNat := Nat.pos_of_ne_zero fun h => hv (BitVec.eq_of_toNat_eq h)
  obtain ⟨hlt, hlow, hhigh⟩ := leadingZeros_spec 32 v (Nat.le_mul_of_pos_left _ hpos)
  have hc : 0 < 2 ^ leadingZeros 32 v := by positivity
  have hpow {a : Nat} (ha : leadingZeros 32 v ≤ a) : 2 ^ a = 2 ^ (a - leadingZeros 32 v) * 2 ^ leadingZeros 32 v := by
    rw [← pow_add, Nat.sub_add_cancel ha]
  rw [hpow (a := 31) (by omega)] at hlow
  rw [hpow (a := 32) (by omega)] at hhigh
  exact ⟨by omega, Nat.le_of_mul_le_mul_right hlow hc, Nat.lt_of_mul_lt_mul_right hhigh⟩

theorem opScz_zero {s : State} {r : Reg} (rc : Reg) (h : s.reg r = 0) :
    opScz r rc s = .ok () (((s.setReg r 0).setReg rc 0).setCC ⟨false, false, false, true⟩) := by
  simp only [opScz, ccZero, h, if_true, decide_true]
  rfl

theorem opScz_nonzero {s : State} {r : Reg} (rc : Reg) (h : s.reg r ≠ 0) :
    opScz r rc s = .ok () (((s.setReg r (s.reg r <<< (leadingZeros 32 (s.reg r) + 1))).setReg rc
      (BitVec.ofNat 32 (leadingZeros 32 (s.reg r)))).setCC ⟨false, false, false, false⟩) := by
  simp only [opScz, ccZero, h, if_false, decide_false]

/-! ### The end of the instructions -/

/-- An instruction that puts `v` in `r`, then the count `e` in `rc`. -/
theorem perform_counted {len : Len} {op : State → Res Unit} {s : State} {r rc : Reg} {v e : Word} {c : CC}
    (hq : s.quiet) (h : op (s.start len) = .ok () ((((s.start len).setReg r v).setReg rc e).setCC c)) :
    ∃ t, perform len op s = .next t ∧ onlyRegs s t ∧ Ended len s t ∧ t.cc = c ∧
      (∀ q, q ≠ r → q ≠ rc → t.reg q = s.reg q) ∧ (r ≠ rc → t.reg r = v) ∧ t.reg rc = e := by
  obtain ⟨ht, hregs, hend⟩ := perform_regs_ended hq h rfl rfl rfl
  refine ⟨_, ht, hregs, hend, rfl, fun q hr hrc => ?_, fun hne => ?_, ?_⟩
  all_goals rw [finish_reg, State.reg_setCC, State.reg_setReg]
  · rw [if_neg hrc, State.reg_setReg, if_neg hr, State.reg_start]
  · rw [if_neg hne, State.reg_setReg_same]
  · rw [if_pos rfl]

/-- The same with the pair of `r`. -/
theorem perform_countedPair {len : Len} {op : State → Res Unit} {s : State} {r rc : Reg} {v : Dword} {e : Word}
    (hq : s.quiet) (h : op (s.start len) = .ok () (((s.start len).setPair r v).setReg rc e)) :
    ∃ t, perform len op s = .next t ∧ onlyRegs s t ∧ Ended len s t ∧ t.cc = s.cc ∧
      (∀ q, q ≠ r → q ≠ r + 1 → q ≠ rc → t.reg q = s.reg q) ∧ (r ≠ rc → t.reg r = bits v 0 32) ∧
      (r + 1 ≠ rc → t.reg (r + 1) = bits v 32 32) ∧ t.reg rc = e := by
  obtain ⟨ht, hregs, hend⟩ := perform_regs_ended hq h rfl rfl rfl
  refine ⟨_, ht, hregs, hend, rfl, fun q hr hr' hrc => ?_, fun hne => ?_, fun hne => ?_, ?_⟩
  all_goals rw [finish_reg, State.reg_setReg]
  · rw [if_neg hrc, State.reg_setPair, if_neg hr, if_neg hr', State.reg_start]
  · rw [if_neg hne, State.reg_setPair, if_pos rfl]
  · rw [if_neg hne, State.reg_setPair, if_neg (State.add_one_ne r).symm, if_pos rfl]
  · rw [if_pos rfl]

theorem pair_eq_zero_iff (s : State) (r : Reg) : s.pair r = 0 ↔ s.reg r = 0 ∧ s.reg (r + 1) = 0 := by
  have hpair : (s.pair r).toNat = _ := append_toNat (s.reg r) (s.reg (r + 1))
  simp only [← BitVec.toNat_inj, hpair, BitVec.ofNat_eq_ofNat, BitVec.toNat_ofNat]
  omega

end Sys2Proof.Machine

namespace Sys2Proof.Proofs

open Sys2Proof.Machine

/-- Settles O26: the registers by `perform_counted` and `perform_countedPair`, the results by `normalized_spec` and
`leadingZeros_bounds`. -/
theorem normalizes : Obligations.Normalizes := by
  refine ⟨fun s r rc hq => ⟨?nor, ?nord⟩, fun s r rc hq => ?scz⟩
  case nor =>
    obtain ⟨t, ht, hregs, hend, hcc, hothers, hval, hcount⟩ :=
      perform_counted (len := .half) (op := opNor r rc) (v := (normalized (s.reg r)).1)
        (e := (normalized (s.reg r)).2) (c := s.cc) hq rfl
    by_cases hv : s.reg r = 0
    · rw [normalized_zero hv] at hval hcount
      refine ⟨t, 0, 0, ht, hregs, hend, hcc, hothers, hval, ?_⟩
      rw [if_pos hv]
      exact ⟨rfl, hcount⟩
    · obtain ⟨j, hj, hby, hexp⟩ := normalized_spec (f := 7) (by decide) rfl (by decide) hv
      refine ⟨t, _, j, ht, hregs, hend, hcc, hothers, hval, ?_⟩
      rw [if_neg hv, hcount]
      exact ⟨hj, hby.scaled, hby.normal, hexp⟩
  case nord =>
    obtain ⟨t, ht, hregs, hend, hcc, hothers, hhigh, hlow, hcount⟩ :=
      perform_countedPair (len := .half) (op := opNord r rc) (v := (normalized (s.pair r)).1)
        (e := (normalized (s.pair r)).2) hq rfl
    by_cases hv : s.pair r = 0
    · rw [normalized_zero hv] at hhigh hlow hcount
      refine ⟨t, 0, 0, ht, hregs, hend, hcc, hothers, hhigh, hlow, ?_⟩
      rw [if_pos ((pair_eq_zero_iff s r).mp hv)]
      exact ⟨rfl, hcount⟩
    · obtain ⟨j, hj, hby, hexp⟩ := normalized_spec (f := 15) (by decide) rfl (by decide) hv
      refine ⟨t, _, j, ht, hregs, hend, hcc, hothers, hhigh, hlow, ?_⟩
      rw [if_neg (mt (pair_eq_zero_iff s r).mpr hv), hcount]
      exact ⟨hj, hby.scaled, hby.normal, hexp⟩
  case scz =>
    by_cases hv : s.reg r = 0
    · obtain ⟨t, ht, hregs, hend, hcc, hothers, hval, hcount⟩ :=
        perform_counted hq (opScz_zero (s := s.start .half) rc hv)
      refine ⟨t, 0, 0, ht, hregs, hend, hothers, fun hne => by rw [hval hne]; rfl, by rw [hcount]; rfl, ?_, ?_⟩
      · rw [hcc, decide_eq_true hv]
      · rw [if_pos hv]
        exact ⟨rfl, rfl⟩
    · obtain ⟨t, ht, hregs, hend, hcc, hothers, hval, hcount⟩ :=
        perform_counted hq (opScz_nonzero (s := s.start .half) rc hv)
      obtain ⟨hc, hlow, hhigh⟩ := leadingZeros_bounds hv
      refine ⟨t, _, _, ht, hregs, hend, hothers, fun hne => by rw [hval hne, shiftLeft_toNat], rfl, ?_, ?_⟩
      · rw [hcc, decide_eq_false hv]
      · have hnum : (t.reg rc).toNat = leadingZeros 32 (s.reg r) := by
          rw [hcount, BitVec.toNat_ofNat]
          exact Nat.mod_eq_of_lt (lt_of_le_of_lt hc (by decide))
        rw [if_neg hv, hnum]
        exact ⟨hc, hlow, hhigh, rfl⟩

end Sys2Proof.Proofs
end

section
/-!
The bit instructions on a general register (R470, R471, R474, R476, R480): the bit picked by byte and bit number is
reported and replaced, testing it being replacing it by itself; and the fields of their format, by which the operation
codes decode.
-/

namespace Sys2Proof.Machine

/-! ### One bit replaced -/

section PutBit

variable {n : Nat} (v : BitVec n)

theorem getLsbD_putBit_same {i : Nat} (b : Bool) (hi : i < n) : (putBit v i b).getLsbD i = b :=
  (State.getLsbD_putBit v i b i hi).trans (if_pos rfl)

theorem getLsbD_putBit_ne {i q : Nat} (b : Bool) (h : q ≠ i) : (putBit v i b).getLsbD q = v.getLsbD q := by
  by_cases hq : q < n
  · exact (State.getLsbD_putBit v i b q hq).trans (if_neg h)
  · rw [BitVec.getLsbD_of_ge _ _ (not_lt.mp hq), BitVec.getLsbD_of_ge _ _ (not_lt.mp hq)]

theorem putBit_self (i : Nat) : putBit v i (v.getLsbD i) = v := by
  refine BitVec.eq_of_getLsbD_eq fun q hq => ?_
  by_cases h : q = i
  · subst h
    exact getLsbD_putBit_same v _ hq
  · exact getLsbD_putBit_ne v _ h

end PutBit

theorem setReg_reg_self (s : State) (r : Reg) : s.setReg r (s.reg r) = s := by
  rw [State.setReg, State.reg, Vector.set_getElem_self]

/-! ### The end of the instruction -/

/-- TBR is the replacement of the bit by itself (R480). -/
theorem opTbr_eq (b : BitVec 3) (r : Reg) (y : BitVec 2) (s : State) :
    opTbr b r y s = .ok () (putRegBit b r y (bitAt (s.reg r) (regBit b y)) s) := by
  have hput : putBitAt (s.reg r) (regBit b y) (bitAt (s.reg r) (regBit b y)) = s.reg r := putBit_self _ _
  rw [putRegBit, hput, setReg_reg_self, opTbr]

/-- An instruction that reports a register's bit, of weight `2^j`, and makes it `v`. -/
theorem perform_putRegBit {op : State → Res Unit} {s : State} {b : BitVec 3} {r : Reg} {y : BitVec 2} {v : Bool}
    {j : Nat} (hq : s.quiet) (hj : j = 31 - regBit b y)
    (h : op (s.start .half) = .ok () (putRegBit b r y v (s.start .half))) :
    ∃ t, perform .half op s = .next t ∧ onlyRegs s t ∧ Ended .half s t ∧
      t.cc = ccShift ((s.reg r).getLsbD j) s.cc ∧ regsBut r s t ∧ (t.reg r).getLsbD j = v ∧
      ∀ q, q ≠ j → (t.reg r).getLsbD q = (s.reg r).getLsbD q := by
  subst hj
  obtain ⟨t, ht, hregs, hend, hothers, hval, hcc⟩ := perform_setReg_setCC hq (onlyHalt_refl _) h
  refine ⟨t, ht, hregs, hend, hcc, hothers, ?_, fun q hne => ?_⟩
  · rw [hval]
    exact getLsbD_putBit_same _ v (by omega)
  · rw [hval]
    exact getLsbD_putBit_ne _ v hne

end Sys2Proof.Machine

namespace Sys2Proof

/-! ### The bit format (R470) -/

theorem bitWord_toNat (op : BitVec 6) (b : BitVec 3) (r : Reg) (y : BitVec 2) :
    (bitWord op b r y).toNat = op.toNat * 2 ^ 26 + b.toNat * 2 ^ 23 + r.toNat * 2 ^ 20 + y.toNat * 2 ^ 16 := by
  unfold bitWord
  simp only [Machine.append_toNat, BitVec.ofNat_eq_ofNat, BitVec.toNat_ofNat]
  omega

theorem bitWord_fields (op : BitVec 6) (b : BitVec 3) (r : Reg) (y : BitVec 2) :
    opOf (bitWord op b r y) = op.toNat ∧ f6 (bitWord op b r y) = b ∧ f9 (bitWord op b r y) = r ∧
      bits (bitWord op b r y) 14 2 = y := by
  have hop : opOf (bitWord op b r y) = _ := Machine.bits_toNat (bitWord op b r y) 0 6
  have hn := bitWord_toNat op b r y
  refine ⟨by omega, Machine.bits_of_toNat ?_, Machine.bits_of_toNat ?_, Machine.bits_of_toNat ?_⟩
  all_goals omega

/-- Putting the operands into a halfword of the table of R170: each bit belongs to one field alone. -/
theorem bitHalf_fields (op : BitVec 6) (b : BitVec 3) (r : Reg) (y : BitVec 2) :
    op ++ (0 : BitVec 10) ||| b.setWidth 16 <<< 7 ||| r.setWidth 16 <<< 4 ||| y.setWidth 16 =
      op ++ b ++ r ++ (0 : BitVec 2) ++ y := by
  ext i hi
  grind

/-- A row of the operation code map whose one form has a bit number, a register and a byte number. -/
theorem decode_bitHalf {b : BitVec 3} {r : Reg} {y : BitVec 2} {h : Half} {f : BitVec 3 → Reg → BitVec 2 → Instr}
    (op : BitVec 6) (hh : h = op ++ (0 : BitVec 10))
    (hf : ∀ w, decodeOp op.toNat w = .ok (f (f6 w) (f9 w) (bits w 14 2))) :
    decode ((h ||| b.setWidth 16 <<< 7 ||| r.setWidth 16 <<< 4 ||| y.setWidth 16) ++ (0 : Half)) = .ok (f b r y) := by
  obtain ⟨hop, hb, hr, hy⟩ := bitWord_fields op b r y
  rw [hh, bitHalf_fields]
  change decode (bitWord op b r y) = _
  rw [decode, hop, hf, hb, hr, hy]

end Sys2Proof

namespace Sys2Proof.Proofs

open Sys2Proof.Machine

/-- Settles O27: the words by `decode_bitHalf`, the effects by `perform_putRegBit`, TBR's as the bit put back. -/
theorem registerBits : Obligations.RegisterBits := by
  intro s r b y hq word j cc p hp
  simp only [List.mem_cons, List.not_mem_nil, or_false] at hp
  rcases hp with rfl | rfl | rfl
  · exact ⟨decode_bitHalf 0x06 rfl fun _ => rfl, perform_putRegBit (op := opSbr b r y) hq rfl rfl⟩
  · exact ⟨decode_bitHalf 0x07 rfl fun _ => rfl, perform_putRegBit (op := opZbr b r y) hq rfl rfl⟩
  · exact ⟨decode_bitHalf 0x09 rfl fun _ => rfl, perform_putRegBit hq rfl (opTbr_eq b r y (s.start .half))⟩

end Sys2Proof.Proofs
end

section
/-!
The bit instructions on a byte in memory (R470, R471, R473, R475, R479): the byte at the translated address is read,
its bit reported, and SBM and ZBM store the byte with that bit replaced (R131).
-/

namespace Sys2Proof.Machine

/-! ### The bit and the byte -/

theorem bitAt_peek_byte (s : State) (a : Nat) (b : BitVec 3) :
    bitAt (s.peek a .byte) (24 + b.toNat) = (s.byte a).getLsbD (7 - b.toNat) := by
  have hbit : 32 - 1 - (24 + b.toNat) = 7 - b.toNat := by omega
  rw [bitAt, hbit, State.peek, BitVec.getLsbD_setWidth, decide_eq_true (by omega), Bool.true_and]

/-- The byte that SBM and ZBM store (R473, R475). -/
theorem byte_poke_putBit {s : State} (a : Nat) (b : BitVec 3) (v : Bool) (hw : Memory.wf s.mem = true) :
    (s.poke a .byte (putBitAt (s.peek a .byte) (24 + b.toNat) v)).byte a = putBit (s.byte a) (7 - b.toNat) v :=
  BitVec.eq_of_getLsbD_eq fun q hq =>
    (getLsbD_byte_poke_putBit hw hq).trans (State.getLsbD_putBit (s.byte a) (7 - b.toNat) v q hq).symm

/-! ### The accesses -/

theorem onlyStored_of_onlyHalt {s t : State} (h : onlyHalt s t) : onlyStored s t := by
  unfold onlyHalt at h; unfold onlyStored; rw [h]

theorem onlyHalt_mem {s t : State} (h : onlyHalt s t) : t.mem = s.mem := by
  unfold onlyHalt at h; rw [h]

/-- A store after reads is a store in the state before them. -/
theorem Poked.of_onlyHalt {a : Nat} {n : Size} {x : Word} {s u t : State} (hu : onlyHalt s u) (h : Poked a n x u t) :
    Poked a n x s t where
  frame := onlyStored_trans (onlyStored_of_onlyHalt hu) h.frame
  mem := h.mem.trans (mem_poke_congr a n x (onlyHalt_mem hu))

/-- A locked store that is permitted and goes to installed memory (R111, R131). -/
theorem locked_memWrite_poked {s : State} {a pa : Addr} {n : Size} (x : Word) (h : storesTo s a n pa) :
    ∃ t, locked (memWrite a n x) s = .ok () t ∧ Poked pa.toNat n x s t := by
  refine ⟨_, locked_memWrite_eq x h, ?_, rfl⟩
  rw [poke_eq]
  rfl

/-- The byte read by a bit instruction, `g` being what the instruction does with its address and value (R470). -/
theorem bitAddress_read {α : Type} {s u : State} {m : MemRef} {x : Target} {pa : Addr}
    (g : Addr → Word → State → Res α) (hb : s.between = []) (ho : s.operandParity = false)
    (hres : resolve .operand m s = .ok x u) (ht : u.translate .operand false x.ea.addr = .ok pa)
    (hp : s.present pa .byte = true) :
    ∃ t, onlyHalt s t ∧ onlyHalt u t ∧
      ((bitAddress m s).bind fun a s => (memRead .operand a .byte s).bind fun w s => g a w s) =
        g x.ea.addr (s.peek pa.toNat .byte) t := by
  have hu := resolve_onlyHalt hb hres
  obtain ⟨t, hread, ht⟩ := memRead_alone (n := .byte) ((onlyHalt_between hu).trans hb) ht
    ((onlyHalt_installed hu _ _).trans hp) ((onlyHalt_operandParity hu).trans ho)
  refine ⟨t, onlyHalt_trans hu ht, ht, ?_⟩
  rw [bitAddress, hres, Res.bind_ok, Res.bind_ok, hread, Res.bind_ok, onlyHalt_peek hu]

section Effects

variable {s u : State} {b : BitVec 3} {m : MemRef} {x : Target} {pa : Addr} (hb : s.between = [])
  (ho : s.operandParity = false) (hres : resolve .operand m s = .ok x u)
include hb ho hres

/-- SBM and ZBM (R473, R475). -/
theorem putMemBit_poked (v : Bool) (hst : storesTo u x.ea.addr .byte pa) :
    ∃ t, putMemBit b m v s =
        .ok () (t.setCC (ccShift ((s.byte pa.toNat).getLsbD (7 - b.toNat)) s.cc)) ∧
      Poked pa.toNat .byte (putBitAt (s.peek pa.toNat .byte) (24 + b.toNat) v) s t := by
  have hp : s.present pa .byte = true := (onlyHalt_installed (resolve_onlyHalt hb hres) _ _).symm.trans hst.present
  obtain ⟨t, hs, hu, hread⟩ := bitAddress_read (fun a w s =>
    (locked (memWrite a .byte (putBitAt w (24 + b.toNat) v)) s).bind fun _ s =>
      .ok () (s.setCC (ccShift (bitAt w (24 + b.toNat)) s.cc))) hb ho hres (translate_read_of_write hst.real) hp
  obtain ⟨t', hwrite, ht'⟩ := locked_memWrite_poked (putBitAt (s.peek pa.toNat .byte) (24 + b.toNat) v)
    (storesTo_of_onlyStored (onlyStored_of_onlyHalt hu) hst)
  have hpoked := ht'.of_onlyHalt hs
  refine ⟨t', ?_, hpoked⟩
  rw [putMemBit, hread, hwrite, Res.bind_ok, bitAt_peek_byte, onlyStored_cc hpoked.frame]

/-- TBM (R479). -/
theorem opTbm_ok (ht : u.translate .operand false x.ea.addr = .ok pa) (hp : s.present pa .byte = true) :
    ∃ t, opTbm b m s = .ok () (t.setCC (ccShift ((s.byte pa.toNat).getLsbD (7 - b.toNat)) s.cc)) ∧ onlyHalt s t := by
  obtain ⟨t, hs, -, hread⟩ := bitAddress_read
    (fun _ w s => .ok () (s.setCC (ccShift (bitAt w (24 + b.toNat)) s.cc))) hb ho hres ht hp
  refine ⟨t, ?_, hs⟩
  rw [opTbm, hread, bitAt_peek_byte, onlyHalt_cc hs]

end Effects

/-! ### The end of the instructions -/

/-- An instruction that stores a byte with the bit of weight `2^j` made `v`, and sets the condition codes. -/
theorem perform_pokedBit {op : State → Res Unit} {s u : State} {a : Nat} {b : BitVec 3} {v : Bool} {c : CC}
    (hq : s.quiet) (hw : Memory.wf s.mem = true) (h : op (s.start .word) = .ok () (u.setCC c))
    (hu : Poked a .byte (putBitAt (s.peek a .byte) (24 + b.toNat) v) (s.start .word) u) :
    ∃ t, perform .word op s = .next t ∧ onlyMem s t ∧ Ended .word s t ∧ t.cc = c ∧ bytesBut a 1 s t ∧
      Memory.wf t.mem = true ∧ t.byte a = putBit (s.byte a) (7 - b.toNat) v := by
  have hframe : effectMem (s.start .word) (u.setCC c) := effectMem_trans (effectMem_of_onlyStored hu.frame) rfl
  obtain ⟨ht, hmem, hend⟩ := perform_mem_ended hq h hframe (onlyStored_pc hu.frame) (onlyStored_lastBix hu.frame)
  have hbyte : u.byte a = putBit (s.byte a) (7 - b.toNat) v :=
    (byte_congr hu.mem a).trans (byte_poke_putBit (s := s.start .word) a b v hw)
  exact ⟨_, ht, hmem, hend, rfl, hu.others, hu.wf hw, hbyte⟩

/-- An instruction that reads memory and sets the condition codes alone. -/
theorem perform_setCC {len : Len} {op : State → Res Unit} {s u : State} {c : CC} (hq : s.quiet)
    (hu : onlyHalt (s.start len) u) (h : op (s.start len) = .ok () (u.setCC c)) :
    ∃ t, perform len op s = .next t ∧ Ended len s t ∧ t = { s.endedAs t with cc := c } := by
  obtain ⟨hr, rfl⟩ := exists_haltReq hu
  obtain ⟨ht, hend⟩ := perform_done_ended hq h rfl rfl rfl rfl rfl rfl rfl
  exact ⟨_, ht, hend, rfl⟩

end Sys2Proof.Machine

namespace Sys2Proof.Proofs

open Sys2Proof.Machine

/-- Settles O28: SBM and ZBM by `putMemBit_poked` and `perform_pokedBit`, TBM by `opTbm_ok` and `perform_setCC`. -/
theorem memoryBits : Obligations.MemoryBits := by
  intro s b m x u pa hq hw ho hres old j cc
  constructor
  · intro hst p hp
    have hexec : exec p.1 s = perform .word (putMemBit b m p.2) s := by
      simp only [List.mem_cons, List.not_mem_nil, or_false] at hp
      rcases hp with rfl | rfl <;> rfl
    obtain ⟨v, hop, hv⟩ := putMemBit_poked (s := s.start .word) (b := b) hq.alone ho hres p.2 hst
    obtain ⟨t, ht, hmem, hend, hcc, hothers, hwt, hbyte⟩ := perform_pokedBit hq hw hop hv
    refine ⟨t, hexec.trans ht, hmem, hend, hcc, hothers, hwt, ?_, fun q hne => ?_⟩
    · rw [hbyte]
      exact getLsbD_putBit_same old p.2 (by omega)
    · rw [hbyte]
      exact getLsbD_putBit_ne old p.2 hne
  · intro ht hp
    obtain ⟨v, hop, hv⟩ := opTbm_ok (s := s.start .word) (b := b) hq.alone ho hres ht hp
    exact perform_setCC hq hv hop

end Sys2Proof.Proofs
end

section
/-!
ARMB to ARMD and ABM (R477, R500 to R503): the operand that stands at the place is read, the sum is stored at the same
place (`addToMemory_stored`), and the condition codes report on it.
-/

namespace Sys2Proof.Machine

/-! ### The operand at a real address -/

def Operand.width : Operand → Width
  | .byte _ => .byte
  | .half _ => .half
  | .word _ => .word
  | .dword _ => .dword

theorem operandAt_width (s : State) (w : Width) (a : Nat) : (s.operandAt w a).width = w := by
  cases w <;> rfl

theorem operandAt_congr {s t : State} (h : t.mem = s.mem) (w : Width) (a : Nat) :
    t.operandAt w a = s.operandAt w a := by
  cases w <;> simp only [State.operandAt, byte_congr h, peek_congr h]

theorem bits_setWidth_low {n k a : Nat} (v : BitVec k) (h : a + k = n) : bits (v.setWidth n) a k = v := by
  have hlow : n - a - k = 0 := by omega
  have hlt : v.toNat < 2 ^ n := v.isLt.trans_le (Nat.pow_le_pow_right (by decide) (by omega))
  refine bits_of_toNat ?_
  rw [hlow, BitVec.toNat_setWidth, Nat.mod_eq_of_lt hlt, pow_zero, Nat.div_one, Nat.mod_eq_of_lt v.isLt]

theorem bits_whole {n : Nat} (v : BitVec n) : bits v 0 n = v := by
  have h := bits_setWidth_low (n := n) v (Nat.zero_add n)
  rwa [BitVec.setWidth_eq] at h

/-- Every operand is what a store of its width takes from some register pair (R250 to R253). -/
theorem exists_storeValue (o : Operand) : ∃ v : Dword, storeValue o.width v = o := by
  cases o with
  | byte v =>
    exact ⟨v.setWidth 32 ++ (0 : Word), congrArg Operand.byte
      ((bits_append_left _ _ (by decide)).trans (bits_setWidth_low v rfl))⟩
  | half v =>
    exact ⟨v.setWidth 32 ++ (0 : Word), congrArg Operand.half
      ((bits_append_left _ _ (by decide)).trans (bits_setWidth_low v rfl))⟩
  | word v =>
    exact ⟨v ++ (0 : Word), congrArg Operand.word
      ((bits_append_left _ _ (by decide)).trans (bits_whole v))⟩
  | dword v => exact ⟨v, rfl⟩

theorem operandAt_of_holds {t : State} {w : Width} {a : Nat} {v : Dword} (h : t.holds w a v) :
    t.operandAt w a = storeValue w v := by
  cases w with
  | byte => exact congrArg Operand.byte h
  | half =>
    have hpeek : t.peek a .half = (bits v 16 16).setWidth 32 := h
    rw [State.operandAt, ← bits_peek_half, hpeek, bits_setWidth_low _ rfl, storeValue]
  | word => exact congrArg Operand.word h
  | dword =>
    obtain ⟨hhigh, hlow⟩ := h
    rw [State.operandAt, hhigh, hlow, storeValue]
    exact congrArg Operand.dword (bits_append_bits (n := 32) (k := 32) v)

/-! ### Reading an operand and storing one at the same place -/

/-- `t` is `s` with the operand `o` in the bytes from the real address `a` on (R111). -/
structure Placed (o : Operand) (a : Nat) (s t : State) : Prop where
  frame : onlyStored s t
  wf : Memory.wf t.mem = true
  value : t.operandAt o.width a = o
  others : bytesBut a o.width.bytes s t

theorem Placed.of_onlyHalt {o : Operand} {a : Nat} {s u t : State} (hu : onlyHalt s u) (h : Placed o a u t) :
    Placed o a s t where
  frame := onlyStored_trans (onlyStored_of_onlyHalt hu) h.frame
  wf := h.wf
  value := h.value
  others := fun b hb => (h.others b hb).trans (onlyHalt_byte hu b)

theorem writeAt_placed {o : Operand} {a pa : Addr} {s : State} (hb : s.between = []) (hw : Memory.wf s.mem = true)
    (hst : storesTo s (operandAddr o.width a) o.width.unit pa) (hi : s.installed pa.toNat o.width.bytes = true) :
    ∃ t, writeAt a o s = .ok () t ∧ Placed o pa.toNat s t := by
  obtain ⟨v, hv⟩ := exists_storeValue o
  have hpa := operandAddr_of_mod (translate_aligned hst.real)
  obtain ⟨t, ht, hstored⟩ := physWriteAt_stored (w := o.width) (a := pa) v hb hw (by rw [hpa]; exact hi)
  rw [hpa] at hstored
  have hwrite := (writeAt_eq_physWriteAt v hb hst hi).trans ht
  rw [hv] at hwrite
  exact ⟨t, hwrite, hstored.frame, hstored.wf, (operandAt_of_holds hstored.value).trans hv, hstored.others⟩

theorem readAt_operandAt {w : Width} {a pa : Addr} {s : State} (hb : s.between = []) (ho : s.operandParity = false)
    (ht : s.translate .operand false (operandAddr w a) = .ok pa) (hi : s.installed pa.toNat w.bytes = true) :
    ∃ t, readAt w a s = .ok (s.operandAt w pa.toNat) t ∧ onlyHalt s t := by
  cases w with
  | byte => exact readAt_byte hb ho ht hi
  | half => exact readAt_half hb ho ht hi
  | word => exact readAt_word hb ho ht hi
  | dword => exact readAt_dword hb ho ht hi

/-! ### The sum and its report -/

theorem addOv_fst {n : Nat} (a b : BitVec n) : (addOv a b).1 = BitVec.ofInt n (a.toInt + b.toInt) := by
  rw [addOv, BitVec.ofInt_add, BitVec.ofInt_toInt, BitVec.ofInt_toInt]

theorem overflows_eq (n : Nat) (x : Int) : overflows n x = decide (x < -2 ^ (n - 1) ∨ 2 ^ (n - 1) ≤ x) :=
  (Bool.decide_or _ _).symm

/-- What ARMx stores where it found `o`, the register being that of `s` (R500 to R503). -/
def State.sumWith (s : State) (r : Reg) (o : Operand) : Operand :=
  match o with
  | .byte v => .byte (bits (s.reg r + v.setWidth 32) 24 8)
  | .half v => .half (bits (s.reg r) 16 16 + v)
  | .word v => .word (addOv (s.reg r) v).1
  | .dword v => .dword (addOv (s.pair r) v).1

/-- What ARMx does in `t`, after its store: the condition codes and the exception, from the register of `s` and the
operand `o` that was found (R500 to R503). -/
def reportSum (r : Reg) (o : Operand) (s t : State) : Res Unit :=
  match o with
  | .byte v => .ok () (undefinedCC (decide (s.reg r + v.setWidth 32 = 0)) t)
  | .half v => .ok () (undefinedCC (decide (bits (s.reg r) 16 16 + v = 0)) t)
  | .word v => arithCheck (t.setCC (ccArith (addOv (s.reg r) v).2 (addOv (s.reg r) v).1))
  | .dword v => arithCheck (t.setCC (ccArith (addOv (s.pair r) v).2 (addOv (s.pair r) v).1))

theorem sumWith_width (s : State) (r : Reg) (o : Operand) : (s.sumWith r o).width = o.width := by
  cases o <;> rfl

theorem sumWith_onlyHalt {s t : State} (h : onlyHalt s t) (r : Reg) (o : Operand) : t.sumWith r o = s.sumWith r o := by
  cases o <;> simp only [State.sumWith, onlyHalt_reg h, onlyHalt_pair h]

theorem reportSum_onlyHalt {s t : State} (h : onlyHalt s t) (r : Reg) (o : Operand) :
    reportSum r o t = reportSum r o s := by
  funext u
  cases o <;> simp only [reportSum, onlyHalt_reg h, onlyHalt_pair h]

theorem addToMemory_eq {r : Reg} {m : MemRef} {s u v : State} {x : Target} {o : Operand}
    (hres : resolve .operand m s = .ok x u) (hread : readAt x.ea.width x.ea.addr u = .ok o v) :
    addToMemory r m s = (writeAt x.ea.addr (v.sumWith r o) v).bind fun _ t => reportSum r o v t := by
  rw [addToMemory, hres, Res.bind_ok, hread, Res.bind_ok]
  cases o <;> rfl

/-- The sum goes to the place the operand came from (R500 to R503). -/
theorem addToMemory_stored {r : Reg} {m : MemRef} {s u : State} {x : Target} {pa : Addr} (hb : s.between = [])
    (hw : Memory.wf s.mem = true) (ho : s.operandParity = false) (hres : resolve .operand m s = .ok x u)
    (hst : storesTo u (operandAddr x.ea.width x.ea.addr) x.ea.width.unit pa)
    (hi : s.installed pa.toNat x.ea.width.bytes = true) :
    ∃ t, addToMemory r m s = reportSum r (s.operandAt x.ea.width pa.toNat) s t ∧
      Placed (s.sumWith r (s.operandAt x.ea.width pa.toNat)) pa.toNat s t := by
  have hu := resolve_onlyHalt hb hres
  have hiu := (onlyHalt_installed hu _ _).trans hi
  obtain ⟨v, hread, hv⟩ := readAt_operandAt ((onlyHalt_between hu).trans hb) ((onlyHalt_operandParity hu).trans ho)
    (translate_read_of_write hst.real) hiu
  rw [operandAt_congr (onlyHalt_mem hu)] at hread
  have hs := onlyHalt_trans hu hv
  have hwidth : (s.sumWith r (s.operandAt x.ea.width pa.toNat)).width = x.ea.width := by
    rw [sumWith_width, operandAt_width]
  obtain ⟨t, hwrite, hplaced⟩ := writeAt_placed (o := s.sumWith r (s.operandAt x.ea.width pa.toNat))
    (a := x.ea.addr) (pa := pa) ((onlyHalt_between hs).trans hb) (by rw [onlyHalt_mem hs]; exact hw)
    (by rw [hwidth]; exact storesTo_of_onlyStored (onlyStored_of_onlyHalt hv) hst)
    (by rw [hwidth]; exact (onlyHalt_installed hs _ _).trans hi)
  refine ⟨t, ?_, hplaced.of_onlyHalt hs⟩
  rw [addToMemory_eq hres hread, sumWith_onlyHalt hs, hwrite, Res.bind_ok, reportSum_onlyHalt hs]

/-- ABM: one added at a bit of the word that holds the addressed byte (R477, decision D40). -/
theorem opAbm_poked {b : BitVec 3} {m : MemRef} {s u : State} {x : Target} {pa : Addr} (hb : s.between = [])
    (ho : s.operandParity = false) (hres : resolve .operand m s = .ok x u)
    (hst : storesTo u (wordAlign x.ea.addr) .word pa) :
    let y := addBit (s.peek pa.toNat .word) (8 * (x.ea.addr.toNat % 4) + b.toNat)
    ∃ t, opAbm b m s = arithCheck (t.setCC (ccArith y.2 y.1)) ∧ Poked pa.toNat .word y.1 s t := by
  intro y
  have hu := resolve_onlyHalt hb hres
  have hbit : (bits x.ea.addr 22 2).toNat = x.ea.addr.toNat % 4 := (bits_toNat x.ea.addr 22 2).trans (by simp)
  obtain ⟨v, hread, hv⟩ := memRead_alone (n := .word) ((onlyHalt_between hu).trans hb)
    (translate_read_of_write hst.real) hst.present ((onlyHalt_operandParity hu).trans ho)
  rw [onlyHalt_peek hu] at hread
  obtain ⟨t, hwrite, ht⟩ := locked_memWrite_poked y.1 (storesTo_of_onlyStored (onlyStored_of_onlyHalt hv) hst)
  refine ⟨t, ?_, ht.of_onlyHalt (onlyHalt_trans hu hv)⟩
  rw [opAbm, bitAddress, hres, Res.bind_ok, Res.bind_ok, hread, Res.bind_ok, hbit]
  exact congrArg (·.bind fun _ t => arithCheck (t.setCC (ccArith y.2 y.1))) hwrite

/-! ### The end of the instructions -/

theorem onlyStored_arithEnabled {s t : State} (h : onlyStored s t) : t.arithEnabled = s.arithEnabled := by
  unfold onlyStored at h; rw [h]; rfl

/-- A store whose condition codes are `c`, their CC1 raising no exception (R749). -/
theorem perform_stored_arithCheck {len : Len} {op : State → Res Unit} {s u : State} {c : CC} (hq : s.quiet)
    (hu : onlyStored (s.start len) u) (h : op (s.start len) = arithCheck (u.setCC c))
    (hc : c.cc1 = true → s.arithEnabled = false) :
    ∃ t, perform len op s = .next t ∧ onlyMem s t ∧ Ended len s t ∧ t.mem = u.mem ∧ t.cc = c := by
  have hok : arithCheck (u.setCC c) = .ok () (u.setCC c) :=
    arithCheck_ok fun h1 => (onlyStored_arithEnabled hu).trans (hc h1)
  obtain ⟨ht, hmem, hend⟩ := perform_mem_ended hq (h.trans hok) (effectMem_trans (effectMem_of_onlyStored hu) rfl)
    (onlyStored_pc hu) (onlyStored_lastBix hu)
  exact ⟨_, ht, hmem, hend, rfl, rfl⟩

/-- A store after which CC1 to CC3 are undefined (log 6). -/
theorem perform_stored_undefinedCC {len : Len} {op : State → Res Unit} {s u : State} {z : Bool} (hq : s.quiet)
    (hu : onlyStored (s.start len) u) (h : op (s.start len) = .ok () (undefinedCC z u)) :
    ∃ t, perform len op s = .next t ∧ onlyMem { s with freeCount := t.freeCount } t ∧ Ended len s t ∧
      t.mem = u.mem ∧ t.cc.cc4 = z := by
  unfold onlyStored at hu
  obtain ⟨ht, hend⟩ := perform_done_ended hq h (by rw [hu]; rfl) (by rw [hu]; rfl) (by rw [hu]; rfl)
    (by rw [hu]; rfl) (by rw [hu]; rfl) (by rw [hu]; rfl) (by rw [hu]; rfl)
  refine ⟨_, ht, ?_, hend, rfl, rfl⟩
  unfold onlyMem
  rw [hu]
  rfl

theorem bytesBut_congr {a n : Nat} {s t u : State} (h : t.mem = u.mem) (hu : bytesBut a n s u) : bytesBut a n s t :=
  fun b hb => (byte_congr h b).trans (hu b hb)

theorem exec_addToMemory {i : Instr} {r : Reg} {m : MemRef} (s : State)
    (hi : i ∈ [Instr.armb r m, .armh r m, .armw r m, .armd r m]) : exec i s = perform .word (addToMemory r m) s := by
  simp only [List.mem_cons, List.not_mem_nil, or_false] at hi
  rcases hi with rfl | rfl | rfl | rfl <;> rfl

/-! ### Sums of bytes and halfwords as numbers -/

theorem lowByte_add_toNat (x : Word) (v : Byte) :
    (bits (x + v.setWidth 32) 24 8).toNat = (x.toNat + v.toNat) % 256 := by
  have hv := v.isLt
  rw [bits_toNat, BitVec.toNat_add, BitVec.toNat_setWidth]
  omega

theorem add_byte_eq_zero_iff (x : Word) (v : Byte) : x + v.setWidth 32 = 0 ↔ (x.toNat + v.toNat) % 2 ^ 32 = 0 := by
  have hv := v.isLt
  have h0 : (0 : Word).toNat = 0 := rfl
  rw [← BitVec.toNat_inj, BitVec.toNat_add, BitVec.toNat_setWidth, h0]
  omega

theorem lowHalf_add_toNat (x : Word) (v : Half) : (bits x 16 16 + v).toNat = (x.toNat + v.toNat) % 65536 := by
  rw [BitVec.toNat_add, bits_toNat]
  omega

theorem lowHalf_add_eq_zero_iff (x : Word) (v : Half) : bits x 16 16 + v = 0 ↔ (x.toNat + v.toNat) % 65536 = 0 := by
  rw [← lowHalf_add_toNat, ← BitVec.toNat_inj]
  rfl

theorem peek_half_toNat_append (s : State) (a : Nat) : (s.peek a .half).toNat = (s.byte a ++ s.byte (a + 1)).toNat := by
  rw [peek_half_toNat, append_toNat]

/-! ### The instructions -/

/-- The overflow of the sum of ARMx, which a byte or a halfword does not have (R500 to R503). -/
def State.sumOverflows (s : State) (r : Reg) (o : Operand) : Bool :=
  match o with
  | .byte _ => false
  | .half _ => false
  | .word v => (addOv (s.reg r) v).2
  | .dword v => (addOv (s.pair r) v).2

/-- What ARMx changes besides memory, where it found the operand `o`: the condition codes, and for a byte or a halfword
the number of free values taken. -/
def sumReported (r : Reg) (o : Operand) (s t : State) : Prop :=
  match o with
  | .byte v => onlyMem { s with freeCount := t.freeCount } t ∧ t.cc.cc4 = decide (s.reg r + v.setWidth 32 = 0)
  | .half v => onlyMem { s with freeCount := t.freeCount } t ∧ t.cc.cc4 = decide (bits (s.reg r) 16 16 + v = 0)
  | .word v => onlyMem s t ∧ signCC (addOv (s.reg r) v).2 (addOv (s.reg r) v).1 t.cc
  | .dword v => onlyMem s t ∧ signCC (addOv (s.pair r) v).2 (addOv (s.pair r) v).1 t.cc

theorem perform_reportSum {op : State → Res Unit} {s u : State} {r : Reg} {o : Operand} (hq : s.quiet)
    (hu : onlyStored (s.start .word) u) (h : op (s.start .word) = reportSum r o (s.start .word) u)
    (hc : s.sumOverflows r o = true → s.arithEnabled = false) :
    ∃ t, perform .word op s = .next t ∧ Ended .word s t ∧ t.mem = u.mem ∧ sumReported r o s t := by
  cases o with
  | byte v | half v =>
    obtain ⟨t, ht, hframe, hend, hmem, hcc⟩ := perform_stored_undefinedCC hq hu h
    exact ⟨t, ht, hend, hmem, hframe, hcc⟩
  | word v | dword v =>
    obtain ⟨t, ht, hframe, hend, hmem, hcc⟩ := perform_stored_arithCheck hq hu h hc
    exact ⟨t, ht, hend, hmem, hframe, hcc ▸ signCC_ccArith _ _⟩

/-- ARMx on an operand of width `w` at the real address `pa` (R500 to R503). -/
theorem perform_addToMemory {s u : State} {r : Reg} {m : MemRef} {x : Target} {w : Width} {pa : Addr} (hq : s.quiet)
    (hw : Memory.wf s.mem = true) (ho : s.operandParity = false) (hres : resolve .operand m (s.start .word) = .ok x u)
    (hwidth : x.ea.width = w) (hst : storesTo u (operandAddr x.ea.width x.ea.addr) w.unit pa)
    (hi : s.installed pa.toNat w.bytes = true)
    (hc : s.sumOverflows r (s.operandAt w pa.toNat) = true → s.arithEnabled = false) :
    ∃ t, perform .word (addToMemory r m) s = .next t ∧ Ended .word s t ∧
      t.operandAt w pa.toNat = s.sumWith r (s.operandAt w pa.toNat) ∧ bytesBut pa.toNat w.bytes s t ∧
      sumReported r (s.operandAt w pa.toNat) s t := by
  subst hwidth
  obtain ⟨v, hop, hplaced⟩ := addToMemory_stored (s := s.start .word) (r := r) hq.alone hw ho hres hst hi
  have hstart : (s.start .word).operandAt x.ea.width pa.toNat = s.operandAt x.ea.width pa.toNat :=
    operandAt_congr rfl _ _
  rw [hstart] at hop hplaced
  obtain ⟨t, ht, hend, hmem, hreport⟩ := perform_reportSum hq hplaced.frame hop hc
  have hval := hplaced.value
  have hothers := hplaced.others
  rw [sumWith_width, operandAt_width] at hval hothers
  exact ⟨t, ht, hend, (operandAt_congr hmem _ _).trans hval, bytesBut_congr hmem hothers, hreport⟩

end Sys2Proof.Machine

namespace Sys2Proof.Proofs

open Sys2Proof.Machine

/-- Settles O21: ARMB to ARMD by `perform_addToMemory`, the sum of each width read as a number; ABM by `opAbm_poked`. -/
theorem addToMemory : Obligations.AddToMemory := by
  constructor
  · intro s r m x u pa hq hw ho hres w a i hi
    have hexec := exec_addToMemory s hi
    have hinst {n : Nat} : u.installed pa.toNat n = true → s.installed pa.toNat n = true :=
      ((onlyHalt_installed (resolve_onlyHalt (s := s.start .word) hq.alone hres) _ _).symm.trans ·)
    cases hwidth : w with
    | byte =>
      intro hst v
      obtain ⟨t, ht, hend, hval, hothers, hframe, hcc⟩ := perform_addToMemory (r := r) hq hw ho hres hwidth
        hst (hinst hst.present) (fun h => absurd h Bool.false_ne_true)
      have hbyte := congrArg BitVec.toNat (Operand.byte.inj hval)
      refine ⟨t, hexec.trans ht, hframe, hend, hbyte.trans (lowByte_add_toNat _ _), hothers, ?_⟩
      rw [hcc, decide_eq_true_iff]
      exact add_byte_eq_zero_iff _ _
    | half =>
      intro hst v
      obtain ⟨t, ht, hend, hval, hothers, hframe, hcc⟩ := perform_addToMemory (r := r) hq hw ho hres hwidth
        hst (hinst hst.present) (fun h => absurd h Bool.false_ne_true)
      have hhalf := congrArg BitVec.toNat (Operand.half.inj hval)
      rw [lowHalf_add_toNat, ← peek_half_toNat_append, ← peek_half_toNat_append] at hhalf
      refine ⟨t, hexec.trans ht, hframe, hend, hhalf, hothers, ?_⟩
      rw [hcc, decide_eq_true_iff, lowHalf_add_eq_zero_iff, ← peek_half_toNat_append]
    | word =>
      intro hst v c1 hc
      have hov : (addOv (s.reg r) (s.peek pa.toNat .word)).2 = c1 := overflows_eq 32 v
      obtain ⟨t, ht, hend, hval, hothers, hframe, hcc⟩ := perform_addToMemory (r := r) hq hw ho hres hwidth
        hst (hinst hst.present) (fun h => hc (hov.symm.trans h))
      have hsum := addOv_fst (s.reg r) (s.peek pa.toNat .word)
      rw [hov, hsum] at hcc
      exact ⟨t, hexec.trans ht, hframe, hend, (Operand.word.inj hval).trans hsum, hothers, hcc⟩
    | dword =>
      intro hst hpair v c1 hc
      have hov : (addOv (s.pair r) (s.peek pa.toNat .word ++ s.peek (pa.toNat + 4) .word)).2 = c1 := overflows_eq 64 v
      obtain ⟨t, ht, hend, hval, hothers, hframe, hcc⟩ := perform_addToMemory (r := r) hq hw ho hres hwidth
        hst hpair (fun h => hc (hov.symm.trans h))
      have hsum := addOv_fst (s.pair r) (s.peek pa.toNat .word ++ s.peek (pa.toNat + 4) .word)
      rw [hov, hsum] at hcc
      exact ⟨t, hexec.trans ht, hframe, hend, (Operand.dword.inj hval).trans hsum, hothers, hcc⟩
  · intro s b m x u pa hq hw ho hres hst v c1 hc
    obtain ⟨y, hop, hpoked⟩ := opAbm_poked (s := s.start .word) (b := b) hq.alone ho hres hst
    have hov : (addBit (s.peek pa.toNat .word) (8 * (x.ea.addr.toNat % 4) + b.toNat)).2 = c1 := overflows_eq 32 v
    have hsum := addBit_fst (s.peek pa.toNat .word) (8 * (x.ea.addr.toNat % 4) + b.toNat)
    obtain ⟨t, ht, hframe, hend, hmem, hcc⟩ := perform_stored_arithCheck hq hpoked.frame hop
      (fun h => hc (hov.symm.trans h))
    refine ⟨t, ht, hframe, hend, ?_, bytesBut_congr hmem hpoked.others, hmem ▸ hpoked.wf hw, ?_⟩
    · rw [peek_congr hmem]
      exact (hpoked.peek_word hw).trans hsum
    · rw [hcc, ← hov, ← hsum]
      exact signCC_ccArith _ _

end Sys2Proof.Proofs
end

section
/-!
What every piece of an instruction leaves: the invariant, and an Arithmetic Exception only where CC1 is set and the
exception enabled (R749). `Steady` is the rule of a piece that writes memory at most of what the invariant speaks of;
`Sound` that of any piece. Both are closed under `Res.bind`, and every instruction's effect is sound.
-/

namespace Sys2Proof.Machine

/-! ### What the invariant speaks of -/

/-- The state with every field blanked that the invariant does not mention. -/
def State.core (s : State) : State :=
  { State.reset with
    mem := s.mem, psd2 := s.psd2, mode := s.mode, mapActive := s.mapActive, blocked := s.blocked,
    blockCount := s.blockCount, enabled := s.enabled, request := s.request, active := s.active, dev := s.dev,
    wcs := s.wcs, cfg := s.cfg }

/-- The invariant reads the core alone. -/
theorem inv_core_iff (s : State) : s.core.Inv ↔ s.Inv :=
  ⟨fun h => ⟨h.mem, h.memInstalled, h.wcs, h.wcsInstalled, h.psd2, h.pswMap, h.pswBlocked, h.blockCount, h.enabled,
    h.request, h.active, h.devLevels, h.cfg⟩,
   fun h => ⟨h.mem, h.memInstalled, h.wcs, h.wcsInstalled, h.psd2, h.pswMap, h.pswBlocked, h.blockCount, h.enabled,
    h.request, h.active, h.devLevels, h.cfg⟩⟩

theorem State.Inv.congr {s t : State} (hs : s.Inv) (h : t.core = s.core) : t.Inv := by
  rw [← inv_core_iff, h, inv_core_iff]
  exact hs

/-- Memory in its canonical form and inside what is installed. -/
structure State.memSound (s : State) : Prop where
  wf : Memory.wf s.mem = true
  installed : ∀ c ∈ s.mem, s.installed c.1 1 = true

theorem State.Inv.memSound {s : State} (h : s.Inv) : s.memSound := ⟨h.mem, h.memInstalled⟩

/-- Of what the invariant speaks of `t` has but its memory changed, and that soundly. -/
structure invFrame (s t : State) : Prop where
  core : t.core = { s with mem := t.mem }.core
  mem : s.memSound → t.memSound

section Frame

variable {s t u : State}

theorem invFrame.of (h : t.core = s.core) : invFrame s t where
  core := by
    have hm : t.core.mem = s.core.mem := congrArg State.mem h
    exact (congrArg (fun m => ({ s with mem := m } : State).core) hm).symm ▸ h
  mem := fun hs => by
    have hm : t.core.mem = s.core.mem := congrArg State.mem h
    have hc : t.core.cfg = s.core.cfg := congrArg State.cfg h
    change t.mem = s.mem at hm
    change t.cfg = s.cfg at hc
    refine ⟨hm ▸ hs.wf, fun c hc' => ?_⟩
    have hi := hs.installed c (hm ▸ hc')
    unfold State.installed at hi ⊢
    rw [hc]
    exact hi

theorem invFrame.trans (h : invFrame s t) (h' : invFrame t u) : invFrame s u where
  core := by
    have hst : ({ t with mem := u.mem } : State).core = { s with mem := u.mem }.core :=
      congrArg (fun v : State => { v with mem := u.mem }) h.core
    exact h'.core.trans hst
  mem := fun hs => h'.mem (h.mem hs)

theorem invFrame.mode (h : invFrame s t) : t.mode = s.mode :=
  (congrArg State.mode h.core : t.core.mode = _)

theorem invFrame.cfg (h : invFrame s t) : t.cfg = s.cfg := (congrArg State.cfg h.core : t.core.cfg = _)

theorem invFrame.inv (h : invFrame s t) (hs : s.Inv) : t.Inv := by
  have hm := h.mem hs.memSound
  have hcore : ({ s with mem := t.mem } : State).Inv :=
    { hs with
      mem := hm.wf
      memInstalled := fun c hc => by
        have hi := hm.installed c hc
        unfold State.installed at hi ⊢
        rw [h.cfg] at hi
        exact hi }
  exact hcore.congr h.core

theorem invFrame_poke {a : Nat} {n : Size} (v : Word) (hp : s.installed a n.bytes = true) :
    invFrame s (s.poke a n v) where
  core := by rw [poke_eq]
  mem := fun hs => by
    refine ⟨wf_poke s a n v hs.wf, fun c hc => ?_⟩
    have hi : (s.poke a n v).installed c.1 1 = s.installed c.1 1 := by rw [poke_eq]; rfl
    rw [hi]
    rcases mem_poke s a n v c hc with ⟨hlo, hhi⟩ | hold
    · exact installed_byte hp hlo hhi
    · exact hs.installed c hold

theorem invFrame_storeAll (l : List (Addr × Byte)) (s : State) : invFrame s (storeAll l s) where
  core := by rw [(storeAll_spec l s).1]
  mem := fun hs => by
    refine ⟨(storeAll_spec l s).2 hs.wf, fun c hc => ?_⟩
    have hi : (storeAll l s).installed c.1 1 = s.installed c.1 1 := by rw [(storeAll_spec l s).1]; rfl
    rw [hi]
    exact (mem_storeAll hc).elim (hs.installed c) id

theorem invFrame_interleave (s : State) : invFrame s s.interleave := by
  unfold State.interleave
  split
  · exact .of rfl
  · next l rest _ =>
    have h : invFrame s { s with between := rest } := .of rfl
    exact h.trans (invFrame_storeAll l _)

end Frame

/-! ### The two rules, and how they pass through an instruction -/

/-- Where `x` raises the Arithmetic Exception, CC1 is set and the exception enabled (R749). -/
def arithDue {α : Type} (x : Res α) : Prop :=
  ∀ u, x = .stop (.trap .arithmetic) u → u.cc.cc1 = true ∧ u.arithEnabled = true

/-- The rule of a piece that changes memory at most of what the invariant speaks of. -/
structure Steady {α : Type} (s : State) (x : Res α) : Prop where
  frame : invFrame s x.state
  arith : arithDue x

/-- The rule of every piece. -/
structure Sound {α : Type} (s : State) (x : Res α) : Prop where
  inv : s.Inv → x.state.Inv
  arith : arithDue x

section Rules

variable {α β : Type} {s t : State} {x : Res α} {f : α → State → Res β}

theorem arithDue_ok {a : α} : arithDue (Res.ok a t) := fun u h => by cases h

theorem arithDue_stop {e : Stop} (he : e ≠ .trap .arithmetic) : arithDue (Res.stop e t : Res α) := fun u h => by
  cases h
  exact absurd rfl he

theorem arithDue_bind (hx : arithDue x) (hf : ∀ v t, x = .ok v t → arithDue (f v t)) : arithDue (x.bind f) := by
  intro u h
  rcases Res.bind_eq_stop h with h | ⟨v, t, hv, h⟩
  · exact hx u h
  · exact hf v t hv u h

theorem Steady.ok {a : α} (h : t.core = s.core) : Steady s (.ok a t) := ⟨.of h, arithDue_ok⟩

theorem Steady.stop {e : Stop} (h : t.core = s.core) (he : e ≠ .trap .arithmetic) : Steady s (.stop e t : Res α) :=
  ⟨.of h, arithDue_stop he⟩

theorem Steady.ok_of {a : α} (h : Steady s (.ok a t)) {u : State} (hc : u.core = t.core) : Steady s (.ok a u) :=
  ⟨h.frame.trans (.of hc), arithDue_ok⟩

theorem Steady.stop_of {e : Stop} (h : Steady s (.stop e t : Res α)) {u : State} (hc : u.core = t.core)
    (hcc : u.cc = t.cc) (he : u.arithEnabled = t.arithEnabled) : Steady s (.stop e u : Res α) where
  frame := h.frame.trans (.of hc)
  arith := fun v hv => by
    cases hv
    rw [hcc, he]
    exact h.arith t rfl

theorem Steady.after (h : invFrame s t) (hx : Steady t x) : Steady s x := ⟨h.trans hx.frame, hx.arith⟩

theorem Steady.bind (hx : Steady s x) (hf : ∀ v t, Steady t (f v t)) : Steady s (x.bind f) where
  frame := by
    cases x with
    | stop e t => exact hx.frame
    | ok v t => exact hx.frame.trans (hf v t).frame
  arith := arithDue_bind hx.arith fun v t _ => (hf v t).arith

theorem Sound.of (h : Steady s x) : Sound s x := ⟨h.frame.inv, h.arith⟩

theorem Sound.ok {a : α} (h : s.Inv → t.Inv) : Sound s (.ok a t) := ⟨h, arithDue_ok⟩

theorem Sound.bind (hx : Sound s x) (hf : ∀ v t, Sound t (f v t)) : Sound s (x.bind f) where
  inv := fun hs => by
    cases x with
    | stop e t => exact hx.inv hs
    | ok v t => exact (hf v t).inv (hx.inv hs)
  arith := arithDue_bind hx.arith fun v t _ => (hf v t).arith

/-- A steady piece, then one that is sound in a state of the same core but for memory. -/
theorem Steady.bindSound (hx : Steady s x) (hf : ∀ v t, x = .ok v t → invFrame s t → Sound t (f v t)) :
    Sound s (x.bind f) where
  inv := fun hs => by
    cases x with
    | stop e t => exact hx.frame.inv hs
    | ok v t => exact (hf v t rfl hx.frame).inv (hx.frame.inv hs)
  arith := arithDue_bind hx.arith fun v t hv => (hf v t hv (hv ▸ hx.frame :)).arith

end Rules

section Pieces

variable {s : State}

/-! ### The checks that come first and the exception that comes last -/

theorem arithCheck_steady {u : State} (h : u.core = s.core) : Steady s (arithCheck u) := by
  unfold arithCheck
  split
  · next hc =>
    rw [Bool.and_eq_true] at hc
    refine ⟨.of h, fun v hv => ?_⟩
    cases hv
    exact hc
  · exact .ok h

theorem requirePsd_steady : Steady s (requirePsd s) := by
  unfold requirePsd
  split
  · exact .stop rfl nofun
  · exact .ok rfl

theorem requirePriv_steady : Steady s (requirePriv s) := by
  unfold requirePriv
  split
  · exact .ok rfl
  · exact .stop rfl nofun

theorem requireUnmapped_steady : Steady s (requireUnmapped s) := by
  unfold requireUnmapped
  split
  · exact .stop rfl nofun
  · exact .ok rfl

theorem requireJumper_steady : Steady s (requireJumper s) := by
  unfold requireJumper
  split
  · exact .ok rfl
  · exact .stop rfl nofun

/-- After the mode check the mode is PSD. -/
theorem requirePsd_mode {u : State} {v : Unit} (h : requirePsd s = .ok v u) : u = s ∧ s.mode = .psd := by
  unfold requirePsd at h
  split at h <;> cases h
  exact ⟨rfl, by assumption⟩

/-- The checks of a privileged PSD mode instruction, then a steady piece. -/
theorem psdPriv_steady {α : Type} {f : Unit → State → Res α} (hf : ∀ v t, Steady t (f v t)) :
    Steady s ((requirePsd s).bind fun _ u => (requirePriv u).bind f) :=
  requirePsd_steady.bind fun _ _ => requirePriv_steady.bind hf

/-- The same, then a piece that is sound in PSD mode. -/
theorem psdPriv_sound {α : Type} {f : Unit → State → Res α} (hf : ∀ v t, t.mode = .psd → Sound t (f v t)) :
    Sound s ((requirePsd s).bind fun _ u => (requirePriv u).bind f) :=
  requirePsd_steady.bindSound fun _ _ hu _ => requirePriv_steady.bindSound fun v t _ ht =>
    hf v t (ht.mode.trans ((requirePsd_mode hu).1 ▸ (requirePsd_mode hu).2))

/-! ### Accesses to memory -/

theorem operandErr_ne (e : MemErr) : operandErr e ≠ .arithmetic := by cases e <;> nofun

theorem switchErr_ne (b : Bool) (e : MemErr) : switchErr b e ≠ .arithmetic := nofun

theorem intErr_ne (s : State) (l : Level) (e : MemErr) : intErr s l e ≠ .arithmetic := by
  simp only [intErr, switchErr, Trap.of]
  split <;> nofun

theorem stop_ne_arithmetic {t : Trap} (h : t ≠ .arithmetic) : Stop.trap t ≠ .trap .arithmetic := fun e => by
  cases e
  exact h rfl

theorem physRead_steady {err : MemErr → Trap} {pa : Addr} {n : Size} (herr : ∀ e, err e ≠ .arithmetic) :
    Steady s (physRead err pa n s) := by
  unfold physRead readNow
  refine .after (invFrame_interleave s) ?_
  split
  · exact .stop rfl (stop_ne_arithmetic (herr _))
  · split
    · exact .stop rfl (stop_ne_arithmetic (herr _))
    · exact .ok rfl

theorem physWrite_steady {err : MemErr → Trap} {pa : Addr} {n : Size} {v : Word} (herr : ∀ e, err e ≠ .arithmetic) :
    Steady s (physWrite err pa n v s) := by
  unfold physWrite writeNow
  refine .after (invFrame_interleave s) ?_
  split
  · next hp => exact ⟨invFrame_poke v hp, arithDue_ok⟩
  · exact .stop rfl (stop_ne_arithmetic (herr _))

theorem operandRead_steady {pa : Addr} {n : Size} : Steady s (operandRead pa n s) :=
  (physRead_steady operandErr_ne).bind fun _ _ => .ok rfl

theorem operandWrite_steady {pa : Addr} {n : Size} {v : Word} : Steady s (operandWrite pa n v s) :=
  (physWrite_steady operandErr_ne).bind fun _ _ => .ok rfl

theorem translate_ne_arithmetic {k : Access} {w : Bool} {a : Addr} {t : Trap} (h : s.translate k w a = .error t) :
    t ≠ .arithmetic := by
  unfold State.translate at h
  repeat' split at h
  all_goals cases h <;> nofun

theorem memRead_steady {k : Access} {a : Addr} {n : Size} : Steady s (memRead k a n s) := by
  unfold memRead
  split
  · next h => exact .stop rfl (stop_ne_arithmetic (translate_ne_arithmetic h))
  · exact operandRead_steady

theorem memWrite_steady {a : Addr} {n : Size} {v : Word} : Steady s (memWrite a n v s) := by
  unfold memWrite
  split
  · next h => exact .stop rfl (stop_ne_arithmetic (translate_ne_arithmetic h))
  · split
    · exact .stop rfl nofun
    · exact operandWrite_steady

theorem locked_steady {α : Type} {x : State → Res α} (hx : ∀ u, Steady u (x u)) : Steady s (locked x s) := by
  have h := hx { s with between := [] }
  refine .after (t := { s with between := [] }) (.of rfl) ?_
  unfold locked
  split <;> rename_i e <;> rw [e] at h
  · exact h.ok_of rfl
  · exact h.stop_of rfl rfl rfl

/-! ### The MAP and the PSD -/

theorem loadEntries_steady {err : MemErr → Trap} (herr : ∀ e, err e ≠ .arithmetic) {n : Nat} {p : Addr} {cell : Nat} :
    Steady s (loadEntries err n p cell s) := by
  induction n generalizing p cell s with
  | zero => exact .ok rfl
  | succ n ih =>
    unfold loadEntries
    split
    · exact .stop rfl nofun
    · exact (physRead_steady herr).bind fun _ t => .after (.of rfl : invFrame t (t.setMapReg _ _)) ih

theorem loadSegments_steady {err : MemErr → Trap} (herr : ∀ e, err e ≠ .arithmetic) {n : Nat} {list : Addr}
    {cell : Nat} : Steady s (loadSegments err n list cell s) := by
  induction n generalizing list cell s with
  | zero => exact .ok rfl
  | succ n ih => exact (physRead_steady herr).bind fun _ _ => (loadEntries_steady herr).bind fun _ _ => ih

theorem loadMap_steady {err : MemErr → Trap} (herr : ∀ e, err e ≠ .arithmetic) {psd2 : Word} :
    Steady s (loadMap err psd2 s) := by
  refine (physRead_steady herr).bind fun mscd t => ?_
  split
  · exact .ok rfl
  · split
    · exact (physRead_steady herr).bind fun _ _ => (physRead_steady herr).bind fun _ _ =>
        (loadEntries_steady herr).bind fun _ _ => loadSegments_steady herr
    · exact loadSegments_steady herr

theorem psd2Kept_command (w2 : Word) : bits (psd2Kept w2) 15 3 = 0 := by
  refine bits_eq_zero ?_
  rw [psd2Kept, append_toNat, append_toNat]
  have h1 := (bits w2 18 14).isLt
  have h2 := (bits w2 0 15).isLt
  simp
  omega

/-- BLOCKED written keeps the count at zero while not blocked (R756). -/
theorem inv_setBlocked {b : Bool} (hm : s.mode = .psw → b = false) (hs : s.Inv) : (s.setBlocked b).Inv :=
  { hs with
    pswBlocked := hm
    blockCount := fun h => by
      have hb : b = false := h
      subst hb
      rfl }

theorem inv_withPsd {w1 w2 : Word} (hm : s.mode = .psd) (hs : s.Inv) : (s.withPsd w1 w2).Inv := by
  have hpsw : s.mode ≠ .psw := by rw [hm]; nofun
  exact inv_setBlocked (fun h => absurd h hpsw)
    { hs with psd2 := psd2Kept_command w2, pswMap := fun h => absurd h hpsw }

theorem loadPsd_sound {err : MemErr → Trap} (herr : ∀ e, err e ≠ .arithmetic) {w1 w2 : Word} {b : Bool}
    (hm : s.mode = .psd) : Sound s (loadPsd err w1 w2 b s) := by
  unfold loadPsd
  split
  · exact (loadMap_steady herr).bindSound fun _ _ _ h => .ok (inv_withPsd (h.mode.trans hm))
  · exact .ok (inv_withPsd hm)

/-! ### Addresses and operands -/

theorem chase_steady {k : Access} {n : Nat} {m : MemRef} {w : Option Word} : Steady s (chase k n m w s) := by
  induction n generalizing m w s with
  | zero => exact .stop rfl nofun
  | succ n ih =>
    unfold chase
    split
    · exact memRead_steady.bind fun _ _ => ih
    · exact .ok rfl

theorem resolve_steady {k : Access} {m : MemRef} : Steady s (resolve k m s) := chase_steady

theorem readAt_steady {w : Width} {a : Addr} : Steady s (readAt w a s) := by
  cases w with
  | byte | half | word => exact memRead_steady.bind fun _ _ => .ok rfl
  | dword =>
    refine Steady.bind ?_ fun _ _ => .ok rfl
    exact memRead_steady.bind fun _ _ => memRead_steady.bind fun _ _ => .ok rfl

theorem writeAt_steady {a : Addr} {o : Operand} : Steady s (writeAt a o s) := by
  cases o with
  | byte | half | word => exact memWrite_steady
  | dword => exact memWrite_steady.bind fun _ _ => memWrite_steady

theorem operand_steady {m : MemRef} : Steady s (operand m s) := resolve_steady.bind fun _ _ => readAt_steady

theorem operandNoDword_steady {m : MemRef} : Steady s (operandNoDword m s) := by
  refine resolve_steady.bind fun x t => ?_
  cases x.ea.width with
  | byte | half => exact memRead_steady.bind fun _ _ => .ok rfl
  | word | dword => exact memRead_steady

theorem bitAddress_steady {m : MemRef} : Steady s (bitAddress m s) := resolve_steady.bind fun _ _ => .ok rfl

theorem readFile_steady {n : Nat} {a : Addr} : Steady s (readFile n a s) := by
  induction n generalizing a s with
  | zero => exact .ok rfl
  | succ n ih => exact memRead_steady.bind fun _ _ => ih.bind fun _ _ => .ok rfl

theorem writeFile_steady {n : Nat} {r : Reg} {a : Addr} : Steady s (writeFile n r a s) := by
  induction n generalizing r a s with
  | zero => exact .ok rfl
  | succ n ih => exact memWrite_steady.bind fun _ _ => ih

theorem setFile_core (r : Reg) (vs : List Word) (s : State) : (setFile r vs s).core = s.core := by
  induction vs generalizing r s with
  | nil => rfl
  | cons v vs ih => exact ih (r + 1) (s.setReg r v)

theorem extAddr_steady {rs rz : Reg} : Steady s (extAddr rs rz s) := by
  refine psdPriv_steady fun _ t => (physRead_steady operandErr_ne).bind fun psd2 u => ?_
  split
  · exact .stop rfl nofun
  · have hmap : Steady u (asideMap u (loadMap (switchErr false) psd2 u)) := by
      have h : Steady u (loadMap (switchErr false) psd2 u) := loadMap_steady (switchErr_ne false)
      unfold asideMap
      split <;> rename_i e <;> rw [e] at h
      · exact h
      · exact h.stop_of rfl rfl rfl
    refine hmap.bind fun n v => ?_
    dsimp only
    repeat' split
    · exact .stop rfl nofun
    · exact .stop rfl nofun
    · exact .ok rfl

end Pieces

end Sys2Proof.Machine
end

section
/-!
Every instruction's effect is sound: the families of instructions, the privileged ones, Execute.
-/

namespace Sys2Proof.Machine

section Families

variable {s : State}

/-! ### The families of unprivileged instructions -/

theorem addToMemory_steady {r : Reg} {m : MemRef} : Steady s (addToMemory r m s) := by
  refine resolve_steady.bind fun x t => readAt_steady.bind fun o u => ?_
  cases o with
  | byte | half => exact writeAt_steady.bind fun _ _ => .ok rfl
  | word | dword => exact writeAt_steady.bind fun _ _ => arithCheck_steady rfl

theorem divide_steady {r : Reg} {v : Word} : Steady s (divide r v s) := by
  unfold divide
  split
  · exact arithCheck_steady rfl
  · exact .ok rfl

theorem floatOp_steady {r : Reg} {m : MemRef} {f : {n : Nat} → FNum → FNum → FResult n} :
    Steady s (floatOp r m f s) := by
  have hword {x : FResult 32} {t : State} : Steady t (putFloat r x t) := by
    unfold putFloat
    split <;> exact arithCheck_steady rfl
  have hpair {x : FResult 64} {t : State} : Steady t (putFloatPair r x t) := by
    unfold putFloatPair
    split <;> exact arithCheck_steady rfl
  refine Steady.bind (resolve_steady.bind fun _ _ => readAt_steady) fun o t => ?_
  cases o with
  | dword => exact hpair
  | byte | half | word => exact hword

theorem opRnd_steady {r : Reg} : Steady s (opRnd r s) := by
  unfold opRnd
  split
  · exact arithCheck_steady rfl
  · exact .ok rfl

theorem branch_steady {m : MemRef} : Steady s (branch m s) :=
  resolve_steady.bind fun x t => .ok (by rw [branchTo_eq]; rfl)

theorem branchIf_steady {c : Bool} {m : MemRef} : Steady s (branchIf c m s) := by
  unfold branchIf
  split
  · exact branch_steady
  · exact .ok rfl

theorem branchIncrement_steady {r : Reg} {n : Word} {i : Bool} {a : BitVec 20} :
    Steady s (branchIncrement r n i a s) := by
  have h : Steady (s.setReg r (s.reg r + n))
    (branchIf (decide (s.reg r + n ≠ 0)) ⟨0, i, a⟩ (s.setReg r (s.reg r + n))) := branchIf_steady
  refine .after (t := s.setReg r (s.reg r + n)) (.of rfl) ?_
  simp only [branchIncrement]
  split <;> rename_i e <;> rw [e] at h
  · exact h.ok_of rfl
  · exact h.stop_of rfl rfl rfl

theorem invFrame_wcsRoutine (s : State) : invFrame s (wcsRoutine s) := by
  unfold wcsRoutine
  split
  · exact .of rfl
  · exact (invFrame_storeAll _ s).trans (.of rfl)

theorem opJwcs_steady {m : MemRef} : Steady s (opJwcs m s) := by
  unfold opJwcs
  split
  · exact .stop rfl nofun
  · exact resolve_steady.bind fun x t =>
      .after (.of rfl : invFrame t (t.send _)) ⟨invFrame_wcsRoutine _, arithDue_ok⟩

theorem opWait_steady : Steady s (opWait s) := by
  unfold opWait
  split <;> exact .stop rfl nofun

/-! ### Privileged instructions -/

theorem opLear_steady {r : Reg} {m : MemRef} : Steady s (opLear r m s) := by
  refine psdPriv_steady fun _ _ => resolve_steady.bind fun x t => ?_
  split
  · next h => exact .stop rfl (stop_ne_arithmetic (translate_ne_arithmetic h))
  · exact .ok rfl

theorem physReadAt_steady {w : Width} {a : Addr} : Steady s (physReadAt w a s) := by
  cases w with
  | byte | half | word => exact operandRead_steady.bind fun _ _ => .ok rfl
  | dword => exact operandRead_steady.bind fun _ _ => operandRead_steady.bind fun _ _ => .ok rfl

theorem opLem_steady {rd rs rz : Reg} : Steady s (opLem rd rs rz s) :=
  extAddr_steady.bind fun _ _ => physReadAt_steady.bind fun o _ => by cases o <;> exact .ok rfl

theorem opSem_steady {rd rs rz : Reg} : Steady s (opSem rd rs rz s) := by
  refine extAddr_steady.bind fun a t => ?_
  cases storeValue (extWidth (s.reg rz)) (t.pair rd) with
  | byte | half | word => exact operandWrite_steady
  | dword => exact operandWrite_steady.bind fun _ _ => operandWrite_steady

/-- An installed WCS location written (R57). -/
theorem inv_setWcs {a : Nat} {v : Dword} (ha : a < s.cfg.wcsWords) (hs : s.Inv) : (s.setWcs a v).Inv :=
  { hs with
    wcs := Sparse.wf_set 0 a v hs.wcs
    wcsInstalled := fun c hc => (Sparse.mem_set 0 a v hc).elim (fun h => h ▸ ha) (hs.wcsInstalled c) }

theorem opWwcs_sound {rd rs : Reg} : Sound s (opWwcs rd rs s) := by
  refine requirePriv_steady.bindSound fun _ t _ _ => ?_
  split
  · exact .of (Steady.stop rfl nofun)
  · next ha =>
    have hlt : (t.reg rd).toNat < t.cfg.wcsWords := by
      simp only [State.wcsAvailable, Bool.not_eq_true, Bool.not_eq_false', Bool.and_eq_true, decide_eq_true_eq] at ha
      exact ha.2
    exact memRead_steady.bindSound fun _ u _ hu => memRead_steady.bindSound fun _ v _ hv => .ok fun hs =>
      (inv_setWcs ((hu.trans hv).cfg ▸ hlt) hs).congr rfl

theorem opRwcs_steady {rd rs : Reg} : Steady s (opRwcs rd rs s) := by
  refine requirePriv_steady.bind fun _ t => ?_
  split
  · exact .stop rfl nofun
  · exact memWrite_steady.bind fun _ _ => memWrite_steady.bind fun _ _ => .ok rfl

theorem loadStatus_sound {m : MemRef} {b : Bool} : Sound s (loadStatus m b s) :=
  psdPriv_sound fun _ _ hm => resolve_steady.bindSound fun _ _ _ h1 => memRead_steady.bindSound fun _ _ _ h2 =>
    memRead_steady.bindSound fun _ _ _ h3 => loadPsd_sound (switchErr_ne false)
      (((h1.trans h2).trans h3).mode.trans hm)

theorem briLoad_sound {a : Addr} : Sound s (briLoad a s) := by
  unfold briLoad
  split
  · have hread : Steady s (briHalt (memRead .operand (wordAlign a) .word s)) := by
      have h : Steady s (memRead .operand (wordAlign a) .word s) := memRead_steady
      unfold briHalt
      split
      · next e =>
        rw [e] at h
        exact ⟨h.frame, arithDue_stop nofun⟩
      · exact h
    exact .of (hread.bind fun _ _ => .ok rfl)
  · next hm =>
    exact memRead_steady.bindSound fun _ _ _ h1 => memRead_steady.bindSound fun _ _ _ h2 =>
      loadPsd_sound (switchErr_ne false) ((h1.trans h2).mode.trans hm)

/-! ### Interrupt levels -/

/-- A bit of a level that exists, or a bit cleared, is no bit of another level (R641). -/
theorem levelsOnly_putBit {v : BitVec 128} {l : Level} {b : Bool} (h : levelsOnly v = true)
    (hl : b = false ∨ isLevel l = true) : levelsOnly (putBit v l.toNat b) = true := by
  simp only [levelsOnly, beq_iff_eq] at h ⊢
  cases b with
  | false =>
    have hbit : putBit v l.toNat false = v &&& ~~~(BitVec.twoPow 128 l.toNat) := rfl
    rw [hbit, BitVec.and_assoc, BitVec.and_comm (~~~_), ← BitVec.and_assoc, h]
    exact BitVec.zero_and
  | true =>
    have hbit : putBit v l.toNat true = v ||| BitVec.twoPow 128 l.toNat := rfl
    have hpow : ∀ l : Level, isLevel l = true → BitVec.twoPow 128 l.toNat &&& 0x3FFFC = 0 := by decide
    rw [hbit, BitVec.and_or_distrib_right, h, hpow l (hl.resolve_left nofun)]
    rfl

theorem inv_setRequest {l : Level} {b : Bool} (hl : b = false ∨ isLevel l = true) (hs : s.Inv) :
    (s.setRequest l b).Inv := { hs with request := levelsOnly_putBit hs.request hl }

theorem inv_setActive {l : Level} {b : Bool} (hl : b = false ∨ isLevel l = true) (hs : s.Inv) :
    (s.setActive l b).Inv := { hs with active := levelsOnly_putBit hs.active hl }

theorem inv_setEnabled {l : Level} {b : Bool} (hl : b = false ∨ isLevel l = true) (hs : s.Inv) :
    (s.setEnabled l b).Inv := { hs with enabled := levelsOnly_putBit hs.enabled hl }

/-- The service level of a configured device exists (R720). -/
theorem isLevel_of_devAt {d : BitVec 7} {e : DevEntry} (hs : s.Inv) (h : s.devAt d = some e) :
    isLevel e.level = true := by
  have hd := hs.devLevels
  simp only [State.devLevels, List.all_eq_true] at hd
  have hmem : some e ∈ s.dev.toList := by
    rw [← h]
    exact Vector.mem_toList_iff.mpr (Vector.getElem_mem _)
  have he := hd _ hmem
  simp only [Bool.and_eq_true, decide_eq_true_eq] at he
  simp only [isLevel, Bool.or_eq_true, decide_eq_true_eq]
  omega

theorem inv_resetHighest (hs : s.Inv) : (resetHighest s).Inv := by
  unfold resetHighest
  split
  · exact hs
  · split
    · exact (inv_setActive (.inl rfl) hs).congr rfl
    · exact inv_setActive (.inl rfl) hs

theorem opBri_sound {m : MemRef} : Sound s (opBri m s) := by
  refine requirePriv_steady.bindSound fun _ t _ _ => Sound.bind ?_ fun _ u => .ok inv_resetHighest
  split
  · exact briLoad_sound
  · exact .of (Steady.ok rfl)

theorem commandLevel_sound {l : Level} {f : State → State} (hf : ∀ t, isLevel l = true → t.Inv → (f t).Inv) :
    Sound s (commandLevel l f s) := by
  refine requirePriv_steady.bindSound fun _ t _ _ => .ok fun ht => ?_
  split
  · next hc =>
    simp only [State.commands, Bool.and_eq_true] at hc
    exact hf t hc.1.1 ht
  · exact ht

/-! ### The mode (R617) -/

theorem inv_setMode {m : Mode} (hs : s.Inv) : (s.setMode m).Inv := by
  cases m with
  | psd => exact { hs with pswMap := nofun, pswBlocked := nofun }
  | psw =>
    have h : ({ s with mode := .psw, mapActive := false } : State).setBlocked false |>.Inv :=
      { hs with pswMap := fun _ => rfl, pswBlocked := fun _ => rfl, blockCount := fun _ => rfl }
    exact h.congr rfl

theorem inv_setCpu {v : Word} (hs : s.Inv) : (setCpu v s).Inv := by
  have h : ({ s with bmtEn := bitAt v 14, psdTrapEn := bitAt v 15 } : State).Inv := hs.congr rfl
  exact (inv_setMode (m := if bitAt v 19 then .psd else .psw) h).congr rfl

/-! ### Input and output -/

theorem commandDevice_steady {d : BitVec 7} {c : Half} : Steady s (commandDevice d c s) := by
  unfold commandDevice
  repeat' split
  all_goals first | exact .ok rfl | exact .stop rfl nofun

theorem testDevice_steady {d : BitVec 7} {c : Half} : Steady s (testDevice d c s) := by
  unfold testDevice deviceTest
  repeat' split
  all_goals first | exact .ok rfl | exact .stop rfl nofun

theorem inv_acceptedEffect {op : ChanOp} {chan : BitVec 7} {l : Level} (hl : isLevel l = true) (hs : s.Inv) :
    (acceptedEffect op chan l s).Inv := by
  cases op with
  | rschnl => exact inv_setActive (.inl rfl) (inv_setRequest (.inl rfl) hs)
  | eci => exact inv_setEnabled (.inr hl) hs
  | dci => exact inv_setEnabled (.inl rfl) hs
  | aci => exact inv_setRequest (.inl rfl) (inv_setActive (.inr hl) hs)
  | daci => exact (inv_setActive (.inl rfl) hs).congr rfl
  | ecwcs | sio | tio | stpio | hio | grio | rsctl | wcwcs => exact hs.congr rfl

theorem disarm_core (op : ChanOp) (chan : BitVec 7) (s : State) : (disarm op chan s).core = s.core := by
  unfold disarm
  split <;> rfl

theorem channelOp_sound {op : ChanOp} {chan : BitVec 7} {sub : Byte} {l : Level} {rep : ChanReply}
    (hl : isLevel l = true) : Sound s (channelOp op chan sub l rep s) := by
  have hread : Steady s (physRead operandErr (ivlOf l) .word (disarm op chan s)) :=
    .after (.of (disarm_core op chan s)) (physRead_steady operandErr_ne)
  refine (Sound.of hread).bind fun v t => Sound.bind ?list fun data u => Sound.bind ?status fun _ w => .ok ?effect
  case list =>
    split
    · exact .of ((physRead_steady operandErr_ne).bind fun _ _ => .ok rfl)
    · exact .of (Steady.ok rfl)
  case status =>
    refine .of (.after (t := u.send (.channel op chan sub data)) (.of rfl) ?_)
    unfold storeStatus
    split
    · exact physWrite_steady operandErr_ne
    · exact .ok rfl
  case effect =>
    intro hw
    split
    · exact (inv_acceptedEffect hl hw).congr rfl
    · unfold refusedEffect
      split <;> exact hw.congr rfl

theorem ofDevice_sound {α : Type} {d : DevEntry} {x : Res α} (h : Sound s x) : Sound s (ofDevice d x) := by
  unfold ofDevice
  split
  · exact ⟨h.inv, arithDue_stop nofun⟩
  · exact h

theorem nextReply_core {rep : Option ChanReply} {u : State} (h : nextReply s = (rep, u)) : u.core = s.core := by
  unfold nextReply at h
  split at h <;> cases h <;> rfl

theorem classF_sound {op : ChanOp} {r : Reg} {k : Half} : Sound s (classF op r k s) := by
  refine psdPriv_sound fun _ t _ => ?_
  dsimp only
  split
  · exact .of (Steady.ok rfl)
  · next d hd =>
    split
    · exact .of (Steady.stop rfl nofun)
    · split
      · exact .of (Steady.stop rfl nofun)
      · split
        · next hr => exact .of (Steady.ok (nextReply_core hr :))
        · next rep u hr =>
          refine ⟨fun ht => ?_, ?_⟩
          · exact (ofDevice_sound (channelOp_sound (isLevel_of_devAt ht hd))).inv (ht.congr (nextReply_core hr))
          · unfold ofDevice
            split
            · exact arithDue_stop nofun
            · next h => exact fun v hv => (h _ _ hv).elim

/-! ### Every instruction -/

theorem effectOf_sound_of_needsPriv {i : Instr} (hi : needsPriv i = true) : Sound s (effectOf i s) := by
  cases i with
  | lear => exact .of opLear_steady
  | lem => exact .of opLem_steady
  | cema => exact .of (extAddr_steady.bind fun _ _ => .ok rfl)
  | sem => exact .of opSem_steady
  | tscr | trsc | trp | halt => exact .of (requirePriv_steady.bind fun _ _ => .ok rfl)
  | rdsts => exact .of (psdPriv_steady fun _ _ => requireJumper_steady.bind fun _ _ => .ok rfl)
  | eae | dae => exact .of (psdPriv_steady fun _ _ => .ok rfl)
  | bei => exact psdPriv_sound fun _ _ hm => .ok (inv_setBlocked fun h => nomatch hm.symm.trans h)
  | uei => exact psdPriv_sound fun _ _ _ => .ok (inv_setBlocked fun _ => rfl)
  | lmap =>
    exact .of (psdPriv_steady fun _ _ => requireUnmapped_steady.bind fun _ _ => (physRead_steady operandErr_ne).bind
      fun _ _ => (loadMap_steady (switchErr_ne false)).bind fun _ _ => .ok rfl)
  | tmapr => exact .of (psdPriv_steady fun _ _ => requireUnmapped_steady.bind fun _ _ => .ok rfl)
  | wwcs => exact opWwcs_sound
  | rwcs => exact .of opRwcs_steady
  | bri => exact opBri_sound
  | lpsd | lpsdcm => exact loadStatus_sound
  | setcpu =>
    exact requirePriv_steady.bindSound fun _ _ _ _ => requireJumper_steady.bindSound fun _ _ _ _ => .ok inv_setCpu
  | ei =>
    exact commandLevel_sound fun t hl ht => by
      split
      · exact ht
      · exact inv_setEnabled (.inr hl) ht
  | di =>
    exact commandLevel_sound fun t hl ht => by
      split
      · exact ht
      · exact inv_setRequest (.inl rfl) (inv_setEnabled (.inl rfl) ht)
  | ri => exact commandLevel_sound fun t hl => inv_setRequest (.inr hl)
  | ai => exact commandLevel_sound fun t hl => inv_setActive (.inr hl)
  | dai => exact commandLevel_sound fun t hl ht => (inv_setActive (.inl rfl) ht).congr rfl
  | cd => exact .of (requirePriv_steady.bind fun _ _ => commandDevice_steady)
  | td => exact .of (requirePriv_steady.bind fun _ _ => testDevice_steady)
  | eci | dci | aci | daci | sio | tio | stpio | rschnl | hio | grio | rsctl | ecwcs | wcwcs => exact classF_sound
  | _ => cases hi

theorem effectOf_steady_of_plain {i : Instr} (hp : needsPriv i = false) (he : isExecute i = false)
    (hc : ∀ flags, i ≠ .calm flags) : Steady s (effectOf i s) := by
  cases i with
  | lb | lh | lw | ld | lmb | lmh | lmw | lmd => exact operand_steady.bind fun o _ => by cases o <;> exact .ok rfl
  | anmb | anmh | anmw | anmd | ormb | ormh | ormw | ormd | eomb | eomh | eomw | eomd =>
    exact operand_steady.bind fun o _ => by cases o <;> exact .ok rfl
  | camb | camh | camw | camd | cmmb | cmmh | cmmw | cmmd => exact operand_steady.bind fun _ _ => .ok rfl
  | lnb | lnh | lnw | lnd | admb | admh | admw | admd | sumb | sumh | sumw | sumd =>
    exact operand_steady.bind fun o _ => by cases o <;> exact arithCheck_steady rfl
  | lea => exact resolve_steady.bind fun _ _ => .ok rfl
  | la => exact requirePsd_steady.bind fun _ _ => resolve_steady.bind fun _ _ => .ok rfl
  | lf =>
    exact resolve_steady.bind fun _ _ => readFile_steady.bind fun _ _ => .ok (setFile_core _ _ _)
  | stb | sth | stw | std | stmb | stmh | stmw | stmd | zmb | zmh | zmw | zmd =>
    exact resolve_steady.bind fun _ _ => writeAt_steady
  | stf => exact resolve_steady.bind fun _ _ => writeFile_steady
  | li | zr | trr | trrm | trc | trcm | xcr | xcrm | tpr | trsw | sea | cea | lcs | nop => exact .ok rfl
  | anr | orr | orrm | eor | eorm | car | ci | cmr | es | mpr | mpi => exact .ok rfl
  | nor | nord | scz | sll | slc | slld | sra | srl | src | srad | srld | sbr | zbr | tbr => exact .ok rfl
  | trn | trnm | sla | slad | abr | adr | adrm | adi | sur | surm | sui => exact arithCheck_steady rfl
  | jwcs => exact opJwcs_steady
  | bu => exact branch_steady
  | bct | bcf | bft => exact branchIf_steady
  | bl => exact branch_steady.bind fun _ _ => .ok rfl
  | bib | bih | biw | bid => exact branchIncrement_steady
  | sbm | zbm =>
    exact bitAddress_steady.bind fun _ _ => memRead_steady.bind fun _ _ =>
      (locked_steady fun _ => memWrite_steady).bind fun _ _ => .ok rfl
  | abm =>
    exact bitAddress_steady.bind fun _ _ => memRead_steady.bind fun _ _ =>
      (locked_steady fun _ => memWrite_steady).bind fun _ _ => arithCheck_steady rfl
  | tbm => exact bitAddress_steady.bind fun _ _ => memRead_steady.bind fun _ _ => .ok rfl
  | armb | armh | armw | armd => exact addToMemory_steady
  | rnd => exact opRnd_steady
  | mpmb | mpmh | mpmw => exact operandNoDword_steady.bind fun _ _ => .ok rfl
  | dvmb | dvmh | dvmw => exact operandNoDword_steady.bind fun _ _ => divide_steady
  | dvr | dvi => exact divide_steady
  | adfw | adfd | sufw | sufd | mpfw | mpfd | dvfw | dvfd => exact floatOp_steady
  | wait => exact opWait_steady
  | svc => exact requirePsd_steady.bind fun _ _ => .stop rfl nofun
  | calm => exact absurd rfl (hc _)
  | exr | exrr | exm => cases he
  | _ => cases hp

theorem effectOf_sound_of_not_execute {i : Instr} (he : isExecute i = false) : Sound s (effectOf i s) := by
  cases hp : needsPriv i with
  | true => exact effectOf_sound_of_needsPriv hp
  | false =>
    by_cases hc : ∃ flags, i = .calm flags
    · obtain ⟨flags, rfl⟩ := hc
      exact .ok (inv_setRequest (.inr (by decide)))
    · exact .of (effectOf_steady_of_plain hp he fun flags h => hc ⟨flags, h⟩)

theorem executeTarget_sound {image : Word} : Sound s (executeTarget image s) := by
  unfold executeTarget
  split
  · exact .of (.stop rfl nofun)
  · split
    · exact .of (.stop rfl nofun)
    · next f hf =>
      obtain ⟨rfl, he⟩ := targetOp_some hf
      exact effectOf_sound_of_not_execute he

theorem effectOf_sound (i : Instr) : Sound s (effectOf i s) := by
  cases i with
  | exr | exrr => exact executeTarget_sound
  | exm =>
    exact resolve_steady.bindSound fun _ _ _ _ => memRead_steady.bindSound fun _ _ _ _ => executeTarget_sound
  | _ => exact effectOf_sound_of_not_execute rfl

end Families

end Sys2Proof.Machine
end

section
/-!
The bits of the interrupt levels (R50): the lowest bit set, one bit written, the level that is sensed.
-/

namespace Sys2Proof.Machine

theorem ofNat_toNat_level (i : Nat) (h : i < 128) : (BitVec.ofNat 7 i).toNat = i := by
  simp only [BitVec.toNat_ofNat]
  omega

/-- A vector of level bits is zero exactly when no level has its bit set. -/
theorem levels_eq_zero_iff (v : BitVec 128) : v = 0 ↔ ∀ k : Level, v.getLsbD k.toNat = false := by
  constructor
  · rintro rfl k
    exact BitVec.getLsbD_zero
  · intro h
    apply BitVec.eq_of_getLsbD_eq
    intro i hi
    have hk := h (BitVec.ofNat 7 i)
    rw [ofNat_toNat_level i hi] at hk
    exact hk.trans BitVec.getLsbD_zero.symm

theorem lowest_eq_none_iff (v : BitVec 128) : lowest v = none ↔ ∀ k : Level, v.getLsbD k.toNat = false := by
  rw [← levels_eq_zero_iff, lowest]
  split
  · next h => exact ⟨fun _ => h, fun _ => rfl⟩
  · next h =>
    refine ⟨fun hn => ?_, fun h' => absurd h' h⟩
    rw [levels_eq_zero_iff]
    intro k
    rw [Option.map_eq_none_iff, List.find?_eq_none] at hn
    simpa using hn k.toNat (List.mem_range.mpr k.isLt)

theorem lowest_eq_some_iff (v : BitVec 128) (l : Level) :
    lowest v = some l ↔ v.getLsbD l.toNat = true ∧ ∀ k : Level, k.toNat < l.toNat → v.getLsbD k.toNat = false := by
  have hfind (i : Nat) : (List.range 128).find? (fun i => v.getLsbD i) = some i ↔
      v.getLsbD i = true ∧ i < 128 ∧ ∀ j < i, v.getLsbD j = false := by
    rw [List.find?_range_eq_some]
    simp
  unfold lowest
  split
  · next h =>
    refine ⟨nofun, fun hl => ?_⟩
    rw [(levels_eq_zero_iff v).mp h l] at hl
    exact absurd hl.1 (by decide)
  · rw [Option.map_eq_some_iff]
    constructor
    · rintro ⟨i, hi, rfl⟩
      obtain ⟨hbit, hlt, hbelow⟩ := (hfind i).mp hi
      rw [ofNat_toNat_level i hlt]
      exact ⟨hbit, fun k hk => hbelow _ hk⟩
    · rintro ⟨hbit, hbelow⟩
      refine ⟨l.toNat, (hfind _).mpr ⟨hbit, l.isLt, fun j hj => ?_⟩, BitVec.ofNat_toNat ..⟩
      have hk := hbelow (BitVec.ofNat 7 j)
      rw [ofNat_toNat_level j (by omega)] at hk
      exact hk hj

/-- A level bit written (R50). -/
theorem levelSet_putBit (l : Level) (b : Bool) (v : BitVec 128) : levelSet l b v (putBit v l.toNat b) := by
  intro k
  rw [State.getLsbD_putBit v l.toNat b k.toNat k.isLt]
  simp only [BitVec.toNat_inj]

/-- The level that interrupts at a boundary (R761, R762): not held off, not blocked, the smallest that contends, with no
active level at or above it. -/
theorem sensed_eq_some_iff (s : State) (l : Level) : s.sensed = some l ↔
    s.noIntNext = false ∧ ¬(s.mode = .psd ∧ s.blocked = true) ∧
      lowest (s.enabledEff &&& s.request) = some l ∧
      ∀ k : Level, k.toNat ≤ l.toNat → s.active.getLsbD k.toNat = false := by
  have hcand : s.candidate = some l ↔ lowest (s.enabledEff &&& s.request) = some l ∧
      ∀ k : Level, k.toNat ≤ l.toNat → s.active.getLsbD k.toNat = false := by
    unfold State.candidate
    cases hc : lowest (s.enabledEff &&& s.request) with
    | none => simp
    | some c =>
      cases ha : lowest s.active with
      | none =>
        rw [lowest_eq_none_iff] at ha
        simp [ha]
      | some a =>
        obtain ⟨hset, hbelow⟩ := (lowest_eq_some_iff _ _).mp ha
        simp only [Option.some.injEq]
        split
        · next hlt =>
          refine ⟨fun h => ⟨Option.some.inj h, fun k hk => hbelow k ?_⟩, fun h => congrArg some h.1⟩
          cases h
          omega
        · next hge =>
          refine ⟨nofun, fun ⟨hcl, hfree⟩ => ?_⟩
          subst hcl
          rw [hfree a (by omega)] at hset
          cases hset
  unfold State.sensed
  cases s.noIntNext with
  | true => simp
  | false =>
    by_cases hb : s.mode = .psd ∧ s.blocked = true
    · simp [hb]
    · have hb' : (decide (s.mode = .psd) && s.blocked) = false := by
        rw [Bool.and_eq_false_iff, decide_eq_false_iff_not, ← Bool.not_eq_true, ← not_and_or]
        exact hb
      simp only [hb', hb, hcand, Bool.false_eq_true, if_false, not_false_eq_true, true_and]

/-- The bit of a level that does not exist is never set (R641). -/
theorem isLevel_of_getLsbD {v : BitVec 128} {l : Level} (hv : levelsOnly v = true) (h : v.getLsbD l.toNat = true) :
    isLevel l = true := by
  by_contra hl
  have hmask : ∀ l : Level, ¬isLevel l = true → (0x3FFFC : BitVec 128).getLsbD l.toNat = true := by decide
  rw [levelsOnly, beq_iff_eq] at hv
  have hbit := congrArg (fun w => w.getLsbD l.toNat) hv
  simp only [BitVec.getLsbD_and, h, hmask l hl] at hbit
  exact absurd hbit (by simp)

theorem isLevel_of_sensed {s : State} {l : Level} (hs : s.Inv) (h : s.sensed = some l) : isLevel l = true := by
  obtain ⟨-, -, hlow, -⟩ := (sensed_eq_some_iff s l).mp h
  obtain ⟨hbit, -⟩ := (lowest_eq_some_iff _ _).mp hlow
  rw [BitVec.getLsbD_and, Bool.and_eq_true] at hbit
  exact isLevel_of_getLsbD hs.request hbit.2

/-- PSW mode schedules a trap on a level that exists (R780). -/
theorem isLevel_of_pswLevel {t : Trap} {l : Level} (h : t.pswLevel = some l) : isLevel l = true := by
  induction t with
  | ofDevice d t ih => exact ih h
  | _ => cases h <;> rfl

end Sys2Proof.Machine
end

section
/-!
Every step keeps the invariant: traps, interrupts, the end of an instruction, the environment's moves.
-/

namespace Sys2Proof.Machine

section Traps

variable {s : State}

/-! ### The trap halt (R790) -/

theorem invFrame_saveWord (s : State) (pa : Addr) (v : Word) : invFrame s (s.saveWord pa v) := by
  unfold State.saveWord State.pokeIfPresent
  refine (invFrame_interleave s).trans ?_
  split
  · next hp => exact invFrame_poke v hp
  · exact .of rfl

theorem invFrame_saveArea (t : Trap) (s : State) : invFrame s (saveArea t s) := by
  have h1 := invFrame_saveWord s 0x530 s.storedPsd1
  have h2 : invFrame s (match s.mode with
      | .psd => (s.saveWord 0x530 s.storedPsd1).saveWord 0x534 s.storedPsd2
      | .psw => s.saveWord 0x530 s.storedPsd1) := by
    split
    · exact h1.trans (invFrame_saveWord _ _ _)
    · exact h1
  exact ((h2.trans (invFrame_saveWord _ _ _)).trans (invFrame_saveWord _ _ _)).trans (invFrame_saveWord _ _ _)

theorem invFrame_trapHalt (t : Trap) (s : State) : invFrame s (trapHalt t s) :=
  (invFrame_saveArea t s).trans (.of rfl)

theorem invFrame_haltFor (t : Trap) (s : State) : invFrame s (haltFor t s) :=
  (.of rfl : invFrame s (s.setStat _)).trans (invFrame_trapHalt t _)

theorem leaveWait_core (s : State) : s.leaveWait.core = s.core := by
  unfold State.leaveWait
  split <;> rfl

/-! ### Entries in PSD mode -/

/-- The invariant in PSD mode. -/
structure State.InvPsd (s : State) : Prop where
  inv : s.Inv
  mode : s.mode = .psd

theorem State.InvPsd.frame {t : State} (hs : s.InvPsd) (h : invFrame s t) : t.InvPsd :=
  ⟨h.inv hs.inv, h.mode.trans hs.mode⟩

/-- The rule of an entry: the invariant and PSD mode, in the end as at a stop. -/
def KeepsPsd {α : Type} (s : State) (x : Res α) : Prop := s.InvPsd → x.state.InvPsd

theorem KeepsPsd.of {α : Type} {x : Res α} (h : Steady s x) : KeepsPsd s x := fun hs => hs.frame h.frame

theorem KeepsPsd.ok {α : Type} {a : α} {t : State} (h : s.InvPsd → t.InvPsd) : KeepsPsd s (.ok a t) := h

theorem KeepsPsd.bind {α β : Type} {x : Res α} {f : α → State → Res β} (hx : KeepsPsd s x)
    (hf : ∀ v t, KeepsPsd t (f v t)) : KeepsPsd s (x.bind f) := fun hs => by
  cases x with
  | stop e t => exact hx hs
  | ok v t => exact hf v t (hx hs)

theorem invPsd_withPsd {w1 w2 : Word} (hs : s.InvPsd) : (s.withPsd w1 w2).InvPsd :=
  ⟨inv_withPsd hs.mode hs.inv, hs.mode⟩

theorem loadPsd_keepsPsd {err : MemErr → Trap} (herr : ∀ e, err e ≠ .arithmetic) {w1 w2 : Word} {b : Bool} :
    KeepsPsd s (loadPsd err w1 w2 b s) := by
  unfold loadPsd
  split
  · exact (KeepsPsd.of (loadMap_steady herr)).bind fun _ _ => .ok invPsd_withPsd
  · exact .ok invPsd_withPsd

theorem exchangePsd_keepsPsd {err : MemErr → Trap} (herr : ∀ e, err e ≠ .arithmetic) {icb : Addr} {w : Word} :
    KeepsPsd s (exchangePsd err icb w s) :=
  (KeepsPsd.of (physWrite_steady herr)).bind fun _ _ => (KeepsPsd.of (physWrite_steady herr)).bind fun _ _ =>
    (KeepsPsd.of (physWrite_steady herr)).bind fun _ _ => (KeepsPsd.of (physRead_steady herr)).bind fun _ _ =>
      (KeepsPsd.of (physRead_steady herr)).bind fun _ _ => (loadPsd_keepsPsd herr).bind fun _ u =>
        .ok fun hu => hu.frame (.of (leaveWait_core u))

theorem trapIcb_steady {t : Trap} : Steady s (trapIcb t s) := by
  refine (physRead_steady (switchErr_ne false)).bind fun v u => ?_
  split
  · exact (physRead_steady (switchErr_ne false)).bind fun _ _ => .ok rfl
  · exact .ok rfl

theorem enterTrap_keepsPsd {t : Trap} : KeepsPsd s (enterTrap t s) :=
  (KeepsPsd.of trapIcb_steady).bind fun _ _ => exchangePsd_keepsPsd (switchErr_ne false)

/-- Trap entry, with the entries and the halt that errors in it raise, keeps the invariant. -/
theorem inv_trapEntry (n : Nat) (t : Trap) (hs : s.InvPsd) : (trapEntry n t s).Inv := by
  induction n generalizing t s with
  | zero => exact (invFrame_trapHalt t s).inv hs.inv
  | succ n ih =>
    have h : (enterTrap t s).state.InvPsd := enterTrap_keepsPsd hs
    unfold trapEntry
    split <;> rename_i e <;> rw [e] at h
    case h_2 t2 u =>
      have hu : (u.setStat (u.stat ||| t2.statBits u.mode)).InvPsd := h.frame (.of rfl)
      dsimp only
      split
      · exact (invFrame_trapHalt _ _).inv hu.inv
      · split
        · exact ih _ hu
        · exact (invFrame_trapHalt _ _).inv hu.inv
    all_goals exact h.inv

/-! ### Interrupts -/

theorem acknowledgeF_steady {err : MemErr → Trap} (herr : ∀ e, err e ≠ .arithmetic) {l : Level} {icb : Addr} :
    Steady s (acknowledgeF err l icb s) := by
  unfold acknowledgeF
  split
  · exact .after (t := { s with freeCount := s.freeCount + 1 }.send (.acknowledge l)) (.of rfl) (physWrite_steady herr)
  · next rest _ =>
    exact .after (t := { s with ackReplies := rest }.send (.acknowledge l)) (.of rfl) (physWrite_steady herr)

theorem inv_activateBy {l : Level} {n2 : Word} (hl : isLevel l = true) (hs : s.Inv) : (s.activateBy l n2).Inv := by
  unfold State.activateBy
  split
  · split
    · exact hs.congr rfl
    · exact hs
  · exact inv_setActive (.inr hl) hs

theorem activateBy_mode (s : State) (l : Level) (n2 : Word) : (s.activateBy l n2).mode = s.mode := by
  unfold State.activateBy
  split
  · split <;> rfl
  · rfl

theorem enterIntPsd_keepsPsd {l : Level} (hl : isLevel l = true) : KeepsPsd s (enterIntPsd l s) := by
  have herr := intErr_ne s l
  refine (KeepsPsd.of (physRead_steady herr)).bind fun v t => KeepsPsd.bind ?ack fun _ u => ?exchange
  case ack =>
    intro ht
    have hr : (t.setRequest l false).InvPsd := ⟨inv_setRequest (.inl rfl) ht.inv, ht.mode⟩
    split
    · exact KeepsPsd.of (acknowledgeF_steady herr) hr
    · exact hr
  case exchange =>
    refine (KeepsPsd.of (physWrite_steady herr)).bind fun _ _ => (KeepsPsd.of (physWrite_steady herr)).bind fun _ _ =>
      (KeepsPsd.of (physRead_steady herr)).bind fun n1 _ => (KeepsPsd.of (physRead_steady herr)).bind fun n2 w => ?_
    have hload : KeepsPsd w (loadPsd (intErr s l) n1 n2 true (w.activateBy l n2)) := fun hw =>
      loadPsd_keepsPsd herr ⟨inv_activateBy hl hw.inv, (activateBy_mode w l n2).trans hw.mode⟩
    exact hload.bind fun _ x => .ok fun hx => hx.frame
      ((.of rfl : invFrame x { x with noIntNext := true }).trans (.of (leaveWait_core _)))

theorem enterIntPsw_sound {l : Level} (hl : isLevel l = true) : Sound s (enterIntPsw l s) := by
  have hwrite (a : Addr) (v w : Word) (t : State) :
      Sound t (physWrite operandErr a .word w ((t.setRequest l false).setActive l true)) :=
    ⟨fun ht => (physWrite_steady operandErr_ne).frame.inv (inv_setActive (.inr hl) (inv_setRequest (.inl rfl) ht)),
      (physWrite_steady operandErr_ne).arith⟩
  exact (Sound.of (physRead_steady operandErr_ne)).bind fun v t => (hwrite _ v _ t).bind fun _ _ =>
    (Sound.of (physRead_steady operandErr_ne)).bind fun w u => .ok fun hu =>
      (hu.congr (leaveWait_core { u.withPsw w with noIntNext := true } :))

theorem inv_takeIntPsw {l : Level} (hl : isLevel l = true) (hs : s.Inv) : (takeIntPsw l s).Inv := by
  have h : (enterIntPsw l s).state.Inv := (enterIntPsw_sound hl).inv hs
  unfold takeIntPsw
  split <;> rename_i e <;> rw [e] at h
  case h_2 => exact (invFrame_haltFor _ _).inv h
  all_goals exact h

/-! ### Raising a trap -/

theorem inv_raisePsw (t : Trap) (hs : s.Inv) : (raisePsw t s).Inv := by
  unfold raisePsw
  split
  · next l hl =>
    have hlevel := isLevel_of_pswLevel hl
    split
    · exact inv_takeIntPsw hlevel (inv_setRequest (.inr hlevel) hs)
    · exact hs
  · split
    · exact inv_setRequest (.inr (by decide)) hs
    · exact hs

theorem inv_raise (t : Trap) (hs : s.Inv) : (raise t s).Inv := by
  have hstat : (s.setStat (s.stat ||| t.statBits s.mode)).Inv := hs.congr rfl
  unfold raise
  dsimp only
  split
  · next hm =>
    split
    · exact (invFrame_trapHalt _ _).inv hstat
    · exact inv_trapEntry 3 t ⟨hstat, hm⟩
  · exact inv_raisePsw t hstat

theorem inv_raiseAsync (t : Trap) (hs : s.Inv) : (raiseAsync t s).Inv := by
  unfold raiseAsync
  repeat' split
  · exact hs
  · exact inv_raise t hs
  · exact inv_raise t hs
  · exact hs
  · exact (invFrame_haltFor t s).inv hs

theorem inv_foldl {α : Type} {f : State → α → State} (hf : ∀ u a, u.Inv → (f u a).Inv) (l : List α) (hs : s.Inv) :
    (l.foldl f s).Inv := by
  induction l generalizing s with
  | nil => exact hs
  | cons a l ih => exact ih (hf s a hs)

theorem inv_raiseSync (t : Trap) (hs : s.Inv) : (raiseSync t s).Inv := by
  unfold raiseSync
  split
  · exact inv_raise t hs
  · have h : ((s.urgent t).foldl (fun s a => raiseAsync a s) (s.dropUrgent t)).Inv :=
      inv_foldl (fun _ a => inv_raiseAsync a) _ (hs.congr rfl)
    dsimp only
    split
    · exact h
    · exact inv_raise t h

theorem inv_takeInterrupt {l : Level} (hl : isLevel l = true) (hs : s.Inv) : (takeInterrupt l s).Inv := by
  unfold takeInterrupt
  split
  · exact inv_takeIntPsw hl hs
  · next hm =>
    have h : (enterIntPsd l s).state.InvPsd := enterIntPsd_keepsPsd hl ⟨hs, hm⟩
    split <;> rename_i e <;> rw [e] at h
    case h_2 => exact inv_raiseSync _ h.inv
    all_goals exact h.inv

/-! ### The instruction -/

theorem inv_finish (len : Len) (s : State) {u : State} (hu : u.Inv) : (finish len s u).Inv :=
  { hu with
    blockCount := fun h => by
      have hb : u.blocked = false := h
      simp only [finish, hb, Bool.false_eq_true, if_false] }

theorem inv_complete (len : Len) (s : State) {u : State} (hu : u.Inv) : (complete len s u).Inv := by
  have hf := inv_finish len s hu
  unfold complete
  split
  · exact inv_raiseSync _ { hf with blockCount := fun _ => rfl }
  · unfold State.haltedFrom
    split
    · exact hf.congr rfl
    · exact hf

theorem inv_perform {len : Len} {op : State → Res Unit} {t : State} (hop : ∀ u, Sound u (op u)) (hs : s.Inv)
    (h : perform len op s = .next t) : t.Inv := by
  have hstart : (s.start len).Inv := hs.congr rfl
  have hres := (hop (s.start len)).inv hstart
  unfold perform at h
  split at h <;> rename_i u e <;> rw [e] at hres <;> replace hres : u.Inv := hres <;> cases h
  · exact inv_complete len s hres
  · exact inv_raiseSync _ (hres.congr rfl)
  · exact inv_complete len s (hres.congr rfl)
  · exact inv_raiseSync _ (hres.congr rfl)
  · exact (invFrame_haltFor _ _).inv (hres.congr rfl)

theorem inv_settle (hs : s.Inv) : (settle s).Inv := by
  unfold settle
  split
  · exact hs.congr rfl
  · exact hs

theorem fetch_steady : Steady s (fetch s) := by
  unfold fetch
  split
  · next h => exact .stop rfl (stop_ne_arithmetic (translate_ne_arithmetic h))
  · refine .after (invFrame_interleave s) ?_
    unfold fetchNow
    split
    · exact .stop rfl nofun
    · split
      · exact .stop rfl nofun
      · exact .ok rfl

theorem inv_runInstr {t : State} (hs : s.Inv) (h : runInstr s = .next t) : t.Inv := by
  have hf : (fetch s).state.Inv := fetch_steady.frame.inv hs
  have hundefined (u : State) : Sound u (trapNow (.undefined false) u : Res Unit) := .of (.stop rfl nofun)
  unfold runInstr at h
  split at h <;> rename_i e <;> rw [e] at hf
  · cases h
    exact inv_settle (inv_raiseSync _ hf)
  · cases h
    exact hf
  · cases h
    exact hf
  · cases h
  · split at h <;> obtain ⟨u, hu, rfl⟩ := settleOutcome_next h
    · exact inv_settle (inv_perform hundefined hf hu)
    · rw [exec_eq] at hu
      exact inv_settle (inv_perform (fun _ => effectOf_sound _) hf hu)

end Traps

/-! ### The environment's moves -/

section Environment

variable {s : State}

theorem inv_setDev {d : Nat} {e : DevEntry} (he : 0x14 ≤ e.level.toNat ∧ e.level.toNat ≤ 0x23) (hs : s.Inv) :
    (s.setDev d e).Inv := by
  unfold State.setDev
  split
  · next hd =>
    refine { hs with devLevels := ?_ }
    have hold := hs.devLevels
    simp only [State.devLevels, List.all_eq_true] at hold ⊢
    intro x hx
    rcases Vector.mem_or_eq_of_mem_set (Vector.mem_toList_iff.mp hx) with hx | rfl
    · exact hold x (Vector.mem_toList_iff.mpr hx)
    · simpa using he
  · exact hs

theorem inv_addDevices {n d : Nat} {e : DevEntry} (he : 0x14 ≤ e.level.toNat ∧ e.level.toNat ≤ 0x23) (hs : s.Inv) :
    (addDevices n d e s).Inv := by
  induction n generalizing d e s with
  | zero => exact hs
  | succ n ih => exact ih (e := { e with sub := e.sub + 1 }) he (inv_setDev he hs)

theorem inv_loadDeck (deck : List (List Char)) (hs : s.Inv) : (loadDeck deck s).Inv := by
  induction deck generalizing s with
  | nil => exact hs
  | cons c cs ih =>
    unfold loadDeck
    split
    · exact ih hs
    · exact hs
    · refine ih ?_
      unfold State.setInt
      split
      · exact hs.congr rfl
      · exact hs
    · refine ih ?_
      split
      · next h =>
        refine inv_addDevices ?_ hs
        simp only [BitVec.toNat_ofNat]
        omega
      · exact hs

theorem devLevels_none (h : s.dev = Vector.replicate 128 none) : s.devLevels = true := by
  rw [State.devLevels, h]
  decide

theorem inv_systemReset (hs : s.Inv) : (systemReset s).Inv where
  mem := hs.mem
  memInstalled := hs.memInstalled
  wcs := hs.wcs
  wcsInstalled := hs.wcsInstalled
  psd2 := (rfl : bits (0 : Word) 15 3 = 0)
  pswMap := nofun
  pswBlocked := nofun
  blockCount := fun _ => rfl
  enabled := (rfl : levelsOnly 0 = true)
  request := (rfl : levelsOnly 0 = true)
  active := (rfl : levelsOnly 0 = true)
  devLevels := hs.devLevels
  cfg := hs.cfg

theorem inv_initialLoad {image : List (Addr × Byte)} {icl : List (List Char)} {psw : Word} (hs : s.Inv) :
    (initialLoad image icl psw s).Inv := by
  have hmode := inv_setMode (m := iplMode s.cfg s.panel.bDisplay) hs
  have hsent : ((s.setMode (iplMode s.cfg s.panel.bDisplay)).send
      (.ipl (iplDevice s.cfg s.panel.bDisplay))).Inv := hmode.congr rfl
  have himage := (invFrame_storeAll image _).inv hsent
  unfold initialLoad
  dsimp only
  split
  · exact himage.congr rfl
  · refine (inv_loadDeck icl ?_).congr rfl
    exact { himage with devLevels := devLevels_none rfl }

theorem invFrame_storeWord (a : Addr) (v : Word) (s : State) : invFrame s (storeWord a v s) := by
  unfold storeWord
  split
  · next hp => exact invFrame_poke v hp
  · exact .of rfl

theorem showWord_core (a : Addr) (s : State) : (showWord a s).core = s.core := by
  unfold showWord
  split <;> rfl

theorem panelEa_core (s : State) : (panelEa s).core = s.core := by
  unfold panelEa
  dsimp only
  split
  · split
    · rfl
    · split <;> rfl
  · rfl

theorem panelConv_core (s : State) : (panelConv s).core = s.core := by
  unfold panelConv
  split <;> rfl

theorem panelRunHalt_core (s : State) : (panelRunHalt s).core = s.core := by
  unfold panelRunHalt
  repeat' split
  all_goals rfl

theorem inv_haltedKey (k : PanelKey) (hs : s.Inv) : (haltedKey k s).Inv := by
  cases k with
  | systemReset => exact inv_systemReset hs
  | ipl => exact inv_initialLoad hs
  | writeMd => exact (invFrame_storeWord _ _ s).inv hs
  | writeInc => exact ((invFrame_storeWord _ _ s).inv hs).congr rfl
  | readMd => exact hs.congr (showWord_core _ s)
  | incRead => exact hs.congr (showWord_core _ (s.showA (s.panel.aDisplay + 4)))
  | readEa => exact hs.congr (panelEa_core s)
  | writePsd2 => exact { hs with psd2 := psd2Kept_command _ }
  | conv =>
    change (if s.mode = .psd then panelConv s else s).Inv
    split
    · exact hs.congr (panelConv_core s)
    · exact hs
  | readReg n =>
    change (if n.getLsbD 0 then s.showB (s.reg n) else s.showA (s.reg n)).Inv
    split <;> exact hs.congr rfl
  | instrStep | instrStop | readStop | writeStop | writeReg | writePsw | readPsw | writePc | readPc | readPsd2 =>
    exact hs.congr rfl
  | runHalt | attention | clockOverride | lock | enter | writeMa | writeCsw | readCsw => exact hs

/-- A key that the lock or the running CPU refuses shows a fault, the others act on a halted CPU. -/
theorem inv_unlockedKey (k : PanelKey) (hs : s.Inv) :
    (if s.panel.locked then panelFault 2 s else if s.run = .halt then haltedKey k s else panelFault 2 s).Inv := by
  split
  · exact hs.congr rfl
  · split
    · exact inv_haltedKey k hs
    · exact hs.congr rfl

theorem inv_pressKey (k : PanelKey) (hs : s.Inv) : (pressKey k s).Inv := by
  cases k with
  | attention => exact inv_setRequest (.inr (by decide)) hs
  | lock | enter => exact hs.congr rfl
  | writeCsw =>
    have h : ({ s with csw := bits s.panel.bDisplay 0 12 ++ bits s.csw 12 4 } : State).Inv := hs.congr rfl
    exact (invFrame_storeWord _ _ _).inv h
  | readCsw => exact hs.congr (showWord_core _ s)
  | runHalt =>
    change (if s.panel.locked then panelFault 2 s else panelRunHalt s).Inv
    split
    · exact hs.congr rfl
    · exact hs.congr (panelRunHalt_core s)
  | clockOverride =>
    change (if s.panel.locked then panelFault 2 s
      else { s with panel := { s.panel with clockOverride := !s.panel.clockOverride } }).Inv
    split <;> exact hs.congr rfl
  | writeMa =>
    change (if s.panel.locked then panelFault 2 s else s.showA s.panel.bDisplay).Inv
    split <;> exact hs.congr rfl
  | _ => exact inv_unlockedKey _ hs

theorem invFrame_transferIn (chan : BitVec 4) (v : Word) (s : State) : invFrame s (transferIn chan v s) := by
  unfold transferIn
  split
  · next hp =>
    dsimp only
    split
    · next ht =>
      have h := invFrame_poke (s := s) v ht
      refine h.trans (invFrame_poke _ ?_)
      have hi : ∀ u : State, u.cfg = s.cfg → u.installed (tcwAddr chan).toNat 4 = s.installed (tcwAddr chan).toNat 4 :=
        fun u hu => by unfold State.installed; rw [hu]
      exact (hi _ h.cfg).trans hp
    · exact invFrame_poke _ hp
  · exact .of rfl

theorem invFrame_transferOut (chan : BitVec 4) (s : State) : invFrame s (transferOut chan s) := by
  unfold transferOut
  split
  · next hp =>
    dsimp only
    exact (.of rfl : invFrame s (s.send _)).trans (invFrame_poke _ hp)
  · exact .of rfl

theorem inv_requestLevel (l : Level) (hs : s.Inv) : (requestLevel l s).Inv := by
  unfold requestLevel
  split
  · next h => exact inv_setRequest (.inr h) hs
  · exact hs

theorem inv_applyEvent (e : EnvEvent) (hs : s.Inv) : (applyEvent s e).Inv := by
  cases e with
  | request l => exact inv_requestLevel l hs
  | withdraw l =>
    simp only [applyEvent]
    split
    · exact inv_setRequest (.inl rfl) hs
    · exact hs
  | clockTick =>
    simp only [applyEvent]
    split
    · exact hs
    · exact inv_setRequest (.inr (by decide)) hs
  | timerZero l =>
    simp only [applyEvent]
    split
    · exact hs
    · exact inv_requestLevel l hs
  | powerFail | busFailure => exact inv_raiseAsync _ hs
  | parityFetch | parityOperand => exact hs.congr rfl
  | store a b => exact (invFrame_storeAll [(a, b)] s).inv hs
  | tcwIn c v => exact (invFrame_transferIn c v s).inv hs
  | tcwOut c => exact (invFrame_transferOut c s).inv hs
  | key k => exact inv_pressKey k hs

theorem inv_boundary (hs : s.Inv) : (boundary s).Inv := by
  unfold boundary
  split
  · exact hs
  · exact inv_foldl (fun _ e => inv_applyEvent e) _ (hs.congr rfl)

end Environment

theorem inv_step {s t : State} (hs : s.Inv) (h : step s = .next t) : t.Inv := by
  have hb := inv_boundary hs
  unfold step at h
  dsimp only at h
  split at h
  · cases h
    exact hb
  · split at h <;> cases h
    · next hl => exact inv_takeInterrupt (isLevel_of_sensed hb hl) hb
    · exact hb.congr rfl
  · split at h
    · next hl =>
      cases h
      exact inv_takeInterrupt (isLevel_of_sensed hb hl) hb
    · exact inv_runInstr (s := { boundary s with noIntNext := false }) (hb.congr rfl) h

end Sys2Proof.Machine

namespace Sys2Proof.Proofs

open Sys2Proof.Machine

/-- Settles O58: every piece of a step keeps the invariant, `inv_step`. -/
theorem stepKeepsInv : Obligations.StepKeepsInv := fun _ _ hs h => inv_step hs h

/-- Settles O57: the stores are empty, no level bit is set, no device is configured. -/
theorem resetInv : Obligations.ResetInv where
  mem := rfl
  memInstalled := nofun
  wcs := rfl
  wcsInstalled := nofun
  psd2 := rfl
  pswMap := nofun
  pswBlocked := nofun
  blockCount := fun _ => rfl
  enabled := rfl
  request := rfl
  active := rfl
  devLevels := devLevels_none rfl
  cfg := by decide

end Sys2Proof.Proofs
end

section
/-!
Decoding the encoding gives the instruction back. Each format of an image has its fields in places that do not
overlap, so reading a field of the image gives what was put there; the row of the operation code map then stands for
the instruction, by the width of its memory reference where a family shares a row (R170 to R176, R560).
-/

namespace Sys2Proof

section Formats

variable {i : Instr}

/-! ### Rows that depend on the memory reference -/

section Widths

variable {m : MemRef} {b h w d : Instr}

theorem byWidth_byte (hm : m.isByte = true) : (.ok (byWidth m b h w d) : Except DecodeError Instr) = .ok b := by
  rw [byWidth, if_pos (c := m.f = true) hm]

theorem byWidth_half (hm : m.isHalf = true) : (.ok (byWidth m b h w d) : Except DecodeError Instr) = .ok h := by
  obtain ⟨hf, hc⟩ : m.f = false ∧ m.c31 = true := by simpa [MemRef.isHalf] using hm
  simp [byWidth, hf, hc]

theorem byWidth_word (hm : m.isWord = true) : (.ok (byWidth m b h w d) : Except DecodeError Instr) = .ok w := by
  obtain ⟨⟨hf, hc⟩, hd⟩ : (m.f = false ∧ m.c30 = false) ∧ m.c31 = false := by simpa [MemRef.isWord] using hm
  simp [byWidth, hf, hc, hd]

theorem byWidth_double (hm : m.isDouble = true) : (.ok (byWidth m b h w d) : Except DecodeError Instr) = .ok d := by
  obtain ⟨⟨hf, hc⟩, hd⟩ : (m.f = false ∧ m.c30 = true) ∧ m.c31 = false := by simpa [MemRef.isDouble] using hm
  simp [byWidth, hf, hc, hd]

/-- MPMW and DVMW stand in the doubleword column too (D43). -/
theorem byWidth_wordOrDouble (hm : m.isWordOrDouble = true) :
    (.ok (byWidth m b h w w) : Except DecodeError Instr) = .ok w := by
  obtain ⟨hf, hc⟩ : m.f = false ∧ m.c31 = false := by simpa [MemRef.isWordOrDouble] using hm
  simp [byWidth, hf, hc]

theorem byFloat_of_isFloat {aug dbl : Bool} {w0 d0 w1 d1 : Instr} (hm : m.isFloat aug dbl = true) :
    (.ok (byFloat m w0 d0 w1 d1) : Except DecodeError Instr) =
      .ok (if aug then (if dbl then d1 else w1) else (if dbl then d0 else w0)) := by
  obtain ⟨hf, hc⟩ : m.f = aug ∧ m.c30 = dbl := by simpa [MemRef.isFloat] using hm
  rw [byFloat, hf, hc]

end Widths

/-! ### Interregister, shift and bit formats (R166, R440, R470) -/

theorem decode_halfWord_eq {op : BitVec 6} {rd rs : Reg} {aug : BitVec 4}
    (h : ∀ w, f6 w = rd → f9 w = rs → f12 w = aug → decodeOp op.toNat w = .ok i) :
    decode (halfWord op rd rs aug) = .ok i := by
  rw [decode_halfWord]
  exact h _ (f6_halfWord ..) (f9_halfWord ..) (f12_halfWord ..)

theorem decode_bitWord_eq {op : BitVec 6} {b : BitVec 3} {r : Reg} {y : BitVec 2}
    (h : ∀ w, f6 w = b → f9 w = r → bits w 14 2 = y → decodeOp op.toNat w = .ok i) :
    decode (bitWord op b r y) = .ok i := by
  obtain ⟨hop, hb, hr, hy⟩ := bitWord_fields op b r y
  rw [decode, hop]
  exact h _ hb hr hy

/-! ### CALM, TRP and TPR (R285, R286, R615) -/

theorem calmWord_toNat (flags : BitVec 10) : (calmWord flags).toNat = 0x0C * 2 ^ 26 + flags.toNat * 2 ^ 16 := by
  unfold calmWord
  simp only [Machine.append_toNat, BitVec.ofNat_eq_ofNat, BitVec.toNat_ofNat]
  omega

theorem decode_calmWord (flags : BitVec 10) : decode (calmWord flags) = .ok (.calm flags) := by
  have hop : opOf (calmWord flags) = _ := Machine.bits_toNat (calmWord flags) 0 6
  have hn := calmWord_toNat flags
  have hflags : bits (calmWord flags) 6 10 = flags := Machine.bits_of_toNat (by omega)
  have h0C : opOf (calmWord flags) = 0x0C := by omega
  rw [decode, h0C]
  exact congrArg (fun v => Except.ok (Instr.calm v)) hflags

theorem protWord_toNat (sub : BitVec 3) (p : BitVec 4) (r : Reg) :
    (protWord sub p r).toNat = 0x3E * 2 ^ 26 + sub.toNat * 2 ^ 23 + p.toNat * 2 ^ 19 + r.toNat * 2 ^ 16 := by
  unfold protWord
  simp only [Machine.append_toNat, BitVec.ofNat_eq_ofNat, BitVec.toNat_ofNat]
  omega

theorem decode_protWord {sub : BitVec 3} {p : BitVec 4} {r : Reg}
    (h : ∀ w, f6 w = sub → bits w 9 4 = p → bits w 13 3 = r → decode3E w = i) :
    decode (protWord sub p r) = .ok i := by
  have hop : opOf (protWord sub p r) = _ := Machine.bits_toNat (protWord sub p r) 0 6
  have hn := protWord_toNat sub p r
  have h3E : opOf (protWord sub p r) = 0x3E := by omega
  rw [decode, h3E]
  exact congrArg _ (h _ (Machine.bits_of_toNat (by omega)) (Machine.bits_of_toNat (by omega))
    (Machine.bits_of_toNat (by omega)))

/-! ### Memory reference (R164) -/

theorem memWord_toNat (op : BitVec 6) (r : BitVec 3) (m : MemRef) :
    (memWord op r m).toNat =
      op.toNat * 2 ^ 26 + r.toNat * 2 ^ 23 + m.x.toNat * 2 ^ 21 + m.i.toNat * 2 ^ 20 + m.a.toNat := by
  unfold memWord
  simp only [Machine.append_toNat, BitVec.toNat_ofBool]
  omega

theorem opOf_memWord (op : BitVec 6) (r : BitVec 3) (m : MemRef) : opOf (memWord op r m) = op.toNat := by
  have hop : opOf (memWord op r m) = _ := Machine.bits_toNat (memWord op r m) 0 6
  have hn := memWord_toNat op r m
  have hi := m.i.toNat_le
  omega

theorem f6_memWord (op : BitVec 6) (r : BitVec 3) (m : MemRef) : f6 (memWord op r m) = r := by
  have hn := memWord_toNat op r m
  have hi := m.i.toNat_le
  exact Machine.bits_of_toNat (by omega)

theorem memRefOf_memWord (op : BitVec 6) (r : BitVec 3) (m : MemRef) : memRefOf (memWord op r m) = m := by
  have hn := memWord_toNat op r m
  have hi := m.i.toNat_le
  have hx : bits (memWord op r m) 9 2 = m.x := Machine.bits_of_toNat (by omega)
  have hind : bitAt (memWord op r m) 11 = m.i := Machine.bitAt_of_toNat (by omega)
  have ha : bits (memWord op r m) 12 20 = m.a := Machine.bits_of_toNat (by omega)
  rw [memRefOf, hx, hind, ha]

theorem decode_memWord {op : BitVec 6} {r : BitVec 3} {m : MemRef}
    (h : ∀ w, f6 w = r → memRefOf w = m → decodeOp op.toNat w = .ok i) : decode (memWord op r m) = .ok i := by
  rw [decode, opOf_memWord]
  exact h _ (f6_memWord op r m) (memRefOf_memWord op r m)

/-- The family that sub-code 0 of operation code 0x3E shares (R172). -/
theorem decode_zeroMemory {m : MemRef}
    (h : (.ok (byWidth m (.zmb m) (.zmh m) (.zmw m) (.zmd m)) : Except DecodeError Instr) = .ok i) :
    decode (memWord 0x3E 0 m) = .ok i := by
  refine decode_memWord fun w hr hm => ?_
  change Except.ok (decode3E w) = _
  rw [decode3E, hr, hm]
  exact h

/-! ### Immediate, extended and Execute formats (R165, R167, R241, R609, R616) -/

theorem immWord_toNat (r : Reg) (aug : BitVec 3) (v : Half) :
    (immWord r aug v).toNat = 0x32 * 2 ^ 26 + r.toNat * 2 ^ 23 + aug.toNat * 2 ^ 16 + v.toNat := by
  unfold immWord
  simp only [Machine.append_toNat, BitVec.ofNat_eq_ofNat, BitVec.toNat_ofNat]
  omega

theorem decode_immWord {r : Reg} {aug : BitVec 3} {v : Half}
    (h : ∀ w, f6 w = r → f12 w = aug.setWidth 4 → f16 w = v → decode32 w = .ok i) :
    decode (immWord r aug v) = .ok i := by
  have hop : opOf (immWord r aug v) = _ := Machine.bits_toNat (immWord r aug v) 0 6
  have hn := immWord_toNat r aug v
  have h32 : opOf (immWord r aug v) = 0x32 := by omega
  rw [decode, h32]
  exact h _ (Machine.bits_of_toNat (by omega))
    (Machine.bits_of_toNat (by rw [BitVec.toNat_setWidth]; omega)) (Machine.bits_of_toNat (by omega))

/-- The two operands of SVC are the immediate operand cut at bit 20 (R616). -/
theorem f16_eq_append {w : Word} {a : BitVec 4} {b : BitVec 12} (h : f16 w = a ++ b) :
    bits w 16 4 = a ∧ bits w 20 12 = b := by
  have hn : w.toNat / 2 ^ 0 % 2 ^ 16 = a.toNat * 2 ^ 12 + b.toNat := by
    rw [← Machine.append_toNat, ← h]
    exact (Machine.bits_toNat w 16 16).symm
  exact ⟨Machine.bits_of_toNat (by omega), Machine.bits_of_toNat (by omega)⟩

/-- Bit 30 of the image is in the immediate operand (R609). -/
theorem bitAt_thirty_eq {w : Word} {v : Half} (h : f16 w = v) : bitAt w 30 = bitAt v 14 := by
  have hn : v.toNat = w.toNat / 2 ^ 0 % 2 ^ 16 := h ▸ Machine.bits_toNat w 16 16
  rw [Machine.bitAt_eq_decide, Machine.bitAt_eq_decide]
  have hb : w.toNat / 2 ^ (32 - 1 - 30) % 2 = v.toNat / 2 ^ (16 - 1 - 14) % 2 := by omega
  rw [hb]

theorem extWord_toNat (rd rs : Reg) (aug : BitVec 4) (rz : Reg) :
    (extWord rd rs aug rz).toNat =
      0x32 * 2 ^ 26 + rd.toNat * 2 ^ 23 + rs.toNat * 2 ^ 20 + aug.toNat * 2 ^ 16 + rz.toNat := by
  unfold extWord
  simp only [Machine.append_toNat, BitVec.ofNat_eq_ofNat, BitVec.toNat_ofNat]
  omega

theorem decode_extWord {rd rs : Reg} {aug : BitVec 4} {rz : Reg}
    (h : ∀ w, f6 w = rd → f9 w = rs → f12 w = aug → bits w 29 3 = rz → decode32 w = .ok i) :
    decode (extWord rd rs aug rz) = .ok i := by
  have hop : opOf (extWord rd rs aug rz) = _ := Machine.bits_toNat (extWord rd rs aug rz) 0 6
  have hn := extWord_toNat rd rs aug rz
  have h32 : opOf (extWord rd rs aug rz) = 0x32 := by omega
  rw [decode, h32]
  exact h _ (Machine.bits_of_toNat (by omega)) (Machine.bits_of_toNat (by omega))
    (Machine.bits_of_toNat (by omega)) (Machine.bits_of_toNat (by omega))

/-! ### Interrupt control, CD and TD, Class F (R640, R671, R680) -/

theorem levelWord_toNat (l : Level) (aug : BitVec 3) (c : Half) :
    (levelWord l aug c).toNat = 0x3F * 2 ^ 26 + l.toNat * 2 ^ 19 + aug.toNat * 2 ^ 16 + c.toNat := by
  unfold levelWord
  simp only [Machine.append_toNat, BitVec.ofNat_eq_ofNat, BitVec.toNat_ofNat]
  omega

theorem decode_levelWord {l : Level} {aug : BitVec 3} {c : Half}
    (h : ∀ w, bits w 6 7 = l → f13 w = aug → f16 w = c → decode3F w = .ok i) :
    decode (levelWord l aug c) = .ok i := by
  have hop : opOf (levelWord l aug c) = _ := Machine.bits_toNat (levelWord l aug c) 0 6
  have hn := levelWord_toNat l aug c
  have h3F : opOf (levelWord l aug c) = 0x3F := by omega
  rw [decode, h3F]
  exact h _ (Machine.bits_of_toNat (by omega)) (Machine.bits_of_toNat (by omega)) (Machine.bits_of_toNat (by omega))

theorem classFWord_toNat (r : Reg) (sub : BitVec 4) (k : Half) :
    (classFWord r sub k).toNat =
      0x3F * 2 ^ 26 + r.toNat * 2 ^ 23 + sub.toNat * 2 ^ 19 + 7 * 2 ^ 16 + k.toNat := by
  unfold classFWord
  simp only [Machine.append_toNat, BitVec.ofNat_eq_ofNat, BitVec.toNat_ofNat]
  omega

/-- The Class F instructions are the eighth augmenting code of operation code 0x3F (R175). -/
theorem decode_classFWord {r : Reg} {sub : BitVec 4} {k : Half}
    (h : ∀ w, f6 w = r → bits w 9 4 = sub → f16 w = k → decodeClassF w = .ok i) :
    decode (classFWord r sub k) = .ok i := by
  have hop : opOf (classFWord r sub k) = _ := Machine.bits_toNat (classFWord r sub k) 0 6
  have hn := classFWord_toNat r sub k
  have h3F : opOf (classFWord r sub k) = 0x3F := by omega
  have haug : f13 (classFWord r sub k) = 7 := Machine.bits_of_toNat (by rw [hn]; simp only [BitVec.ofNat_eq_ofNat, BitVec.toNat_ofNat]; omega)
  have hrow : decodeOp 0x3F (classFWord r sub k) = decodeClassF (classFWord r sub k) := by
    change decode3F _ = _
    rw [decode3F, haug]
    rfl
  rw [decode, h3F, hrow]
  exact h _ (Machine.bits_of_toNat (by omega)) (Machine.bits_of_toNat (by omega)) (Machine.bits_of_toNat (by omega))

end Formats

end Sys2Proof

namespace Sys2Proof.Proofs

open Sys2Proof.Machine

/-- Settles O1: the row of each instruction, from the fields of its format; where a family shares a row, by the width
that `Instr.wf` asks of the memory reference. -/
theorem decodeEncode : Obligations.DecodeEncode := by
  intro i hwf
  cases i with
  | lb r m | lmb r m | lnb r m | stb r m | stmb r m | camb r m | cmmb r m | anmb r m | ormb r m | eomb r m | admb r m
  | armb r m | sumb r m | mpmb r m | dvmb r m =>
    refine decode_memWord fun w hr hm => ?_
    subst hr hm
    exact byWidth_byte hwf
  | lh r m | lmh r m | lnh r m | sth r m | stmh r m | camh r m | cmmh r m | anmh r m | ormh r m | eomh r m | admh r m
  | armh r m | sumh r m | mpmh r m | dvmh r m =>
    refine decode_memWord fun w hr hm => ?_
    subst hr hm
    exact byWidth_half hwf
  | lw r m | lmw r m | lnw r m | stw r m | stmw r m | camw r m | cmmw r m | anmw r m | ormw r m | eomw r m | admw r m
  | armw r m | sumw r m =>
    refine decode_memWord fun w hr hm => ?_
    subst hr hm
    exact byWidth_word hwf
  | ld r m | lmd r m | lnd r m | std r m | stmd r m | camd r m | cmmd r m | anmd r m | ormd r m | eomd r m | admd r m
  | armd r m | sumd r m =>
    refine decode_memWord fun w hr hm => ?_
    subst hr hm
    exact byWidth_double hwf
  | mpmw r m | dvmw r m =>
    refine decode_memWord fun w hr hm => ?_
    subst hr hm
    exact byWidth_wordOrDouble hwf
  | adfw r m | adfd r m | sufw r m | sufd r m | mpfw r m | mpfd r m | dvfw r m | dvfd r m =>
    refine decode_memWord fun w hr hm => ?_
    subst hr hm
    exact byFloat_of_isFloat hwf
  | lea r m | lear r m | la r m | lf r m | stf r m | sbm r m | zbm r m | abm r m | tbm r m =>
    refine decode_memWord fun w hr hm => ?_
    subst hr hm
    rfl
  | exm m =>
    refine decode_memWord fun w _ hm => ?_
    subst hm
    rfl
  | bu m | bft m =>
    refine decode_memWord fun w hr hm => ?_
    subst hm
    exact congrArg _ (if_pos hr)
  | bct d m | bcf d m =>
    refine decode_memWord fun w hr hm => ?_
    subst hr hm
    exact congrArg _ (if_neg (of_decide_eq_true hwf))
  | bib r i a | bih r i a | biw r i a | bid r i a =>
    refine decode_memWord fun w hr hm => ?_
    subst hr
    change Except.ok (match (memRefOf w).x.toNat with | 0 => _ | 1 => _ | 2 => _ | _ => _) = _
    rw [hm]
    rfl
  | zmb m =>
    exact decode_zeroMemory (byWidth_byte hwf)
  | zmh m =>
    exact decode_zeroMemory (byWidth_half hwf)
  | zmw m =>
    exact decode_zeroMemory (byWidth_word hwf)
  | zmd m =>
    exact decode_zeroMemory (byWidth_double hwf)
  | bl m | bri m | lpsd m | jwcs m | lpsdcm m =>
    refine decode_memWord fun w hr hm => ?_
    change Except.ok (decode3E w) = _
    rw [decode3E, hr, hm]
    rfl
  | trp p r | tpr p r =>
    refine decode_protWord fun w hsub hp hr => ?_
    rw [decode3E, hsub, hp, hr]
    rfl
  | anr rd rs | car rd rs | cmr rd rs | mpr rd rs | dvr rd rs | nor rd rs | nord rd rs | scz rd rs =>
    exact decode_aug0_row _ _ fun _ => rfl
  | orr rd rs =>
    exact (decode_or rd rs).1
  | orrm rd rs =>
    exact (decode_or rd rs).2
  | zr r =>
    exact (decode_exclusiveOr r r).1.trans (congrArg _ (if_pos rfl))
  | eor rd rs =>
    exact (decode_exclusiveOr rd rs).1.trans (congrArg _ (if_neg (of_decide_eq_true hwf)))
  | eorm rd rs =>
    exact (decode_exclusiveOr rd rs).2
  | adr rd rs | sur rd rs =>
    refine decode_halfWord_eq fun w hrd hrs haug => ?_
    subst hrd hrs
    exact if_pos haug
  | adrm rd rs | surm rd rs =>
    refine decode_halfWord_eq fun w hrd hrs haug => ?_
    subst hrd hrs
    change aug08 w _ _ = _
    rw [aug08, haug]
    rfl
  | trsw r =>
    refine decode_halfWord_eq fun w hrd _ _ => ?_
    subst hrd
    rfl
  | trr rd rs | trc rd rs | trn rd rs | xcr rd rs | trrm rd rs | tmapr rd rs | trcm rd rs | trnm rd rs | xcrm rd rs
  | trsc rd rs | tscr rd rs | lmap r | setcpu r =>
    refine decode_halfWord_eq fun w hrd hrs haug => ?_
    change decode0B w = _
    rw [decode0B, haug, hrd, hrs]
    rfl
  | halt | wait | nop | bei | uei | eae | sea | dae | cea | lcs r | es r | rnd r | rdsts r | rwcs rd rs | wwcs rd rs =>
    refine decode_halfWord_eq fun w hrd hrs haug => ?_
    change decode00 w = _
    rw [decode00, haug, hrd, hrs]
    rfl
  | sbr b r y | zbr b r y | abr b r y | tbr b r y =>
    refine decode_bitWord_eq fun w hb hr hy => ?_
    subst hb hr hy
    rfl
  | sla r n | sra r n =>
    exact decode_shiftArithmetic r _ n
  | sll r n | srl r n =>
    exact decode_shiftLogical r _ n
  | slc r n | src r n =>
    exact decode_shiftCircular r _ n
  | slad r n | srad r n | slld r n | srld r n =>
    exact decode_shift_row _ r _ n fun _ => rfl
  | calm flags =>
    exact decode_calmWord flags
  | li r v | adi r v | sui r v | mpi r v | dvi r v | ci r v =>
    refine decode_immWord fun w hr haug hv => ?_
    rw [decode32, haug, hr, hv]
    rfl
  | svc ind call =>
    refine decode_immWord fun w _ haug hv => ?_
    obtain ⟨hind, hcall⟩ := f16_eq_append hv
    rw [decode32, haug, hind, hcall]
    rfl
  | exr r | exrr r =>
    refine decode_immWord fun w hr haug hv => ?_
    rw [decode32, haug, hr, bitAt_thirty_eq hv]
    rfl
  | sem rd rs rz | lem rd rs rz | cema rd rs rz =>
    refine decode_extWord fun w hrd hrs haug hrz => ?_
    rw [decode32, haug, hrd, hrs, hrz]
    rfl
  | ei l | di l | ri l | ai l | dai l | cd d c | td d c =>
    refine decode_levelWord fun w hl haug hc => ?_
    rw [decode3F, hl, haug, hc]
    rfl
  | eci r k | dci r k | aci r k | daci r k | sio r k | tio r k | stpio r k | rschnl r k | hio r k | grio r k | rsctl r k
  | ecwcs r k | wcwcs r k =>
    refine decode_classFWord fun w hr hsub hk => ?_
    rw [decodeClassF, hsub, hr, hk]
    rfl

/-- A word written out from the encodings is the encoding of its instruction. -/
theorem decode_of_encode {i : Instr} {w : Word} (h : encode i = w) (hwf : i.wf = true) : decode w = .ok i :=
  h ▸ decodeEncode i hwf

/-- Settles O2: each word is the encoding of the instruction it stands for. -/
theorem decodesSpecWords : Obligations.DecodesSpecWords := by
  refine ⟨?_, ?_, ?_, ?_, ?_, ?_, ?_, ?_, ?_, ?_, ?_, ?_, ?_, ?_, ?_⟩ <;> exact decode_of_encode (by decide) (by decide)

end Sys2Proof.Proofs
end

section
/-!
Which interrupt is taken and when none (R760 to R762), several traps at one boundary (R733), the Block Mode Timeout
(R756), the vectors (R731, R732).
-/

namespace Sys2Proof.Machine

/-! ### Which level is sensed (R761, R762) -/

/-- The level that contends with no contending level above it. -/
theorem lowest_contending_iff (s : State) (l : Level) : lowest (s.enabledEff &&& s.request) = some l ↔
    s.enabledEff.getLsbD l.toNat = true ∧ s.request.getLsbD l.toNat = true ∧
      ∀ k : Level, k.toNat < l.toNat → ¬(s.enabledEff.getLsbD k.toNat = true ∧ s.request.getLsbD k.toNat = true) := by
  rw [lowest_eq_some_iff]
  simp only [BitVec.getLsbD_and, Bool.and_eq_true, ← Bool.not_eq_true, and_assoc]

/-- A step of a waiting machine that no interrupt ends (R613). -/
theorem step_waits {s : State} (h : s.inputs = []) (hr : s.run = .wait) (hl : s.sensed = none) :
    step s = .next { s with noIntNext := false } := by
  simp [step, h, hr, hl]

/-! ### Several traps at once (R733) -/

/-- The events that are no asynchronous traps give none. -/
theorem filterMap_asyncTrap_eq_nil {s : State} {es : List EnvEvent} (h : ∀ e ∈ es, s.asyncTrap e = none) :
    es.filterMap s.asyncTrap = [] :=
  List.filterMap_eq_nil_iff.mpr h

/-- The events of a boundary that the trap `t` leaves in it: those that are no asynchronous trap before it. -/
def State.staysAfter (s : State) (t : Trap) (e : EnvEvent) : Bool :=
  match s.asyncTrap e with
  | none => true
  | some a => decide (t.priority ≤ a.priority)

theorem dropUrgent_eq {s : State} {t : Trap} {es : List EnvEvent} {rest : List (List EnvEvent)}
    (h : s.inputs = es :: rest) : s.dropUrgent t = { s with inputs := es.filter (s.staysAfter t) :: rest } := by
  unfold State.dropUrgent
  rw [h]
  rfl

section PowerFail

variable {s : State} {t : Trap} {a c : List EnvEvent} {rest : List (List EnvEvent)}

/-- A power fail alone among the events of the boundary comes before every trap of lower priority. -/
theorem urgent_powerFail (hno : ∀ e ∈ a ++ c, s.asyncTrap e = none) (ht : t.priority ≠ 0)
    (hin : s.inputs = (a ++ .powerFail :: c) :: rest) : s.urgent t = [.powerFail] := by
  have ha := filterMap_asyncTrap_eq_nil fun e he => hno e (List.mem_append_left c he)
  have hc := filterMap_asyncTrap_eq_nil fun e he => hno e (List.mem_append_right a he)
  have hpf : s.asyncTrap .powerFail = some .powerFail := rfl
  have hts : (a ++ .powerFail :: c).filterMap s.asyncTrap = [.powerFail] := by
    rw [List.filterMap_append, ha, List.filterMap_cons_some hpf, hc]
    rfl
  have hprio : Trap.powerFail.priority < t.priority := Nat.pos_of_ne_zero ht
  simp [State.urgent, hin, hts, hprio]

/-- The boundary that remains holds the other events. -/
theorem dropUrgent_powerFail (hno : ∀ e ∈ a ++ c, s.asyncTrap e = none) (ht : t.priority ≠ 0)
    (hin : s.inputs = (a ++ .powerFail :: c) :: rest) : s.dropUrgent t = { s with inputs := (a ++ c) :: rest } := by
  have hstays (es : List EnvEvent) (h : ∀ e ∈ es, s.asyncTrap e = none) : es.filter (s.staysAfter t) = es := by
    rw [List.filter_eq_self]
    intro e he
    rw [State.staysAfter, h e he]
  have ha := hstays a fun e he => hno e (List.mem_append_left c he)
  have hc := hstays c fun e he => hno e (List.mem_append_right a he)
  have hpf : ¬ s.staysAfter t .powerFail = true := fun h => ht (Nat.le_zero.mp (of_decide_eq_true h))
  have hdrop : (a ++ .powerFail :: c).filter (s.staysAfter t) = a ++ c := by
    rw [List.filter_append, ha, List.filter_cons_of_neg hpf, hc]
  rw [dropUrgent_eq hin, hdrop]

/-- Power Fail is entered first; the trap after it, unless the machine has halted. -/
theorem raiseSync_powerFail (hm : s.mode = .psd) (hr : s.run ≠ .halt) (hno : ∀ e ∈ a ++ c, s.asyncTrap e = none)
    (ht : t.priority ≠ 0) (hin : s.inputs = (a ++ .powerFail :: c) :: rest) :
    raiseSync t s =
      if (raise .powerFail { s with inputs := (a ++ c) :: rest }).run = .halt
      then raise .powerFail { s with inputs := (a ++ c) :: rest }
      else raise t (raise .powerFail { s with inputs := (a ++ c) :: rest }) := by
  have hfirst : raiseAsync .powerFail { s with inputs := (a ++ c) :: rest } =
      raise .powerFail { s with inputs := (a ++ c) :: rest } := by
    simp [raiseAsync, hm, hr]
  rw [raiseSync, urgent_powerFail hno ht hin, dropUrgent_powerFail hno ht hin, ← hfirst]
  rfl

end PowerFail

/-- A SelBUS failure takes effect after the others wherever it is listed. -/
theorem inOrder_busFailure {b : Word} {d : Option (BitVec 7)} {a c : List EnvEvent}
    (hc : ∀ e ∈ c, ∀ b' d', e ≠ .busFailure b' d') :
    inOrder (a ++ .busFailure b d :: c) = inOrder (a ++ c ++ [.busFailure b d]) := by
  have hcf : c.filter EnvEvent.isBusFailure = [] := by
    rw [List.filter_eq_nil_iff]
    intro e he
    cases e
    case busFailure b' d' => exact absurd rfl (hc _ he b' d')
    all_goals exact Bool.false_ne_true
  simp [inOrder, hcf, EnvEvent.isBusFailure, List.filter_cons]

/-! ### The Block Mode Timeout (R756) -/

section Timeout

variable {i : Instr} {s u : State}

/-- After an instruction that leaves the CPU blocked BLOCK_COUNT has gone on. -/
theorem finish_blocked (len : Len) (hs : s.blocked = true) (hu : u.blocked = true)
    (hc : u.blockCount = s.blockCount) :
    finish len s u = { u with hist := histOf len s.pc, blockCount := s.blockCount + 1 } := by
  simp [finish, hs, hu, hc]

theorem complete_blocked_early {len : Len} (hr : u.run ≠ .halt) (hs : s.blocked = true) (hu : u.blocked = true)
    (hc : u.blockCount = s.blockCount) (hlt : s.blockCount < 128) :
    complete len s u = { u with hist := histOf len s.pc, blockCount := s.blockCount + 1 } := by
  have hfin := finish_blocked len hs hu hc
  rw [complete_quiet _ fun h => absurd h hr, hfin]
  have hcount : decide (128 < s.blockCount + 1) = false := decide_eq_false (by omega)
  rw [hfin, State.timeoutDue, hcount, Bool.and_false, Bool.false_and]

theorem complete_blocked_late {len : Len} (hm : u.mode = .psd) (hr : u.run ≠ .halt) (he : u.bmtEn = true)
    (hs : s.blocked = true) (hu : u.blocked = true) (hc : u.blockCount = s.blockCount) (hge : 128 ≤ s.blockCount) :
    complete len s u = raiseSync .blockTimeout { u with hist := histOf len s.pc, blockCount := 0 } := by
  have hdue : (finish len s u).timeoutDue = true := by
    rw [finish_blocked len hs hu hc]
    simp only [State.timeoutDue, hm, hu, he, Bool.and_eq_true, decide_eq_true_eq]
    exact ⟨⟨⟨⟨trivial, trivial⟩, trivial⟩, by omega⟩, hr⟩
  rw [complete, if_pos hdue]
  rfl

end Timeout

/-! ### Vectors (R731, R732) -/

theorem ivlOf_toNat (l : Level) (h : isLevel l = true) : (ivlOf l).toNat =
    if l.toNat = 0 then 0xF0 else if l.toNat = 1 then 0xF8 else if l.toNat < 0x14 then 0xE8 + 4 * (l.toNat - 0x12)
    else if l.toNat < 0x24 then 0x140 + 4 * (l.toNat - 0x14) else 0x190 + 4 * (l.toNat - 0x24) := by
  have hex : l.toNat < 2 ∨ 0x12 ≤ l.toNat := by simpa [isLevel] using h
  simp only [ivlOf, apply_ite BitVec.toNat, BitVec.ofNat_eq_ofNat, BitVec.toNat_ofNat]
  split_ifs <;> omega

end Sys2Proof.Machine

namespace Sys2Proof.Proofs

open Sys2Proof.Machine

/-- Settles O6: the steps by the state at the boundary, the level by `sensed_eq_some_iff`, coincident events by
`raiseSync_powerFail` and `inOrder_busFailure`. -/
theorem interruptPriority : Obligations.InterruptPriority := by
  refine ⟨⟨fun _ => step_halted, fun _ => step_waits, fun _ _ => step_interrupt⟩, fun s l => ?_,
    fun s t a c rest hm hr hno ht hin => raiseSync_powerFail hm hr hno ht hin, fun s b d a c rest hc => ?_⟩
  · rw [sensed_eq_some_iff, lowest_contending_iff]
    tauto
  · exact congrArg (fun es => es.foldl applyEvent { s with inputs := rest }) (inOrder_busFailure hc)

/-- Settles O54: the end of the instruction with BLOCK_COUNT one further, on either side of the limit. -/
theorem blockModeTimeout : Obligations.BlockModeTimeout := by
  intro i s u heff hm hr he hs hu hc
  have hexec : exec i s = .next (complete i.len s u) := (exec_eq i s).trans (perform_ok heff)
  rw [hexec]
  exact ⟨fun hlt => congrArg _ (complete_blocked_early hr hs hu hc hlt),
    fun hge => congrArg _ (complete_blocked_late hm hr he hs hu hc hge)⟩

/-- Settles O55: the levels by `ivlOf_toNat`, the traps by the table. -/
theorem vectors : Obligations.Vectors :=
  ⟨ivlOf_toNat, rfl⟩

end Sys2Proof.Proofs
end

section
/-!
Loads, negative loads and the fixed-point sums (R225 to R237, R269, R287, R288, R477, R490 to R512): one word or the
pair takes the exact integer wrapped to its width, and CC1 tells whether it fits.
-/

namespace Sys2Proof.Machine

/-! ### The end of the instruction -/

section Endings

variable {len : Len} {op : State → Res Unit} {s u : State} {r : Reg}

/-- An instruction that puts a word with its own CC1, where CC1 raises no exception (R235, R491). -/
theorem perform_putWordOv {x : Word × Bool} (hq : s.quiet) (hu : onlyHalt (s.start len) u)
    (h : op (s.start len) = putWordOv r x u) (hc : x.2 = true → s.arithEnabled = false) :
    ∃ t, perform len op s = .next t ∧ onlyRegs s t ∧ Ended len s t ∧ wroteWord r x.1 x.2 s t := by
  have hok := putWordOv_ok (r := r) (x := x) fun h1 => (onlyHalt_arithEnabled hu).trans (hc h1)
  obtain ⟨t, ht, hregs, hend, hothers, hval, hcc⟩ := perform_setReg_setCC hq hu (h.trans hok)
  exact ⟨t, ht, hregs, hend, hval, hothers, hcc ▸ signCC_ccArith _ _⟩

/-- The same for a doubleword put in the pair (R236, R491). -/
theorem perform_putDwordOv {x : Dword × Bool} (hq : s.quiet) (hu : onlyHalt (s.start len) u)
    (h : op (s.start len) = putDwordOv r x u) (hc : x.2 = true → s.arithEnabled = false) :
    ∃ t, perform len op s = .next t ∧ onlyRegs s t ∧ Ended len s t ∧ wrotePair r x.1 x.2 s t := by
  have hok := putDwordOv_ok (r := r) (x := x) fun h1 => (onlyHalt_arithEnabled hu).trans (hc h1)
  have hframe : effectRegs (s.start len) ((u.setPair r x.1).setCC (ccArith x.2 x.1)) :=
    effectRegs_trans (effectRegs_of_onlyHalt hu) rfl
  obtain ⟨ht, hregs, hend⟩ := perform_regs_ended hq (h.trans hok) hframe (onlyHalt_pc hu) (onlyHalt_lastBix hu)
  exact ⟨_, ht, hregs, hend, wrotePair_finish fun q => onlyHalt_reg hu q⟩

end Endings

/-! ### Operands as numbers -/

/-- The signed number that an operand stands for: a byte is unsigned (R225 to R228, R490). -/
theorem ext_byte_toInt (v : Byte) : (Operand.byte v).ext.toInt = v.toNat := by
  have hv := v.isLt
  rw [Operand.ext, BitVec.toInt_setWidth]
  exact Int.bmod_eq_of_le (by omega) (by omega)

theorem ext_half_toInt (v : Half) : (Operand.half v).ext.toInt = v.toInt :=
  BitVec.toInt_signExtend_of_le (by decide)

/-! ### Sums, differences and negatives as integers (R491) -/

section Wrapped

variable {n : Nat} (a b : BitVec n)

theorem addOv_eq : addOv a b = (BitVec.ofInt n (a.toInt + b.toInt), overflows n (a.toInt + b.toInt)) :=
  Prod.ext (addOv_fst a b) rfl

theorem subOv_eq : subOv a b = (BitVec.ofInt n (a.toInt - b.toInt), overflows n (a.toInt - b.toInt)) := by
  refine Prod.ext ?_ rfl
  rw [subOv, sub_eq_add_neg, sub_eq_add_neg, BitVec.ofInt_add, BitVec.ofInt_neg, BitVec.ofInt_toInt, BitVec.ofInt_toInt]

/-- A signed number fits its own width. -/
theorem overflows_toInt : overflows n a.toInt = false := by
  have hlow := BitVec.le_toInt a
  have hhigh := BitVec.toInt_lt (x := a)
  rw [overflows_eq, decide_eq_false_iff_not]
  omega

/-- Zero less a number leaves the range for the most negative number alone (R235, R287). -/
theorem negOv_eq (hn : 0 < n) : negOv a = (BitVec.ofInt n (-a.toInt), overflows n (-a.toInt)) := by
  refine Prod.ext (by rw [negOv, BitVec.ofInt_neg, BitVec.ofInt_toInt]) ?_
  have hlow := BitVec.le_toInt a
  have hhigh := BitVec.toInt_lt (x := a)
  have hmin : (BitVec.intMin n).toInt = -2 ^ (n - 1) := BitVec.toInt_intMin_of_pos hn
  rw [overflows_eq]
  refine decide_eq_decide.mpr ?_
  rw [← BitVec.toInt_inj, hmin]
  omega

end Wrapped

/-! ### Loads (R225 to R232) -/

theorem exec_load {i : Instr} {r : Reg} {m : MemRef} (s : State)
    (hi : i ∈ [Instr.lb r m, .lh r m, .lw r m, .ld r m]) : exec i s = perform .word (load r m) s := by
  simp only [List.mem_cons, List.not_mem_nil, or_false] at hi
  rcases hi with rfl | rfl | rfl | rfl <;> rfl

theorem exec_loadMasked {i : Instr} {r : Reg} {m : MemRef} (s : State)
    (hi : i ∈ [Instr.lmb r m, .lmh r m, .lmw r m, .lmd r m]) : exec i s = perform .word (loadMasked r m) s := by
  simp only [List.mem_cons, List.not_mem_nil, or_false] at hi
  rcases hi with rfl | rfl | rfl | rfl <;> rfl

theorem exec_loadNegative {i : Instr} {r : Reg} {m : MemRef} (s : State)
    (hi : i ∈ [Instr.lnb r m, .lnh r m, .lnw r m, .lnd r m]) : exec i s = perform .word (loadNegative r m) s := by
  simp only [List.mem_cons, List.not_mem_nil, or_false] at hi
  rcases hi with rfl | rfl | rfl | rfl <;> rfl

section Operands

variable {s u : State} {r : Reg} {m : MemRef} {o : Operand}

/-- What a load of the operand `o` leaves (R225 to R228). -/
def wroteLoad (r : Reg) (o : Operand) (s t : State) : Prop :=
  match o with
  | .dword v => wrotePair r v false s t
  | o => wroteWord r o.ext false s t

theorem perform_load (hq : s.quiet) (h : operand m (s.start .word) = .ok o u) :
    ∃ t, perform .word (load r m) s = .next t ∧ onlyRegs s t ∧ Ended .word s t ∧ wroteLoad r o s t := by
  have hu := operand_onlyHalt (s := s.start .word) hq.alone h
  cases o with
  | byte v | half v | word v => exact perform_read_putWord hq hu (by rw [load, h, Res.bind_ok])
  | dword v => exact perform_read_putDword hq hu (by rw [load, h, Res.bind_ok])

/-- What a masked load leaves (R229 to R232). -/
def wroteMasked (r : Reg) (o : Operand) (s t : State) : Prop :=
  match o with
  | .dword v => wrotePair r (v &&& maskPair s.mask) false s t
  | o => wroteWord r (o.ext &&& s.mask) false s t

theorem perform_loadMasked (hq : s.quiet) (h : operand m (s.start .word) = .ok o u) :
    ∃ t, perform .word (loadMasked r m) s = .next t ∧ onlyRegs s t ∧ Ended .word s t ∧ wroteMasked r o s t := by
  have hu := operand_onlyHalt (s := s.start .word) hq.alone h
  have hmask : u.mask = s.mask := onlyHalt_mask (s := s.start .word) hu
  cases o with
  | byte v | half v | word v => exact perform_read_putWord hq hu (by rw [loadMasked, h, Res.bind_ok, hmask])
  | dword v => exact perform_read_putDword hq hu (by rw [loadMasked, h, Res.bind_ok, hmask])

/-! ### Negative loads (R233 to R236) -/

/-- A negative load of a word-sized operand. -/
theorem perform_loadNegative_word (hq : s.quiet) (h : operand m (s.start .word) = .ok o u)
    (ho : loadNegative r m (s.start .word) = putWordOv r (negOv o.ext) u)
    (hc : overflows 32 (-o.ext.toInt) = true → s.arithEnabled = false) :
    ∃ t, perform .word (loadNegative r m) s = .next t ∧ onlyRegs s t ∧ Ended .word s t ∧
      wroteWord r (BitVec.ofInt 32 (-o.ext.toInt)) (overflows 32 (-o.ext.toInt)) s t := by
  have hu := operand_onlyHalt (s := s.start .word) hq.alone h
  rw [negOv_eq _ (by decide)] at ho
  exact perform_putWordOv hq hu ho hc

theorem perform_loadNegative_dword {v : Dword} (hq : s.quiet) (h : operand m (s.start .word) = .ok (.dword v) u)
    (hc : overflows 64 (-v.toInt) = true → s.arithEnabled = false) :
    ∃ t, perform .word (loadNegative r m) s = .next t ∧ onlyRegs s t ∧ Ended .word s t ∧
      wrotePair r (BitVec.ofInt 64 (-v.toInt)) (overflows 64 (-v.toInt)) s t := by
  have hu := operand_onlyHalt (s := s.start .word) hq.alone h
  have hop : loadNegative r m (s.start .word) = putDwordOv r (negOv v) u := by rw [loadNegative, h, Res.bind_ok]
  rw [negOv_eq _ (by decide)] at hop
  exact perform_putDwordOv hq hu hop hc

/-! ### Sums with memory (R492 to R495, R504 to R507) -/

/-- Addition or subtraction, as the operation code has it. -/
def sumOv {n : Nat} (sub : Bool) (a b : BitVec n) : BitVec n × Bool := if sub then subOv a b else addOv a b

/-- The operand's sign in the sum. -/
def sumSign (sub : Bool) : Int := if sub then -1 else 1

theorem sumOv_eq {n : Nat} (sub : Bool) (a b : BitVec n) :
    sumOv sub a b = (BitVec.ofInt n (a.toInt + sumSign sub * b.toInt), overflows n (a.toInt + sumSign sub * b.toInt)) := by
  cases sub with
  | false => rw [sumOv, sumSign, if_neg Bool.false_ne_true, if_neg Bool.false_ne_true, Int.one_mul, addOv_eq]
  | true => rw [sumOv, sumSign, if_pos rfl, if_pos rfl, Int.neg_one_mul, ← Int.sub_eq_add_neg, subOv_eq]

/-- ADMx and SUMx have one effect but for the operation (R492, R504). -/
def sumMemory (sub : Bool) (r : Reg) (m : MemRef) : State → Res Unit :=
  if sub then subMemory r m else addMemory r m

theorem exec_sumMemory {i : Instr} {sub : Bool} (s : State)
    (hi : i ∈ (if sub then [Instr.sumb r m, .sumh r m, .sumw r m, .sumd r m]
      else [.admb r m, .admh r m, .admw r m, .admd r m])) : exec i s = perform .word (sumMemory sub r m) s := by
  cases sub <;> simp only [if_true, if_false, Bool.false_eq_true, List.mem_cons, List.not_mem_nil, or_false] at hi <;>
    rcases hi with rfl | rfl | rfl | rfl <;> rfl

theorem sumMemory_ok {sub : Bool} {s : State} (h : operand m s = .ok o u) : sumMemory sub r m s =
    match (generalizing := false) o with
    | .dword v => putDwordOv r (sumOv sub (u.pair r) v) u
    | o => putWordOv r (sumOv sub (u.reg r) o.ext) u := by
  cases sub <;> simp only [sumMemory, if_true, if_false, Bool.false_eq_true, addMemory, subMemory, h, Res.bind_ok] <;>
    cases o <;> rfl

theorem perform_sumMemory_word {sub : Bool} (hq : s.quiet) (h : operand m (s.start .word) = .ok o u)
    (ho : sumMemory sub r m (s.start .word) = putWordOv r (sumOv sub (u.reg r) o.ext) u)
    (hc : overflows 32 ((s.reg r).toInt + sumSign sub * o.ext.toInt) = true → s.arithEnabled = false) :
    ∃ t, perform .word (sumMemory sub r m) s = .next t ∧ onlyRegs s t ∧ Ended .word s t ∧
      wroteWord r (BitVec.ofInt 32 ((s.reg r).toInt + sumSign sub * o.ext.toInt))
        (overflows 32 ((s.reg r).toInt + sumSign sub * o.ext.toInt)) s t := by
  have hu := operand_onlyHalt (s := s.start .word) hq.alone h
  have hreg : u.reg r = s.reg r := onlyHalt_reg hu r
  rw [sumOv_eq, hreg] at ho
  exact perform_putWordOv hq hu ho hc

theorem perform_sumMemory_dword {sub : Bool} {v : Dword} (hq : s.quiet)
    (h : operand m (s.start .word) = .ok (.dword v) u)
    (hc : overflows 64 ((s.pair r).toInt + sumSign sub * v.toInt) = true → s.arithEnabled = false) :
    ∃ t, perform .word (sumMemory sub r m) s = .next t ∧ onlyRegs s t ∧ Ended .word s t ∧
      wrotePair r (BitVec.ofInt 64 ((s.pair r).toInt + sumSign sub * v.toInt))
        (overflows 64 ((s.pair r).toInt + sumSign sub * v.toInt)) s t := by
  have hu := operand_onlyHalt (s := s.start .word) hq.alone h
  have hpair : u.pair r = s.pair r := onlyHalt_pair hu r
  have hop : sumMemory sub r m (s.start .word) = putDwordOv r (sumOv sub (u.pair r) v) u := sumMemory_ok h
  rw [sumOv_eq, hpair] at hop
  exact perform_putDwordOv hq hu hop hc

end Operands

/-! ### Sums of registers (R287, R288, R478, R496 to R498, R508 to R510, R512) -/

/-- An instruction whose result is the integer `z` wrapped and masked, CC1 telling whether it fits. -/
theorem perform_masked {len : Len} {op : State → Res Unit} {s : State} {r : Reg} {z : Int} {k : Word} (hq : s.quiet)
    (h : op (s.start len) = putWordOv r (BitVec.ofInt 32 z &&& k, overflows 32 z) (s.start len))
    (hc : decide (z < -2 ^ 31 ∨ 2 ^ 31 ≤ z) = true → s.arithEnabled = false) :
    ∃ t, perform len op s = .next t ∧ onlyRegs s t ∧ Ended len s t ∧
      wroteWord r (BitVec.ofInt 32 z &&& k) (decide (z < -2 ^ 31 ∨ 2 ^ 31 ≤ z)) s t := by
  have hov : overflows 32 z = decide (z < -2 ^ 31 ∨ 2 ^ 31 ≤ z) := overflows_eq 32 z
  rw [hov] at h
  exact perform_putWordOv (u := s.start len) hq rfl h hc

/-- The same where nothing is masked. -/
theorem perform_unmasked {len : Len} {op : State → Res Unit} {s : State} {r : Reg} {z : Int} (hq : s.quiet)
    (h : op (s.start len) = putWordOv r (BitVec.ofInt 32 z, overflows 32 z) (s.start len))
    (hc : decide (z < -2 ^ 31 ∨ 2 ^ 31 ≤ z) = true → s.arithEnabled = false) :
    ∃ t, perform len op s = .next t ∧ onlyRegs s t ∧ Ended len s t ∧
      wroteWord r (BitVec.ofInt 32 z &&& 0xFFFFFFFF) (decide (z < -2 ^ 31 ∨ 2 ^ 31 ≤ z)) s t := by
  have hall : BitVec.ofInt 32 z &&& 0xFFFFFFFF = BitVec.ofInt 32 z := BitVec.and_allOnes
  refine perform_masked hq ?_ hc
  rw [hall]
  exact h

section Registers

variable (s : State) (rd rs : Reg) (v : Half)

theorem half_signExtend_toInt : (v.signExtend 32).toInt = v.toInt := BitVec.toInt_signExtend_of_le (by decide)

theorem opAdrm_eq : opAdrm rd rs s = putWordOv rd (BitVec.ofInt 32 ((s.reg rd).toInt + (s.reg rs).toInt) &&& s.reg 4,
    overflows 32 ((s.reg rd).toInt + (s.reg rs).toInt)) s := by
  rw [opAdrm, addOv_eq]
  rfl

theorem opSurm_eq : opSurm rd rs s = putWordOv rd (BitVec.ofInt 32 ((s.reg rd).toInt - (s.reg rs).toInt) &&& s.reg 4,
    overflows 32 ((s.reg rd).toInt - (s.reg rs).toInt)) s := by
  rw [opSurm, subOv_eq]
  rfl

theorem opTrnm_eq : opTrnm rd rs s =
    putWordOv rd (BitVec.ofInt 32 (-(s.reg rs).toInt) &&& s.reg 4, overflows 32 (-(s.reg rs).toInt)) s := by
  have hneg := negOv_eq (s.reg rs) (by decide)
  have hfst : -s.reg rs = BitVec.ofInt 32 (-(s.reg rs).toInt) := congrArg Prod.fst hneg
  rw [opTrnm, putNegMasked, hneg, hfst]
  rfl

/-- RND adds one where the next register is negative, and adds nothing else (R512). -/
theorem opRnd_eq : opRnd rd s =
    putWordOv rd (BitVec.ofInt 32 ((s.reg rd).toInt + if (s.reg (rd + 1)).toInt < 0 then 1 else 0),
      overflows 32 ((s.reg rd).toInt + if (s.reg (rd + 1)).toInt < 0 then 1 else 0)) s := by
  rw [opRnd, bitAt_zero_eq_sign]
  by_cases hsign : (s.reg (rd + 1)).toInt < 0
  · rw [if_pos hsign, if_pos (decide_eq_true hsign), addOv_eq]
    rfl
  · have hov := overflows_toInt (s.reg rd)
    rw [if_neg hsign, if_neg (by simpa using hsign), Int.add_zero, BitVec.ofInt_toInt, hov,
      putWordOv_ok fun h => absurd h Bool.false_ne_true]
    rfl

end Registers

end Sys2Proof.Machine

namespace Sys2Proof.Proofs

open Sys2Proof.Machine

/-- Settles O13: plain and masked loads by `perform_load` and `perform_loadMasked`, the register forms by
`perform_putWord`. -/
theorem loads : Obligations.Loads := by
  refine ⟨fun s r m o u hq ho i hi => ?plain, fun s r m o u hq ho i hi => ?masked, fun s r v hq p hp => ?register⟩
  case plain =>
    rw [exec_load s hi]
    obtain ⟨t, ht, hregs, hend, hval⟩ := perform_load (r := r) hq ho
    exact ⟨t, ht, hregs, hend, by cases o <;> exact hval⟩
  case masked =>
    rw [exec_loadMasked s hi]
    obtain ⟨t, ht, hregs, hend, hval⟩ := perform_loadMasked (r := r) hq ho
    exact ⟨t, ht, hregs, hend, by cases o <;> exact hval⟩
  case register =>
    simp only [List.mem_cons, List.not_mem_nil, or_false] at hp
    rcases hp with rfl | rfl | rfl | rfl
    · exact perform_putWord (op := opLi r v) hq rfl
    · exact perform_putWord (op := opZr r) hq rfl
    · exact perform_putWord (op := opLcs r) hq rfl
    · refine perform_putWord (op := opEs r) hq ?_
      have hsign : bitAt (s.reg (r + 1)) 0 = decide (2 ^ 31 ≤ (s.reg (r + 1)).toNat) := by
        have hlt := (s.reg (r + 1)).isLt
        rw [bitAt_eq_decide, decide_eq_decide]
        omega
      rw [opEs, State.reg_start, hsign]
      simp only [decide_eq_true_eq]
      rfl

/-- Settles O14: zero less the operand of each width; the operands that extend to a word have no overflow but the most
negative word. -/
theorem loadsNegative : Obligations.LoadsNegative := by
  intro s r m o u hq ho c1 hc i hi
  rw [exec_loadNegative s hi]
  have hword {v : Word} : overflows 32 (-v.toInt) = decide (v = 0x80000000) :=
    (congrArg Prod.snd (negOv_eq v (by decide))).symm
  have hdword {v : Dword} : overflows 64 (-v.toInt) = decide (v = 0x8000000000000000) :=
    (congrArg Prod.snd (negOv_eq v (by decide))).symm
  cases o with
  | byte v =>
    have hfits : overflows 32 (-(v.toNat : Int)) = false := by
      have hv := v.isLt
      rw [overflows_eq, decide_eq_false_iff_not]
      omega
    obtain ⟨t, ht, hregs, hend, hval⟩ := perform_loadNegative_word (r := r) hq ho
      (by rw [loadNegative, ho, Res.bind_ok]) (by rw [ext_byte_toInt, hfits]; exact hc)
    rw [ext_byte_toInt, hfits] at hval
    exact ⟨t, ht, hregs, hend, hval⟩
  | half v =>
    have hfits : overflows 32 (-v.toInt) = false := by
      have hlow := BitVec.le_toInt v
      have hhigh := BitVec.toInt_lt (x := v)
      rw [overflows_eq, decide_eq_false_iff_not]
      omega
    obtain ⟨t, ht, hregs, hend, hval⟩ := perform_loadNegative_word (r := r) hq ho
      (by rw [loadNegative, ho, Res.bind_ok]) (by rw [ext_half_toInt, hfits]; exact hc)
    rw [ext_half_toInt, hfits] at hval
    exact ⟨t, ht, hregs, hend, hval⟩
  | word v =>
    obtain ⟨t, ht, hregs, hend, hval⟩ := perform_loadNegative_word (r := r) hq ho
      (by rw [loadNegative, ho, Res.bind_ok]) (by rw [Operand.ext, hword]; exact hc)
    rw [Operand.ext, hword] at hval
    exact ⟨t, ht, hregs, hend, hval⟩
  | dword v =>
    obtain ⟨t, ht, hregs, hend, hval⟩ := perform_loadNegative_dword (r := r) hq ho (by rw [hdword]; exact hc)
    rw [hdword] at hval
    exact ⟨t, ht, hregs, hend, hval⟩

/-- Settles O19: each operation is an integer wrapped, `perform_masked`. -/
theorem fixedPointRegister : Obligations.FixedPointRegister := by
  intro s rd rs v b y hq d r all round p hp c1 hc
  simp only [List.mem_cons, List.not_mem_nil, or_false] at hp
  rcases hp with rfl | rfl | rfl | rfl | rfl | rfl | rfl | rfl | rfl | rfl
  · exact perform_unmasked (op := opAdr rd rs) hq (by rw [opAdr, addOv_eq]; rfl) hc
  · exact perform_masked (op := opAdrm rd rs) hq (opAdrm_eq (s.start .half) rd rs) hc
  · exact perform_unmasked (op := opAdi rd v) hq (by rw [opAdi, addOv_eq, half_signExtend_toInt]; rfl) hc
  · exact perform_unmasked (op := opSur rd rs) hq (by rw [opSur, subOv_eq]; rfl) hc
  · exact perform_masked (op := opSurm rd rs) hq (opSurm_eq (s.start .half) rd rs) hc
  · exact perform_unmasked (op := opSui rd v) hq (by rw [opSui, subOv_eq, half_signExtend_toInt]; rfl) hc
  · exact perform_unmasked (op := opTrn rd rs) hq (by rw [opTrn, negOv_eq _ (by decide)]; rfl) hc
  · exact perform_masked (op := opTrnm rd rs) hq (opTrnm_eq (s.start .half) rd rs) hc
  · have hadd (x : Word) : addBit x (regBit b y) = (BitVec.ofInt 32 (x.toInt + 2 ^ (31 - regBit b y)), _) :=
      Prod.ext (addBit_fst x (regBit b y)) rfl
    exact perform_unmasked (op := opAbr b rd y) hq (by rw [opAbr, hadd]; rfl) hc
  · exact perform_unmasked (op := opRnd rd) hq (opRnd_eq (s.start .half) rd) hc

/-- Settles O20: ADMx and SUMx by `perform_sumMemory_word` and `perform_sumMemory_dword`. -/
theorem fixedPointMemory : Obligations.FixedPointMemory := by
  intro s r m o u sub hq ho sign x c1 hc i hi
  rw [exec_sumMemory s hi]
  have hword (z : Int) : overflows 32 z = decide (z < -2 ^ 31 ∨ 2 ^ 31 ≤ z) := overflows_eq 32 z
  have hdword (z : Int) : overflows 64 z = decide (z < -2 ^ 63 ∨ 2 ^ 63 ≤ z) := overflows_eq 64 z
  cases o with
  | byte v =>
    obtain ⟨t, ht, hregs, hend, hval⟩ := perform_sumMemory_word (r := r) (sub := sub) hq ho (sumMemory_ok ho)
      (by rw [ext_byte_toInt, hword]; exact hc)
    rw [ext_byte_toInt, hword] at hval
    exact ⟨t, ht, hregs, hend, hval⟩
  | half v =>
    obtain ⟨t, ht, hregs, hend, hval⟩ := perform_sumMemory_word (r := r) (sub := sub) hq ho (sumMemory_ok ho)
      (by rw [ext_half_toInt, hword]; exact hc)
    rw [ext_half_toInt, hword] at hval
    exact ⟨t, ht, hregs, hend, hval⟩
  | word v =>
    obtain ⟨t, ht, hregs, hend, hval⟩ := perform_sumMemory_word (r := r) (sub := sub) hq ho (sumMemory_ok ho)
      (by rw [Operand.ext, hword]; exact hc)
    rw [Operand.ext, hword] at hval
    exact ⟨t, ht, hregs, hend, hval⟩
  | dword v =>
    obtain ⟨t, ht, hregs, hend, hval⟩ := perform_sumMemory_dword (r := r) (sub := sub) hq ho (by rw [hdword]; exact hc)
    rw [hdword] at hval
    exact ⟨t, ht, hregs, hend, hval⟩

end Sys2Proof.Proofs
end

section
/-!
The comparisons (R371 to R383): the operand is read, and the condition codes alone change.
-/

namespace Sys2Proof.Machine

/-- The comparison of two values of one width is that of the signed numbers (R371). -/
theorem compareCC_ccCmp {n : Nat} (a b : BitVec n) : compareCC a.toInt b.toInt (ccCmp a b) where
  cc1 := rfl
  cc2 := decide_eq_true_iff
  cc3 := decide_eq_true_iff
  cc4 := decide_eq_true_iff.trans BitVec.toInt_inj.symm

theorem exec_compare {i : Instr} {r : Reg} {m : MemRef} (s : State)
    (hi : i ∈ [Instr.camb r m, .camh r m, .camw r m, .camd r m]) : exec i s = perform .word (compare r m) s := by
  simp only [List.mem_cons, List.not_mem_nil, or_false] at hi
  rcases hi with rfl | rfl | rfl | rfl <;> rfl

theorem exec_compareMasked {i : Instr} {r : Reg} {m : MemRef} (s : State)
    (hi : i ∈ [Instr.cmmb r m, .cmmh r m, .cmmw r m, .cmmd r m]) : exec i s = perform .word (compareMasked r m) s := by
  simp only [List.mem_cons, List.not_mem_nil, or_false] at hi
  rcases hi with rfl | rfl | rfl | rfl <;> rfl

section Operands

variable {s t u : State} (r : Reg) {m : MemRef} (o : Operand)

theorem compareOp_onlyHalt (h : onlyHalt s t) : compareOp r o t = compareOp r o s := by
  cases o <;> simp only [compareOp, onlyHalt_reg h, onlyHalt_pair h]

theorem maskedOp_onlyHalt (h : onlyHalt s t) : maskedOp r o t = maskedOp r o s := by
  cases o <;> simp only [maskedOp, onlyHalt_reg h, onlyHalt_pair h, onlyHalt_mask h]

/-- An instruction that leaves the condition codes `c` and nothing else. -/
theorem perform_setCC_cc {len : Len} {op : State → Res Unit} {c : CC} (hq : s.quiet) (hu : onlyHalt (s.start len) u)
    (h : op (s.start len) = .ok () (u.setCC c)) :
    ∃ t, perform len op s = .next t ∧ t = { s.endedAs t with cc := t.cc } ∧ Ended len s t ∧ t.cc = c := by
  obtain ⟨t, ht, hend, hframe⟩ := perform_setCC hq hu h
  have hcc : t.cc = c := by rw [hframe]
  exact ⟨t, ht, hcc ▸ hframe, hend, hcc⟩

variable {r o}

theorem perform_compare (hq : s.quiet) (h : operand m (s.start .word) = .ok o u) :
    ∃ t, perform .word (compare r m) s = .next t ∧ t = { s.endedAs t with cc := t.cc } ∧ Ended .word s t ∧
      t.cc = compareOp r o s := by
  have hu := operand_onlyHalt (s := s.start .word) hq.alone h
  have hop : compareOp r o u = compareOp r o s := compareOp_onlyHalt (s := s.start .word) r o hu
  exact perform_setCC_cc hq hu (by rw [compare, h, Res.bind_ok, hop])

theorem perform_compareMasked (hq : s.quiet) (h : operand m (s.start .word) = .ok o u) :
    ∃ t, perform .word (compareMasked r m) s = .next t ∧ Ended .word s t ∧
      t = { s.endedAs t with cc := maskedOp r o s } := by
  have hu := operand_onlyHalt (s := s.start .word) hq.alone h
  have hop : maskedOp r o u = maskedOp r o s := maskedOp_onlyHalt (s := s.start .word) r o hu
  exact perform_setCC hq hu (by rw [compareMasked, h, Res.bind_ok, hop])

end Operands

theorem append_eq_zero_iff (a b : Word) : a ++ b = (0 : Dword) ↔ a = 0 ∧ b = 0 := by
  have hn := append_toNat a b
  simp only [← BitVec.toNat_inj, hn, BitVec.ofNat_eq_ofNat, BitVec.toNat_ofNat]
  omega

/-- A masked doubleword is zero exactly when its two masked words are (R382). -/
theorem maskedPair_eq_zero_iff (s : State) (r : Reg) (v : Dword) (k : Word) :
    (s.pair r ^^^ v) &&& (k ++ k) = 0 ↔
      (s.reg r ^^^ bits v 0 32) &&& k = 0 ∧ (s.reg (r + 1) ^^^ bits v 32 32) &&& k = 0 := by
  have hv : v = bits v 0 32 ++ bits v 32 32 := (bits_append_bits (n := 32) (k := 32) v).symm
  have hsplit : (s.pair r ^^^ v) &&& (k ++ k) =
      ((s.reg r ^^^ bits v 0 32) &&& k) ++ ((s.reg (r + 1) ^^^ bits v 32 32) &&& k) := by
    conv_lhs => rw [hv]
    rw [State.pair, BitVec.xor_append, BitVec.and_append]
  rw [hsplit]
  exact append_eq_zero_iff _ _

end Sys2Proof.Machine

namespace Sys2Proof.Proofs

open Sys2Proof.Machine

/-- Settles O22: the arithmetic comparisons by `perform_compare` and `compareCC_ccCmp`, the masked ones by
`perform_compareMasked`. -/
theorem compares : Obligations.Compares := by
  refine ⟨⟨fun s r m o u hq ho i hi => ?memory, fun s rd rs v hq p hp => ?register⟩,
    fun s r m o u hq ho => ?masked, fun s rd rs hq => ?maskedRegister⟩
  case memory =>
    rw [exec_compare s hi]
    obtain ⟨t, ht, hframe, hend, hcc⟩ := perform_compare (r := r) hq ho
    refine ⟨t, ht, hframe, hend, ?_⟩
    rw [hcc]
    cases o with
    | byte v =>
      have hcmp := compareCC_ccCmp (s.reg r) (Operand.byte v).ext
      rw [ext_byte_toInt] at hcmp
      exact hcmp
    | half v =>
      have hcmp := compareCC_ccCmp (s.reg r) (Operand.half v).ext
      rw [ext_half_toInt] at hcmp
      exact hcmp
    | word v => exact compareCC_ccCmp (s.reg r) v
    | dword v => exact compareCC_ccCmp (s.pair r) v
  case register =>
    simp only [List.mem_cons, List.not_mem_nil, or_false] at hp
    rcases hp with rfl | rfl
    · obtain ⟨t, ht, hframe, hend, hcc⟩ := perform_setCC_cc (len := .half) (op := opCar rd rs) (u := s.start .half) hq rfl rfl
      exact ⟨t, ht, hframe, hend, hcc ▸ compareCC_ccCmp (s.reg rd) (s.reg rs)⟩
    · obtain ⟨t, ht, hframe, hend, hcc⟩ := perform_setCC_cc (len := .word) (op := opCi rd v) (u := s.start .word) hq rfl rfl
      have hcmp := compareCC_ccCmp (s.reg rd) (v.signExtend 32)
      rw [half_signExtend_toInt] at hcmp
      exact ⟨t, ht, hframe, hend, hcc ▸ hcmp⟩
  case masked =>
    intro k z i hi
    rw [exec_compareMasked s hi]
    obtain ⟨t, ht, hend, hframe⟩ := perform_compareMasked (r := r) hq ho
    have hz : maskedOp r o s = ⟨false, false, false, z⟩ := by
      cases o with
      | byte v | half v | word v => rfl
      | dword v => exact congrArg (CC.mk false false false) (decide_eq_decide.mpr (maskedPair_eq_zero_iff s r v k))
    exact ⟨t, ht, hz ▸ hframe, hend⟩
  case maskedRegister =>
    exact perform_setCC (op := opCmr rd rs) (u := s.start .half) hq rfl rfl

end Sys2Proof.Proofs
end

section
/-!
Multiplication and division of signed numbers (R530 to R541), and the floating-point instructions (R560, R568 to R578)
as far as the operand, the operation and the place of the result go.
-/

namespace Sys2Proof.Machine

/-! ### Operands -/

theorem operandNoDword_onlyHalt {m : MemRef} {s t : State} {v : Word} (hb : s.between = [])
    (h : operandNoDword m s = .ok v t) : onlyHalt s t := by
  obtain ⟨x, u, hres, h⟩ := Res.bind_eq_ok h
  have hu := resolve_onlyHalt hb hres
  have hbu := (onlyHalt_between hu).trans hb
  refine onlyHalt_trans hu ?_
  cases hw : x.ea.width with
  | byte | half =>
    rw [hw] at h
    obtain ⟨y, w, hread, h⟩ := Res.bind_eq_ok h
    cases h
    exact memRead_onlyHalt hbu hread
  | word | dword =>
    rw [hw] at h
    exact memRead_onlyHalt hbu h

theorem floatOperand_onlyHalt {m : MemRef} {s t : State} {o : Operand} (hb : s.between = [])
    (h : floatOperand m s = .ok o t) : onlyHalt s t := by
  obtain ⟨x, u, hres, h⟩ := Res.bind_eq_ok h
  have hu := resolve_onlyHalt hb hres
  exact onlyHalt_trans hu (readAt_onlyHalt ((onlyHalt_between hu).trans hb) h)

/-- What is read has the width it was read with. -/
theorem readAt_width {w : Width} {a : Addr} {s t : State} {o : Operand} (h : readAt w a s = .ok o t) : o.width = w := by
  cases w <;> simp only [readAt] at h <;> obtain ⟨v, u, -, h⟩ := Res.bind_eq_ok h <;> cases h <;> rfl

/-- A floating-point operand is a word or a doubleword (R560, D46). -/
theorem floatOperand_width {m : MemRef} {s t : State} {o : Operand} (h : floatOperand m s = .ok o t) :
    o.width = .word ∨ o.width = .dword := by
  obtain ⟨x, u, -, h⟩ := Res.bind_eq_ok h
  have hw := readAt_width h
  split at hw
  · exact .inr hw
  · exact .inl hw

/-! ### Products (R530) -/

/-- The product of two words is a doubleword. -/
theorem mulFull_toInt (a b : Word) : (BitVec.ofInt 64 (a.toInt * b.toInt)).toInt = a.toInt * b.toInt := by
  have hprod : |a.toInt * b.toInt| ≤ 2 ^ 31 * 2 ^ 31 := by
    rw [abs_mul]
    have ha : |a.toInt| ≤ 2 ^ 31 := abs_le.mpr ⟨BitVec.le_toInt a, (BitVec.toInt_lt (x := a)).le⟩
    have hb : |b.toInt| ≤ 2 ^ 31 := abs_le.mpr ⟨BitVec.le_toInt b, (BitVec.toInt_lt (x := b)).le⟩
    exact mul_le_mul ha hb (abs_nonneg _) (by norm_num)
  obtain ⟨hlow, hhigh⟩ := abs_le.mp hprod
  exact BitVec.toInt_ofInt_eq_self (by decide) (by omega) (by omega)

theorem perform_mulMemory {s u : State} {r : Reg} {m : MemRef} {v : Word} (hq : s.quiet)
    (h : operandNoDword m (s.start .word) = .ok v u) :
    ∃ t, perform .word (mulMemory r m) s = .next t ∧ onlyRegs s t ∧ Ended .word s t ∧
      wrotePair r (BitVec.ofInt 64 (v.toInt * (s.reg (r + 1)).toInt)) false s t := by
  have hu := operandNoDword_onlyHalt (s := s.start .word) hq.alone h
  have hreg : u.reg (r + 1) = s.reg (r + 1) := onlyHalt_reg hu _
  exact perform_read_putDword hq hu (by rw [mulMemory, h, Res.bind_ok, multiply, hreg, mulFull])

theorem perform_multiply {len : Len} {op : State → Res Unit} {s : State} {r : Reg} {v : Word} {x : Int} (hq : s.quiet)
    (hx : v.toInt = x) (h : op (s.start len) = .ok () (multiply r v (s.start len))) :
    ∃ t, perform len op s = .next t ∧ onlyRegs s t ∧ Ended len s t ∧
      wrotePair r (BitVec.ofInt 64 (x * (s.reg (r + 1)).toInt)) false s t := by
  subst hx
  exact perform_read_putDword (u := s.start len) hq rfl h

/-! ### Quotients (R536) -/

/-- The quotient and the remainder of the dividend's sign are those of truncation toward zero. -/
theorem tdiv_tmod_eq {d v q e : Int} (hv : v ≠ 0) (hd : d = v * q + e) (he : e.natAbs < v.natAbs)
    (hpos : 0 < d → 0 ≤ e) (hneg : d < 0 → e ≤ 0) : d.tdiv v = q ∧ d.tmod v = e := by
  have hzero : d = 0 → e = 0 := by
    intro h0
    have hdvd : v ∣ e := ⟨-q, by linarith⟩
    exact Int.eq_zero_of_dvd_of_natAbs_lt_natAbs hdvd he
  rcases le_or_gt 0 d with h | h
  · exact (Int.tdiv_tmod_unique h hv).mpr ⟨by omega, by omega, by omega⟩
  · exact (Int.tdiv_tmod_unique' h.le hv).mpr ⟨by omega, by omega, by omega⟩

theorem divFull_eq_some {d : Dword} {v : Word} (hv : v.toInt ≠ 0) {q e : Int} (hd : d.toInt = v.toInt * q + e)
    (he : e.natAbs < v.toInt.natAbs) (hpos : 0 < d.toInt → 0 ≤ e) (hneg : d.toInt < 0 → e ≤ 0) (hlow : -2 ^ 31 ≤ q)
    (hhigh : q < 2 ^ 31) : divFull d v = some (BitVec.ofInt 32 e, BitVec.ofInt 32 q) := by
  obtain ⟨hquo, hrem⟩ := tdiv_tmod_eq hv hd he hpos hneg
  have hv0 : v ≠ 0 := fun h => hv (by rw [h]; rfl)
  have hfits : overflows 32 q = false := by
    rw [overflows_eq, decide_eq_false_iff_not]
    omega
  rw [divFull, if_neg hv0, hquo, hrem, hfits]
  rfl

/-- No quotient for a zero divisor, and none where the magnitude does not fit (D41). -/
theorem divFull_eq_none {d : Dword} {v : Word}
    (h : v.toInt = 0 ∨ d.toInt.natAbs / v.toInt.natAbs ≥ 2 ^ 31 ∧ d.toInt.tdiv v.toInt ≠ -2 ^ 31) :
    divFull d v = none := by
  by_cases hv : v = 0
  · rw [divFull, if_pos hv]
  · have hv0 : v.toInt ≠ 0 := fun h0 => hv (BitVec.toInt_inj.mp (h0.trans rfl))
    obtain ⟨hbig, hmin⟩ := h.resolve_left hv0
    have habs : (d.toInt.tdiv v.toInt).natAbs = d.toInt.natAbs / v.toInt.natAbs := Int.natAbs_tdiv _ _
    have hov : overflows 32 (d.toInt.tdiv v.toInt) = true := by
      rw [overflows_eq, decide_eq_true_iff]
      omega
    rw [divFull, if_neg hv, if_pos hov]

/-- The two words of a doubleword put together from them. -/
theorem bits_append_word (a b : Word) : bits (a ++ b : Dword) 0 32 = a ∧ bits (a ++ b : Dword) 32 32 = b := by
  have hn := append_toNat a b
  exact ⟨bits_of_toNat (by omega), bits_of_toNat (by omega)⟩

section Division

variable {len : Len} {op : State → Res Unit} {s u : State} {r : Reg} {v : Word}

theorem perform_divide {rem quo : Word} (hq : s.quiet) (hu : onlyHalt (s.start len) u)
    (h : op (s.start len) = divide r v u) (hdiv : divFull (s.pair r) v = some (rem, quo)) :
    ∃ t, perform len op s = .next t ∧ onlyRegs s t ∧ Ended len s t ∧ regsButPair r s t ∧ t.reg r = rem ∧
      t.reg (r + 1) = quo ∧ signCC false quo t.cc := by
  have hpair : u.pair r = s.pair r := onlyHalt_pair hu r
  rw [divide, hpair, hdiv] at h
  have hframe : effectRegs (s.start len) ((u.setPair r (rem ++ quo)).setCC (ccArith false quo)) :=
    effectRegs_trans (effectRegs_of_onlyHalt hu) rfl
  obtain ⟨ht, hregs, hend⟩ := perform_regs_ended hq h hframe (onlyHalt_pc hu) (onlyHalt_lastBix hu)
  obtain ⟨hrem, hquo⟩ := bits_append_word rem quo
  refine ⟨_, ht, hregs, hend, fun q hne hne' => ?_, ?_, ?_, signCC_ccArith false quo⟩
  · rw [finish_reg, State.reg_setCC, State.reg_setPair, if_neg hne, if_neg hne', onlyHalt_reg hu, State.reg_start]
  · rw [finish_reg, State.reg_setCC, State.reg_setPair, if_pos rfl, hrem]
  · rw [finish_reg, State.reg_setCC, State.reg_setPair, if_neg (State.add_one_ne r).symm, if_pos rfl, hquo]

/-- A division without a result changes no register (D41). -/
theorem perform_divide_none (hq : s.quiet) (hu : onlyHalt (s.start len) u) (h : op (s.start len) = divide r v u)
    (hdiv : divFull (s.pair r) v = none) (hoff : s.arithEnabled = false) :
    ∃ t, perform len op s = .next t ∧ onlyRegs s t ∧ Ended len s t ∧ t.regs = s.regs ∧
      signCC true (s.reg (r + 1)) t.cc := by
  have hpair : u.pair r = s.pair r := onlyHalt_pair hu r
  have hreg : u.reg (r + 1) = s.reg (r + 1) := onlyHalt_reg hu _
  rw [divide, hpair, hdiv, hreg] at h
  have hok := arithCheck_ok (s := u.setCC (ccArith true (s.reg (r + 1)))) fun _ =>
    (onlyHalt_arithEnabled hu).trans hoff
  obtain ⟨ht, hregs, hend⟩ := perform_regs_ended hq (h.trans hok) (effectRegs_trans (effectRegs_of_onlyHalt hu) rfl)
    (onlyHalt_pc hu) (onlyHalt_lastBix hu)
  unfold onlyHalt at hu
  exact ⟨_, ht, hregs, hend, by rw [hu]; rfl, signCC_ccArith true _⟩

end Division

/-- The five divisions have one effect, apart from where the divisor comes from (R537 to R541). -/
theorem exec_divide {s : State} {r rs : Reg} {m : MemRef} {h : Half} {w : Word} {p : Instr × Len × Word}
    (hb : s.between = [])
    (hp : p ∈ [(Instr.dvmb r m, Len.word, w), (.dvmh r m, .word, w), (.dvmw r m, .word, w),
      (.dvr r rs, .half, s.reg rs), (.dvi r h, .word, h.signExtend 32)])
    (hw : p.1 ∈ [Instr.dvmb r m, .dvmh r m, .dvmw r m] → ∃ u, operandNoDword m (s.start .word) = .ok w u) :
    ∃ op u, exec p.1 s = perform p.2.1 op s ∧ onlyHalt (s.start p.2.1) u ∧ op (s.start p.2.1) = divide r p.2.2 u := by
  have hmemory (hm : p.1 ∈ [Instr.dvmb r m, .dvmh r m, .dvmw r m]) :
      ∃ u, onlyHalt (s.start .word) u ∧ divMemory r m (s.start .word) = divide r w u := by
    obtain ⟨u, hu⟩ := hw hm
    exact ⟨u, operandNoDword_onlyHalt (s := s.start .word) hb hu, by rw [divMemory, hu, Res.bind_ok]⟩
  simp only [List.mem_cons, List.not_mem_nil, or_false] at hp
  rcases hp with rfl | rfl | rfl | rfl | rfl
  case inr.inr.inr.inl => exact ⟨opDvr r rs, s.start .half, rfl, rfl, rfl⟩
  case inr.inr.inr.inr => exact ⟨opDvi r h, s.start .word, rfl, rfl, rfl⟩
  all_goals
    obtain ⟨u, hu, hop⟩ := hmemory (by simp)
    exact ⟨divMemory r m, u, rfl, hu, hop⟩

/-! ### Floating-point instructions (R560, R568) -/

section Float

variable {len : Len} {op : State → Res Unit} {s u : State} {r : Reg}

/-- An instruction that sets the condition codes `c` and nothing else, their CC1 raising no exception. -/
theorem perform_arithCheck_setCC {c : CC} (hq : s.quiet) (hu : onlyHalt (s.start len) u)
    (h : op (s.start len) = arithCheck (u.setCC c)) (hc : c.cc1 = true → s.arithEnabled = false) :
    ∃ t, perform len op s = .next t ∧ onlyRegs s t ∧ Ended len s t ∧ t.cc = c ∧ ∀ q, t.reg q = s.reg q := by
  have hok := arithCheck_ok (s := u.setCC c) fun h1 => (onlyHalt_arithEnabled hu).trans (hc h1)
  obtain ⟨ht, hregs, hend⟩ := perform_regs_ended hq (h.trans hok) (effectRegs_trans (effectRegs_of_onlyHalt hu) rfl)
    (onlyHalt_pc hu) (onlyHalt_lastBix hu)
  exact ⟨_, ht, hregs, hend, rfl, fun q => onlyHalt_reg hu q⟩

theorem perform_putFloat {x : FResult 32} (hq : s.quiet) (hu : onlyHalt (s.start len) u)
    (h : op (s.start len) = putFloat r x u) (hc : x.2.cc1 = true → s.arithEnabled = false) :
    ∃ t, perform len op s = .next t ∧ onlyRegs s t ∧ Ended len s t ∧ t.cc = x.2 ∧ regsBut r s t ∧
      t.reg r = x.1.getD (s.reg r) := by
  obtain ⟨x, c⟩ := x
  cases x with
  | none =>
    obtain ⟨t, ht, hregs, hend, hcc, hkept⟩ := perform_arithCheck_setCC hq hu h hc
    exact ⟨t, ht, hregs, hend, hcc, fun q _ => hkept q, hkept r⟩
  | some v =>
    have hok := arithCheck_ok (s := (u.setReg r v).setCC c) fun h1 => (onlyHalt_arithEnabled hu).trans (hc h1)
    obtain ⟨t, ht, hregs, hend, hothers, hval, hcc⟩ := perform_setReg_setCC hq hu (h.trans hok)
    exact ⟨t, ht, hregs, hend, hcc, hothers, hval⟩

theorem perform_putFloatPair {x : FResult 64} (hq : s.quiet) (hu : onlyHalt (s.start len) u)
    (h : op (s.start len) = putFloatPair r x u) (hc : x.2.cc1 = true → s.arithEnabled = false) :
    ∃ t, perform len op s = .next t ∧ onlyRegs s t ∧ Ended len s t ∧ t.cc = x.2 ∧ regsButPair r s t ∧
      t.pair r = x.1.getD (s.pair r) := by
  obtain ⟨x, c⟩ := x
  cases x with
  | none =>
    obtain ⟨t, ht, hregs, hend, hcc, hkept⟩ := perform_arithCheck_setCC hq hu h hc
    exact ⟨t, ht, hregs, hend, hcc, fun q _ _ => hkept q, by rw [State.pair, hkept, hkept]; rfl⟩
  | some v =>
    have hok := arithCheck_ok (s := (u.setPair r v).setCC c) fun h1 => (onlyHalt_arithEnabled hu).trans (hc h1)
    obtain ⟨ht, hregs, hend⟩ := perform_regs_ended hq (h.trans hok) (effectRegs_trans (effectRegs_of_onlyHalt hu) rfl)
      (onlyHalt_pc hu) (onlyHalt_lastBix hu)
    refine ⟨_, ht, hregs, hend, rfl, fun q hne hne' => ?_, State.pair_setPair u r v⟩
    rw [finish_reg, State.reg_setCC, State.reg_setPair, if_neg hne, if_neg hne', onlyHalt_reg hu, State.reg_start]

end Float

/-- The operation of a floating-point instruction: 0 adds, 1 subtracts, 2 multiplies, 3 divides (R570 to R578). -/
def floatFn (k : Nat) {n : Nat} (a b : FNum) : FResult n :=
  if k = 0 then fAdd a b else if k = 1 then fAdd a { b with neg := !b.neg } else if k = 2 then fMul a b else fDiv a b

theorem floatFn_add : @floatFn 0 = @fAdd := by
  funext n a b
  exact if_pos rfl

theorem floatFn_sub : @floatFn 1 = @fSub := by
  funext n a b
  rw [floatFn, if_neg (by decide), if_pos rfl]
  rfl

theorem floatFn_mul : @floatFn 2 = @fMul := by
  funext n a b
  rw [floatFn, if_neg (by decide), if_neg (by decide), if_pos rfl]

theorem floatFn_div : @floatFn 3 = @fDiv := by
  funext n a b
  rw [floatFn, if_neg (by decide), if_neg (by decide), if_neg (by decide)]

theorem exec_floatOp {s : State} {r : Reg} {m : MemRef} {p : Instr × Nat}
    (hp : p ∈ [(Instr.adfw r m, 0), (.adfd r m, 0), (.sufw r m, 1), (.sufd r m, 1), (.mpfw r m, 2), (.mpfd r m, 2),
      (.dvfw r m, 3), (.dvfd r m, 3)]) : exec p.1 s = perform .word (floatOp r m (floatFn p.2)) s := by
  simp only [List.mem_cons, List.not_mem_nil, or_false] at hp
  rcases hp with rfl | rfl | rfl | rfl | rfl | rfl | rfl | rfl
  · exact congrArg (fun f => perform .word (floatOp r m f) s) floatFn_add.symm
  · exact congrArg (fun f => perform .word (floatOp r m f) s) floatFn_add.symm
  · exact congrArg (fun f => perform .word (floatOp r m f) s) floatFn_sub.symm
  · exact congrArg (fun f => perform .word (floatOp r m f) s) floatFn_sub.symm
  · exact congrArg (fun f => perform .word (floatOp r m f) s) floatFn_mul.symm
  · exact congrArg (fun f => perform .word (floatOp r m f) s) floatFn_mul.symm
  · exact congrArg (fun f => perform .word (floatOp r m f) s) floatFn_div.symm
  · exact congrArg (fun f => perform .word (floatOp r m f) s) floatFn_div.symm

end Sys2Proof.Machine

namespace Sys2Proof.Proofs

open Sys2Proof.Machine

/-- Settles O29: products by `perform_mulMemory` and `perform_multiply`; divisions by `exec_divide`, with a quotient by
`divFull_eq_some` and without by `divFull_eq_none`. -/
theorem multipliesAndDivides : Obligations.MultipliesAndDivides := by
  refine ⟨⟨fun s r m v u hq ho i hi => ?memory, fun s rd rs v hq p hp => ?register, mulFull_toInt⟩,
    fun s r rs m h w hq p hp hw => ?division⟩
  case memory =>
    have hexec : exec i s = perform .word (mulMemory r m) s := by
      simp only [List.mem_cons, List.not_mem_nil, or_false] at hi
      rcases hi with rfl | rfl | rfl <;> rfl
    rw [hexec]
    exact perform_mulMemory hq ho
  case register =>
    simp only [List.mem_cons, List.not_mem_nil, or_false] at hp
    rcases hp with rfl | rfl
    · exact perform_multiply (op := opMpr rd rs) hq rfl rfl
    · exact perform_multiply (op := opMpi rd v) hq (half_signExtend_toInt v) rfl
  case division =>
    obtain ⟨op, u, hexec, hu, hop⟩ := exec_divide hq.alone hp hw
    rw [hexec]
    exact ⟨fun hv q e hd he hpos hneg hlow hhigh =>
      perform_divide hq hu hop (divFull_eq_some hv hd he hpos hneg hlow hhigh),
      fun hnone hoff => perform_divide_none hq hu hop (divFull_eq_none hnone) hoff⟩

/-- Settles O30: the operand is read and the result put by `perform_putFloat` or `perform_putFloatPair`. -/
theorem floatInstructions : Obligations.FloatInstructions := by
  intro s r m o u hq ho p hp f
  have hu := floatOperand_onlyHalt (s := s.start .word) hq.alone ho
  have hreg : u.reg r = s.reg r := onlyHalt_reg hu r
  have hpair : u.pair r = s.pair r := onlyHalt_pair hu r
  have hwidth := floatOperand_width ho
  have hexec : exec p.1 s = perform .word (floatOp r m (floatFn p.2)) s := exec_floatOp hp
  cases o with
  | byte v | half v => exact absurd hwidth (by simp [Operand.width])
  | word v =>
    intro hc
    have hop : floatOp r m (floatFn p.2) (s.start .word) = putFloat r (floatFn p.2 (fDecode (s.reg r)) (fDecode v)) u := by
      rw [floatOp, ho, Res.bind_ok, hreg]
      rfl
    rw [hexec]
    exact perform_putFloat hq hu hop hc
  | dword v =>
    intro hc
    have hop : floatOp r m (floatFn p.2) (s.start .word) = putFloatPair r (floatFn p.2 (fDecode (s.pair r)) (fDecode v)) u := by
      rw [floatOp, ho, Res.bind_ok, hpair]
    rw [hexec]
    exact perform_putFloatPair hq hu hop hc

end Sys2Proof.Proofs
end

section
/-!
The control instructions that change one piece of state (R612 to R620, R656, R657), SETCPU and RDSTS, and the commands
of the interrupt levels (R641 to R646).
-/

namespace Sys2Proof.Machine

/-! ### The end of an instruction that may change the blocking (R756) -/

section Ending

variable {len : Len} {op : State → Res Unit} {s u : State}

/-- BLOCK_COUNT goes on where the CPU was and stays blocked, and starts at zero where it becomes blocked. -/
theorem finish_ended_blocking (hp : u.pc = advance len s.pc) (hl : u.lastBix = false)
    (hc : u.blocked = true → s.blocked = true → u.blockCount = s.blockCount) : Ended len s (finish len s u) where
  pc := hp
  hist := rfl
  lastBix := hl
  blockCount := by
    change (if u.blocked then (if s.blocked then u.blockCount + 1 else 0) else 0) =
      if u.blocked then (if s.blocked then s.blockCount + 1 else 0) else 0
    split
    · next hu =>
      split
      · next hs => rw [hc hu hs]
      · rfl
    · rfl

theorem perform_done_ended_blocking (h : op (s.start len) = .ok () u) (hp : u.pc = advance len s.pc)
    (hl : u.lastBix = false) (hr : u.run = s.run)
    (hc : u.blocked = true → s.blocked = true → u.blockCount = s.blockCount)
    (hdue : u.mode = .psd → u.bmtEn = true → u.blocked = true → s.blocked = true → s.blockCount < 128) :
    perform len op s = .next (finish len s u) ∧ Ended len s (finish len s u) :=
  ⟨perform_done_blocking h (fun hm he hu hs => by rw [hc hu hs]; exact hdue hm he hu hs) hr,
    finish_ended_blocking hp hl hc⟩

/-- An instruction that halts the CPU ends with the displays showing it, unless it was halted already. -/
theorem complete_halt (hu : u.run = .halt) : complete len s u = (finish len s u).haltedFrom s := by
  have hdue : (finish len s u).timeoutDue = false := by
    have hrun : (finish len s u).run = .halt := hu
    simp [State.timeoutDue, hrun]
  rw [complete, hdue]
  rfl

/-- The end of a WAIT: the pc is put back, and no timeout is due outside the blocked state. -/
theorem perform_hold (h : op (s.start len) = .stop (.hold none) u) (hm : u.mode = s.mode) (hb : u.blocked = s.blocked)
    (hr : u.run ≠ .halt) (hfree : ¬(s.mode = .psd ∧ s.blocked = true)) :
    perform len op s = .next (finish len s (u.setPc s.pc)) := by
  have hdue : (finish len s (u.setPc s.pc)).timeoutDue = false := by
    by_contra hd
    simp only [State.timeoutDue, Bool.not_eq_false, Bool.and_eq_true, decide_eq_true_eq] at hd
    obtain ⟨⟨⟨⟨hpsd, hblocked⟩, -⟩, -⟩, -⟩ := hd
    exact hfree ⟨hm.symm.trans hpsd, hb.symm.trans hblocked⟩
  rw [perform, h]
  exact congrArg _ (complete_quiet hdue fun hh => absurd hh hr)

end Ending

theorem Ended.showHalt {len : Len} {s t : State} (h : Ended len s t) : Ended len s t.showHalt :=
  ⟨h.pc, h.hist, h.lastBix, h.blockCount⟩

/-! ### The checks that come first (R601) -/

section Checks

variable {s : State} {α : Type} {f : State → Res α}

theorem requirePriv_bind (h : s.priv = true) : ((requirePriv s).bind fun _ s => f s) = f s := by
  rw [requirePriv_ok h, Res.bind_ok]

theorem requirePsdPriv_bind (hm : s.mode = .psd) (hp : s.priv = true) :
    ((requirePsd s).bind fun _ s => (requirePriv s).bind fun _ s => f s) = f s := by
  rw [requirePsd_ok hm, Res.bind_ok, requirePriv_bind hp]

end Checks

/-! ### Bits of CPUSTAT -/

/-- A bit of a word written in the manual's numbering, read by its weight (R8). -/
theorem getLsbD_putBitAt (v : Word) (a : Nat) (b : Bool) {j : Nat} (hj : j < 32) :
    (putBitAt v a b).getLsbD j = if j = 31 - a then b else v.getLsbD j := State.getLsbD_putBit v _ b j hj

theorem getLsbD_stat_setStatBit (s : State) (a : Nat) (b : Bool) {j : Nat} (hj : j < 32) :
    (s.setStatBit a b).stat.getLsbD j = if j = 31 - a then b else s.stat.getLsbD j := by
  rw [State.stat_setStatBit, getLsbD_putBitAt _ _ _ hj]

theorem cell_setStatBit (s : State) (a : Nat) (b : Bool) {c : BitVec 8} (hc : c ≠ cpuStatCell) :
    (s.setStatBit a b).cell c = s.cell c := by
  rw [State.setStatBit, State.cell_setStat, if_neg hc]

/-! ### EAE, DAE, BEI and UEI (R619, R620, R656, R657) -/

section Enables

variable {len : Len} {op : State → Res Unit} {s : State}

theorem perform_setAexp {b : Bool} (hq : s.quiet) (h : op (s.start len) = .ok () ((s.start len).setAexp b)) :
    ∃ t, perform len op s = .next t ∧ Ended len s t ∧ t = { s.endedAs t with aexp := b, scratch := t.scratch } ∧
      (∀ c, c ≠ cpuStatCell → t.cell c = s.cell c) ∧
      ∀ j < 32, t.stat.getLsbD j = if j = 7 then b else s.stat.getLsbD j := by
  obtain ⟨ht, hend⟩ := perform_done_ended hq h rfl rfl rfl rfl rfl rfl rfl
  exact ⟨_, ht, hend, rfl, fun c hc => cell_setStatBit _ _ _ hc, fun j hj => getLsbD_stat_setStatBit _ _ _ hj⟩

theorem perform_setBlocked {b : Bool} (hq : s.quiet) (h : op (s.start len) = .ok () ((s.start len).setBlocked b)) :
    ∃ t, perform len op s = .next t ∧ Ended len s t ∧ t = { s.endedAs t with blocked := b, scratch := t.scratch } ∧
      (∀ c, c ≠ cpuStatCell → t.cell c = s.cell c) ∧
      ∀ j < 32, t.stat.getLsbD j = if j = 5 then b else s.stat.getLsbD j := by
  have hcount (hb : b = true) (hs : s.blocked = true) :
      (if b && s.blocked then s.blockCount else 0) = s.blockCount := by rw [hb, hs]; rfl
  obtain ⟨ht, hend⟩ := perform_done_ended_blocking h rfl rfl rfl hcount fun hm he _ hs => hq.noTimeout hm hs he
  exact ⟨_, ht, hend, rfl, fun c hc => cell_setStatBit _ _ _ hc, fun j hj => getLsbD_stat_setStatBit _ _ _ hj⟩

end Enables

/-! ### SETCPU and RDSTS (R617, R618) -/

theorem cell_setCpu (v : Word) (s : State) {c : BitVec 8} (hc : c ≠ cpuStatCell) : (setCpu v s).cell c = s.cell c := by
  unfold setCpu
  rw [cell_setStatBit _ _ _ hc, cell_setStatBit _ _ _ hc]
  cases bitAt v 19 with
  | true => exact cell_setStatBit _ _ _ hc
  | false => exact (cell_setStatBit _ _ _ hc).trans (cell_setStatBit _ _ _ hc)

theorem setCpu_blocked (v : Word) (s : State) : (setCpu v s).blocked = (bitAt v 19 && s.blocked) := by
  unfold setCpu
  cases bitAt v 19 <;> rfl

section

variable (v : Word) (s : State)

theorem setCpu_pc : (setCpu v s).pc = s.pc := by
  unfold setCpu
  cases bitAt v 19 <;> rfl

theorem setCpu_lastBix : (setCpu v s).lastBix = s.lastBix := by
  unfold setCpu
  cases bitAt v 19 <;> rfl

theorem setCpu_run : (setCpu v s).run = s.run := by
  unfold setCpu
  cases bitAt v 19 <;> rfl

/-- SETCPU that leaves the CPU blocked is one to PSD mode, and leaves BLOCK_COUNT alone. -/
theorem setCpu_blockCount (h : (setCpu v s).blocked = true) : (setCpu v s).blockCount = s.blockCount := by
  have hpsd : bitAt v 19 = true := (Bool.and_eq_true_iff.mp ((setCpu_blocked v s).symm.trans h)).1
  unfold setCpu
  rw [hpsd]
  rfl

end

theorem stat_setMode (s : State) (m : Mode) {j : Nat} (hj : j < 32) : (s.setMode m).stat.getLsbD j =
    if j = 0 then decide (m = .psd) else if j = 5 ∧ m = .psw then false else s.stat.getLsbD j := by
  cases m with
  | psd =>
    have h31 : (s.setMode .psd).stat.getLsbD j = if j = 0 then true else s.stat.getLsbD j :=
      getLsbD_stat_setStatBit { s with mode := .psd } 31 true hj
    rw [h31]
    simp
  | psw =>
    have h31 : (s.setMode .psw).stat.getLsbD j =
        if j = 0 then false else (State.setBlocked { s with mode := .psw, mapActive := false } false).stat.getLsbD j :=
      getLsbD_stat_setStatBit _ 31 false hj
    have h26 : (State.setBlocked { s with mode := .psw, mapActive := false } false).stat.getLsbD j =
        if j = 5 then false else s.stat.getLsbD j :=
      getLsbD_stat_setStatBit { s with mode := .psw, mapActive := false, blocked := false, blockCount := 0 } 26 false hj
    rw [h31, h26]
    simp

theorem stat_setCpu (v : Word) (s : State) {j : Nat} (hj : j < 32) :
    (setCpu v s).stat.getLsbD j = if j = 0 then bitAt v 19 else if j = 5 then bitAt v 19 && s.blocked
      else if j = 6 then !bitAt v 15 else s.stat.getLsbD j := by
  have hmode : (State.setMode { s with bmtEn := bitAt v 14, psdTrapEn := bitAt v 15 }
      (if bitAt v 19 then .psd else .psw)).stat.getLsbD j =
        if j = 0 then bitAt v 19 else if j = 5 ∧ bitAt v 19 = false then false else s.stat.getLsbD j :=
    (stat_setMode _ _ hj).trans (by cases bitAt v 19 <;> simp <;> rfl)
  have h26 : (setCpu v s).stat.getLsbD j =
      if j = 5 then (setCpu v s).blocked else if j = 6 then !bitAt v 15 else _ :=
    (getLsbD_stat_setStatBit _ 26 _ hj).trans
      (congrArg (fun b => if j = 5 then (setCpu v s).blocked else b) (getLsbD_stat_setStatBit _ 25 _ hj))
  rw [h26, setCpu_blocked, hmode]
  by_cases h0 : j = 0
  · simp [h0]
  · by_cases h5 : j = 5 <;> simp [h0, h5]

/-- RDSTS keeps the low byte of CPUSTAT (R618). -/
theorem low_byte_eq_and (v : Word) : (0 : BitVec 24) ++ bits v 24 8 = v &&& 0xFF := by
  have hand : v.toNat &&& 255 = v.toNat % 256 := Nat.and_two_pow_sub_one_eq_mod v.toNat 8
  apply BitVec.eq_of_toNat_eq
  have hmask : (0xFF : Word).toNat = 255 := rfl
  rw [append_toNat, bits_toNat, BitVec.toNat_and, hmask, hand]
  simp only [BitVec.ofNat_eq_ofNat, BitVec.toNat_ofNat]
  omega

theorem high_bits_eq_zero_iff (v : Word) : bits v 0 24 = 0 ↔ v.toNat < 256 := by
  have hlt := v.isLt
  rw [← BitVec.toNat_inj, bits_toNat]
  simp only [BitVec.ofNat_eq_ofNat, BitVec.toNat_ofNat]
  omega

/-! ### Commands of the levels (R641 to R646) -/

/-- A command is a change of the level bits, or nothing where the level is not commanded (R641, D58). -/
theorem perform_commandLevel {op : State → Res Unit} {s u : State} {l : Level} {f : State → State} (hq : s.quiet)
    (hpriv : s.priv = true) (hop : op (s.start .word) = commandLevel l f (s.start .word))
    (hu : u = if s.commands l then f (s.start .word) else s.start .word)
    (hframe : u = { s.start .word with
      enabled := u.enabled, request := u.request, active := u.active, noIntNext := u.noIntNext }) :
    ∃ t, perform .word op s = .next t ∧ Ended .word s t ∧ t = finish .word s u := by
  have hok : op (s.start .word) = .ok () u := by
    rw [hop, hu]
    exact requirePriv_bind (s := s.start .word) hpriv
  obtain ⟨ht, hend⟩ := perform_done_ended hq hok (by rw [hframe]; rfl) (by rw [hframe]; rfl) (by rw [hframe]; rfl)
    (by rw [hframe]; rfl) (by rw [hframe]; rfl) (by rw [hframe]; rfl) (by rw [hframe]; rfl)
  exact ⟨_, ht, hend, rfl⟩

theorem perform_commandLevel_acts {op : State → Res Unit} {s u : State} {l : Level} {f : State → State} (hq : s.quiet)
    (hpriv : s.priv = true) (hacts : s.commands l = true) (hop : op (s.start .word) = commandLevel l f (s.start .word))
    (hu : f (s.start .word) = u)
    (hframe : u = { s.start .word with
      enabled := u.enabled, request := u.request, active := u.active, noIntNext := u.noIntNext }) :
    ∃ t, perform .word op s = .next t ∧ Ended .word s t ∧ t = finish .word s u :=
  perform_commandLevel hq hpriv hop (hu.symm.trans (if_pos hacts).symm) hframe

end Sys2Proof.Machine

namespace Sys2Proof.Proofs

open Sys2Proof.Machine

/-- Settles O38: each instruction by what it writes; HALT ends by `complete_halt`, WAIT by `perform_hold`. -/
theorem plainControls : Obligations.PlainControls := by
  intro s flags hq
  refine ⟨?nop, fun hpriv => ?halt, fun hfree => ?wait, ?calm, fun hm hpriv => ⟨fun p hp => ?arith, fun p hp => ?block⟩⟩
  case nop =>
    obtain ⟨ht, hend⟩ := perform_done_ended (op := opNop) (u := s.start .half) hq rfl rfl rfl rfl rfl rfl rfl rfl
    exact ⟨_, ht, hend, rfl⟩
  case halt =>
    have hop : opHalt (s.start .half) = .ok () ((s.start .half).setRun .halt) :=
      requirePriv_bind (s := s.start .half) hpriv
    have ht : exec .halt s = .next ((finish .half s ((s.start .half).setRun .halt)).haltedFrom s) :=
      (perform_ok (op := opHalt) hop).trans (congrArg _ (complete_halt rfl))
    refine ⟨_, ht, ?_⟩
    have hend : Ended .half s (finish .half s ((s.start .half).setRun .halt)) := finish_ended rfl rfl rfl
    by_cases hr : s.run = .halt
    · rw [State.haltedFrom, if_neg fun h => h.2 hr]
      exact ⟨hend, rfl, fun h => absurd hr h, fun _ => rfl⟩
    · rw [State.haltedFrom, if_pos ⟨rfl, hr⟩]
      exact ⟨hend.showHalt, rfl, fun _ => showsHalt_showHalt rfl, fun h => absurd h hr⟩
  case wait =>
    have hop : opWait (s.start .half) = .stop (.hold none) ((s.start .half).setRun .wait) := by
      refine if_neg fun h => hfree ?_
      rw [Bool.and_eq_true, decide_eq_true_iff] at h
      exact h
    exact ⟨_, perform_hold (op := opWait) hop rfl rfl (fun h => by cases h) hfree, rfl, rfl, rfl⟩
  case calm =>
    obtain ⟨ht, hend⟩ := perform_done_ended (op := opCalm flags) hq rfl rfl rfl rfl rfl rfl rfl rfl
    exact ⟨_, ht, hend, rfl, levelSet_putBit _ _ _⟩
  case arith =>
    simp only [List.mem_cons, List.not_mem_nil, or_false] at hp
    rcases hp with rfl | rfl
    · exact perform_setAexp (op := opEae) hq (requirePsdPriv_bind (s := s.start .half) hm hpriv)
    · exact perform_setAexp (op := opDae) hq (requirePsdPriv_bind (s := s.start .half) hm hpriv)
  case block =>
    simp only [List.mem_cons, List.not_mem_nil, or_false] at hp
    rcases hp with rfl | rfl
    · exact perform_setBlocked (op := opBei) hq (requirePsdPriv_bind (s := s.start .half) hm hpriv)
    · exact perform_setBlocked (op := opUei) hq (requirePsdPriv_bind (s := s.start .half) hm hpriv)

/-- Settles O39: the fields of `setCpu` and of `readStatus`, CPUSTAT bit by bit. -/
theorem cpuModeAndStatus : Obligations.CpuModeAndStatus := by
  intro s r hpriv hj hcount
  refine ⟨?setcpu, fun hm => ?rdsts⟩
  case setcpu =>
    have hop : opSetcpu r (s.start .half) = .ok () (setCpu (s.reg r) (s.start .half)) := by
      refine (requirePriv_bind (s := s.start .half) hpriv).trans ?_
      rw [requireJumper_ok (s := s.start .half) hj]
      rfl
    have hblocked : (setCpu (s.reg r) (s.start .half)).blocked = (bitAt (s.reg r) 19 && s.blocked) :=
      setCpu_blocked _ _
    obtain ⟨ht, hend⟩ := perform_done_ended_blocking (op := opSetcpu r) hop (setCpu_pc _ _) (setCpu_lastBix _ _)
      (setCpu_run _ _) (fun hu _ => setCpu_blockCount _ _ hu) fun _ _ _ => hcount
    refine ⟨_, ht, hend, ?_, fun c hc => cell_setCpu _ _ hc, fun j hj => stat_setCpu _ _ hj⟩
    unfold finish setCpu
    cases bitAt (s.reg r) 19 <;> rfl
  case rdsts =>
    have hop : opRdsts r (s.start .half) = .ok () (readStatus r (s.start .half)) := by
      refine (requirePsdPriv_bind (s := s.start .half) hm hpriv).trans ?_
      rw [requireJumper_ok (s := s.start .half) hj]
      rfl
    obtain ⟨ht, hend⟩ := perform_done_ended_blocking (op := opRdsts r) hop rfl rfl rfl (fun _ _ => rfl)
      fun _ _ _ => hcount
    refine ⟨_, ht, hend, rfl, ?_, ?_, ?_, ?_, ?_⟩
    · intro q hne
      exact (State.reg_setReg (s.start .half) r s.stat q).trans (if_neg hne)
    · exact State.reg_setReg_same (s.start .half) r s.stat
    · have hpsd : decide (s.mode = .psd) = true := decide_eq_true hm
      have hhigh : decide (bits s.stat 0 24 = 0) = decide (s.stat.toNat < 256) :=
        decide_eq_decide.mpr (high_bits_eq_zero_iff s.stat)
      rw [← hpsd, ← hhigh]
      rfl
    · exact (State.stat_setStat _ _).trans (low_byte_eq_and s.stat)
    · exact fun c hc => (State.cell_setStat _ _ c).trans (if_neg hc)

/-- Settles O43: every command is `perform_commandLevel`, EI and DI by whether the jumper fixes the enable. -/
theorem levelCommands : Obligations.LevelCommands := by
  intro s l hq hpriv acts fixed
  refine ⟨fun hacts i hi => ?none, fun hacts => ?some⟩
  case none =>
    have hno {f : State → State} : s.start .word = if s.commands l then f (s.start .word) else s.start .word :=
      (if_neg (ne_true_of_eq_false hacts)).symm
    have hplain (op : State → Res Unit) (f : State → State)
        (hop : op (s.start .word) = commandLevel l f (s.start .word)) :
        ∃ t, perform .word op s = .next t ∧ Ended .word s t ∧ t = s.endedAs t := by
      obtain ⟨t, ht, hend, rfl⟩ := perform_commandLevel hq hpriv hop hno rfl
      exact ⟨_, ht, hend, rfl⟩
    simp only [List.mem_cons, List.not_mem_nil, or_false] at hi
    rcases hi with rfl | rfl | rfl | rfl | rfl
    · exact hplain (opEi l) _ rfl
    · exact hplain (opDi l) _ rfl
    · exact hplain (opRi l) _ rfl
    · exact hplain (opAi l) _ rfl
    · exact hplain (opDai l) _ rfl
  case some =>
    have hfixed : (s.start .word).fixedEnable l = fixed := (Bool.decide_and _ _).symm
    refine ⟨?ei, ?di, ?ri, ?ai, ?dai⟩
    case ei =>
      cases hf : fixed with
      | true =>
        obtain ⟨t, ht, hend, rfl⟩ := perform_commandLevel_acts (op := opEi l) (u := s.start .word) hq hpriv hacts rfl
          (if_pos (hfixed.trans hf)) rfl
        exact ⟨_, ht, hend, rfl, rfl⟩
      | false =>
        obtain ⟨t, ht, hend, rfl⟩ := perform_commandLevel_acts (op := opEi l) (u := (s.start .word).setEnabled l true)
          hq hpriv hacts rfl (if_neg (ne_true_of_eq_false (hfixed.trans hf))) rfl
        exact ⟨_, ht, hend, rfl, levelSet_putBit _ _ _⟩
    case di =>
      cases hf : fixed with
      | true =>
        obtain ⟨t, ht, hend, rfl⟩ := perform_commandLevel_acts (op := opDi l) (u := s.start .word) hq hpriv hacts rfl
          (if_pos (hfixed.trans hf)) rfl
        exact ⟨_, ht, hend, rfl, rfl, rfl⟩
      | false =>
        obtain ⟨t, ht, hend, rfl⟩ := perform_commandLevel_acts (op := opDi l)
          (u := ((s.start .word).setEnabled l false).setRequest l false) hq hpriv hacts rfl
          (if_neg (ne_true_of_eq_false (hfixed.trans hf))) rfl
        exact ⟨_, ht, hend, rfl, levelSet_putBit _ _ _, levelSet_putBit _ _ _⟩
    case ri =>
      obtain ⟨t, ht, hend, rfl⟩ := perform_commandLevel_acts (op := opRi l) (u := (s.start .word).setRequest l true)
        hq hpriv hacts rfl rfl rfl
      exact ⟨_, ht, hend, rfl, levelSet_putBit _ _ _⟩
    case ai =>
      obtain ⟨t, ht, hend, rfl⟩ := perform_commandLevel_acts (op := opAi l) (u := (s.start .word).setActive l true)
        hq hpriv hacts rfl rfl rfl
      exact ⟨_, ht, hend, rfl, levelSet_putBit _ _ _⟩
    case dai =>
      obtain ⟨t, ht, hend, rfl⟩ := perform_commandLevel_acts (op := opDai l)
        (u := { (s.start .word).setActive l false with noIntNext := s.noIntNext || decide (s.mode = .psd) })
        hq hpriv hacts rfl rfl rfl
      exact ⟨_, ht, hend, rfl, levelSet_putBit _ _ _⟩

end Sys2Proof.Proofs
end

section
/-!
The checks that come before an instruction's effect (R601), the instructions whose effect is a trap, and the commands
to devices (R672 to R674).
-/

namespace Sys2Proof.Machine

/-! ### Mode, privilege and jumper (R601) -/

section Checks

variable {s : State} {α : Type} {f : Unit → State → Res α}

theorem requirePsd_bind_psw (h : s.mode = .psw) : (requirePsd s).bind f = .stop (.trap (.undefined false)) s := by
  rw [requirePsd_psw h]
  rfl

theorem requirePriv_bind_no (h : s.priv = false) : (requirePriv s).bind f = .stop (.trap .privilege) s := by
  rw [requirePriv_no h]
  rfl

theorem requirePsd_requirePriv_bind_no (hm : s.mode = .psd) (h : s.priv = false) :
    ((requirePsd s).bind fun _ s => (requirePriv s).bind f) = .stop (.trap .privilege) s := by
  rw [requirePsd_ok hm, Res.bind_ok, requirePriv_bind_no h]

theorem requireJumper_bind_no (h : s.cfg.modeJumper = .psw) :
    (requireJumper s).bind f = .stop (.trap (.undefined false)) s := by
  rw [requireJumper_no h]
  rfl

theorem extAddr_bind_psw {g : Addr → State → Res α} {rs rz : Reg} (h : s.mode = .psw) :
    (extAddr rs rz s).bind g = .stop (.trap (.undefined false)) s := by
  rw [extAddr, requirePsd_bind_psw h]
  rfl

theorem extAddr_bind_no {g : Addr → State → Res α} {rs rz : Reg} (hm : s.mode = .psd) (h : s.priv = false) :
    (extAddr rs rz s).bind g = .stop (.trap .privilege) s := by
  rw [extAddr, requirePsd_requirePriv_bind_no hm h]
  rfl

end Checks

/-- An instruction of PSD mode is undefined in PSW mode (R601, R742). -/
theorem effectOf_psw {i : Instr} {s : State} (hi : needsPsd i = true) (h : s.mode = .psw) :
    effectOf i s = .stop (.trap (.undefined false)) s := by
  cases i with
  | lem | cema | sem => exact extAddr_bind_psw h
  | lear | la | lmap | tmapr | lpsd | lpsdcm | svc | rdsts | eae | dae | bei | uei => exact requirePsd_bind_psw h
  | eci | dci | aci | daci | sio | tio | stpio | rschnl | hio | grio | rsctl | ecwcs | wcwcs =>
    exact requirePsd_bind_psw h
  | _ => cases hi

/-- A privileged instruction violates privilege where the mode allows it (R601, R743, D55). -/
theorem effectOf_unprivileged {i : Instr} {s : State} (hi : needsPriv i = true) (h : s.priv = false)
    (hm : needsPsd i = true → s.mode = .psd) : effectOf i s = .stop (.trap .privilege) s := by
  cases i with
  | lem | cema | sem => exact extAddr_bind_no (hm rfl) h
  | tscr | trsc | trp | wwcs | rwcs | bri | halt | setcpu | ei | di | ri | ai | dai | cd | td =>
    exact requirePriv_bind_no h
  | lear | lmap | tmapr | lpsd | lpsdcm | rdsts | eae | dae | bei | uei =>
    exact requirePsd_requirePriv_bind_no (hm rfl) h
  | eci | dci | aci | daci | sio | tio | stpio | rschnl | hio | grio | rsctl | ecwcs | wcwcs =>
    exact requirePsd_requirePriv_bind_no (hm rfl) h
  | _ => cases hi

theorem exec_trap {i : Instr} {s u : State} {t : Trap} (h : effectOf i (s.start i.len) = .stop (.trap t) u) :
    exec i s = .next (raiseSync t (u.setHist (histOf i.len s.pc))) :=
  (exec_eq i s).trans (perform_trap h)

/-- A WAIT that may not wait: the pc is put back and the trap raised (R613, D54). -/
theorem perform_hold_trap {len : Len} {op : State → Res Unit} {s u : State} {t : Trap}
    (h : op (s.start len) = .stop (.hold (some t)) u) :
    perform len op s = .next (raiseSync t ((u.setPc s.pc).setHist (histOf len s.pc))) := by
  simp only [perform, h]

/-! ### WCS that is not there (R57, R326, R327) -/

theorem wcsAvailable_false {s : State} {a : Word} (h : s.cfg.wcsWords ≤ a.toNat ∨ 4095 < a.toNat) :
    s.wcsAvailable a = false := by
  unfold State.wcsAvailable
  rcases h with h | h
  · rw [decide_eq_false (p := a.toNat < s.cfg.wcsWords) (by omega), Bool.and_false]
  · rw [decide_eq_false (p := a.toNat ≤ 4095) (by omega), Bool.and_false, Bool.false_and]

/-! ### CD and TD (R672 to R674) -/

/-- An instruction that leaves alone everything the end of an instruction looks at. -/
theorem perform_done_word {op : State → Res Unit} {s u : State} (hq : s.quiet)
    (h : op (s.start .word) = .ok () u)
    (hu : u = { s.start .word with sent := u.sent, devReplies := u.devReplies, chanReplies := u.chanReplies, cc := u.cc }) :
    ∃ t, perform .word op s = .next t ∧ Ended .word s t ∧ t = finish .word s u := by
  obtain ⟨ht, hend⟩ := perform_done_ended hq h (by rw [hu]; rfl) (by rw [hu]; rfl) (by rw [hu]; rfl)
    (by rw [hu]; rfl) (by rw [hu]; rfl) (by rw [hu]; rfl) (by rw [hu]; rfl)
  exact ⟨_, ht, hend, rfl⟩

section Devices

variable {s : State} {d : BitVec 7} {c : Half} {e : DevEntry}

theorem commandDevice_absent (h : s.devAt d = none) : commandDevice d c s = .ok () s := by
  simp only [commandDevice, h]

theorem testDevice_absent (h : s.devAt d = none) : testDevice d c s = .ok () (s.setCC ccAbsent) := by
  simp only [testDevice, h]

theorem inClassF_eq_false (h : e.cls ≠ 0xF) : inClassF e = false := beq_false_of_ne h

theorem inClassF_eq_true (h : e.cls = 0xF) : inClassF e = true := beq_iff_eq.mpr h

theorem commandDevice_plain (h : s.devAt d = some e) (he : e.cls ≠ 0xF) :
    commandDevice d c s = .ok () (s.send (.command d c)) := by
  simp only [commandDevice, h, inClassF_eq_false he, Bool.false_eq_true, if_false]

theorem testDevice_plain (h : s.devAt d = some e) (he : e.cls ≠ 0xF) :
    testDevice d c s = .ok () (deviceTest d c s) := by
  simp only [testDevice, h, inClassF_eq_false he, Bool.false_eq_true, if_false]

theorem commandDevice_classF_psw (hm : s.mode = .psw) (h : s.devAt d = some e) (he : e.cls = 0xF) :
    commandDevice d c s = .ok () s := by
  simp only [commandDevice, h, inClassF_eq_true he, if_true, hm]

theorem commandDevice_classF_psd (hm : s.mode = .psd) (h : s.devAt d = some e) (he : e.cls = 0xF) :
    commandDevice d c s = .stop (.trap (.ofDevice e (.systemCheck (statBit 0)))) s := by
  simp only [commandDevice, h, inClassF_eq_true he, if_true, hm, trapNow]

theorem testDevice_classF_psw (hm : s.mode = .psw) (h : s.devAt d = some e) (he : e.cls = 0xF) :
    testDevice d c s = .ok () (s.setCC (testClassF c)) := by
  simp only [testDevice, h, inClassF_eq_true he, if_true, hm]

theorem testDevice_classF_psd (hm : s.mode = .psd) (h : s.devAt d = some e) (he : e.cls = 0xF) :
    testDevice d c s = .stop (.trap (.ofDevice e (.systemCheck (statBit 0)))) s := by
  simp only [testDevice, h, inClassF_eq_true he, if_true, hm, trapNow]

theorem opCd_eq (hp : s.priv = true) : opCd d c s = commandDevice d c s := requirePriv_bind hp

theorem opTd_eq (hp : s.priv = true) : opTd d c s = testDevice d c s := requirePriv_bind hp

end Devices

end Sys2Proof.Machine

namespace Sys2Proof.Proofs

open Sys2Proof.Machine

/-- Settles O47: the checks by `effectOf_psw` and `effectOf_unprivileged`, the others by the first lines of their
operations. -/
theorem trappingInstructions : Obligations.TrappingInstructions := by
  refine ⟨fun i s => ⟨fun hi hm => ?psw, fun hi hp hm => ?unprivileged, fun r hi hp hj => ?jumper⟩,
    fun s ind call m rd rs => ⟨fun hm => ?svc, fun hw => ?jwcs, fun hp hw => ?wwcs, fun hp hw => ?rwcs,
      fun hm hb => ?wait⟩⟩
  case psw => exact exec_trap (effectOf_psw (s := s.start i.len) hi hm)
  case unprivileged => exact exec_trap (effectOf_unprivileged (s := s.start i.len) hi hp hm)
  case jumper =>
    rcases hi with rfl | ⟨rfl, hm⟩
    · refine exec_trap (i := .setcpu r) ((requirePriv_bind (s := s.start .half) hp).trans ?_)
      exact requireJumper_bind_no (s := s.start .half) hj
    · refine exec_trap (i := .rdsts r) ((requirePsdPriv_bind (s := s.start .half) hm hp).trans ?_)
      exact requireJumper_bind_no (s := s.start .half) hj
  case svc =>
    refine exec_trap (i := .svc ind call) (?_ : opSvc ind call (s.start .word) = _)
    rw [opSvc, requirePsd_ok (s := s.start .word) hm]
    rfl
  case jwcs => exact exec_trap (i := .jwcs m) (if_pos hw)
  case wwcs =>
    have hop : opWwcs rd rs (s.start .half) = noWcs (s.start .half) := by
      have hno : (s.start .half).wcsAvailable ((s.start .half).reg rd) = false := wcsAvailable_false hw
      refine (requirePriv_bind (s := s.start .half) hp).trans ?_
      rw [hno]
      rfl
    exact exec_trap (i := .wwcs rd rs) hop
  case rwcs =>
    have hop : opRwcs rd rs (s.start .half) = noWcs (s.start .half) := by
      have hno : (s.start .half).wcsAvailable ((s.start .half).reg rs) = false := wcsAvailable_false hw
      refine (requirePriv_bind (s := s.start .half) hp).trans ?_
      rw [hno]
      rfl
    exact exec_trap (i := .rwcs rd rs) hop
  case wait =>
    have hop : opWait (s.start .half) = .stop (.hold (some .blockTimeout)) (s.start .half) :=
      if_pos (by rw [Bool.and_eq_true, decide_eq_true_iff]; exact ⟨hm, hb⟩)
    exact perform_hold_trap (op := opWait) hop

/-- Settles O44: by whether the device is there and whether it is a Class F channel. -/
theorem deviceCommands : Obligations.DeviceCommands := by
  intro s d c hq hp
  have hcd : opCd d c (s.start .word) = commandDevice d c (s.start .word) := opCd_eq hp
  have htd : opTd d c (s.start .word) = testDevice d c (s.start .word) := opTd_eq hp
  refine ⟨fun hd => ⟨?absentCd, ?absentTd⟩, fun e hd he => ⟨?plainCd, fun a rest ha => ?plainTd, fun rest ha => ?silentTd⟩,
    fun e hd he => ⟨fun hm => ⟨?pswCd, ?pswTd⟩, fun hm i hi => ?psd⟩⟩
  case absentCd =>
    obtain ⟨t, ht, hend, rfl⟩ := perform_done_word hq (hcd.trans (commandDevice_absent hd)) rfl
    exact ⟨_, ht, hend, rfl⟩
  case absentTd =>
    obtain ⟨t, ht, hend, rfl⟩ := perform_done_word hq (htd.trans (testDevice_absent hd)) rfl
    exact ⟨_, ht, hend, rfl⟩
  case plainCd =>
    obtain ⟨t, ht, hend, rfl⟩ := perform_done_word hq (hcd.trans (commandDevice_plain hd he)) rfl
    exact ⟨_, ht, hend, rfl⟩
  case plainTd =>
    have htest : deviceTest d c (s.start .word) =
        { s.start .word with sent := .test d c :: s.sent, devReplies := rest, cc := a } := by
      unfold deviceTest
      rw [show (s.start .word).devReplies = some a :: rest from ha]
      rfl
    obtain ⟨t, ht, hend, rfl⟩ := perform_done_word hq ((htd.trans (testDevice_plain hd he)).trans (congrArg _ htest)) rfl
    exact ⟨_, ht, hend, rfl⟩
  case silentTd =>
    have htest : deviceTest d c (s.start .word) =
        { s.start .word with sent := .test d c :: s.sent, devReplies := rest, cc := ccAbsent } := by
      unfold deviceTest
      rw [show (s.start .word).devReplies = none :: rest from ha]
      rfl
    obtain ⟨t, ht, hend, rfl⟩ := perform_done_word hq ((htd.trans (testDevice_plain hd he)).trans (congrArg _ htest)) rfl
    exact ⟨_, ht, hend, rfl⟩
  case pswCd =>
    obtain ⟨t, ht, hend, rfl⟩ := perform_done_word hq (hcd.trans (commandDevice_classF_psw hm hd he)) rfl
    exact ⟨_, ht, hend, rfl⟩
  case pswTd =>
    obtain ⟨t, ht, hend, rfl⟩ := perform_done_word hq (htd.trans (testDevice_classF_psw hm hd he)) rfl
    exact ⟨_, ht, hend, rfl⟩
  case psd =>
    simp only [List.mem_cons, List.not_mem_nil, or_false] at hi
    rcases hi with rfl | rfl
    · exact hcd.trans (commandDevice_classF_psd hm hd he)
    · exact htd.trans (testDevice_classF_psd hm hd he)

end Sys2Proof.Proofs
end

section
/-!
The Class F instructions (R650 to R654, R680 to R700): the channel that is addressed, what it is sent, what its answer
leaves.
-/

namespace Sys2Proof.Machine

/-! ### The channel and the subaddress (R680, D62) -/

/-- The computed logical channel. -/
def channelOf (r : Reg) (k : Half) (s : State) : BitVec 7 := bits (channelAddr r k s) 1 7

/-- The computed subaddress. -/
def subOf (r : Reg) (k : Half) (s : State) : Byte := bits (channelAddr r k s) 8 8

/-- The ICB of a level (R732). -/
def icbOf (l : Level) (s : State) : Addr := addrOf (s.peek (ivlOf l).toNat .word)

section Address

variable (r : Reg) (k : Half) (s : State)

theorem channelAddr_toNat :
    (channelAddr r k s).toNat = (k.toNat + if r = 0 then 0 else (s.reg r).toNat) % 65536 := by
  unfold channelAddr
  split
  · rw [BitVec.toNat_add]
    rfl
  · rw [BitVec.toNat_add, bits_toNat]
    omega

theorem channelOf_eq :
    channelOf r k s = BitVec.ofNat 7 ((k.toNat + if r = 0 then 0 else (s.reg r).toNat) % 65536 / 256) :=
  bits_of_toNat (by rw [channelAddr_toNat, BitVec.toNat_ofNat]; omega)

theorem subOf_eq : subOf r k s = BitVec.ofNat 8 ((k.toNat + if r = 0 then 0 else (s.reg r).toNat) % 65536) :=
  bits_of_toNat (by rw [channelAddr_toNat, BitVec.toNat_ofNat]; omega)

end Address

/-! ### What is sent, and what the answer leaves (R681, R682, R699, R700) -/

theorem disarm_of_ne {op : ChanOp} {chan : BitVec 7} {s : State} (h : op ≠ .ecwcs) : disarm op chan s =
    { s with ecwcsArmed := if s.ecwcsArmed = some chan then none else s.ecwcsArmed } := by
  unfold disarm
  by_cases ha : s.ecwcsArmed = some chan
  · rw [if_pos ⟨h, ha⟩, if_pos ha]
  · rw [if_neg fun hc => ha hc.2, if_neg ha]

theorem disarm_ecwcs {chan : BitVec 7} {s : State} : disarm .ecwcs chan s = s := if_neg fun h => h.1 rfl

/-- The disarming touches the interlock alone. -/
theorem disarm_eq (op : ChanOp) (chan : BitVec 7) (s : State) :
    disarm op chan s = { s with ecwcsArmed := (disarm op chan s).ecwcsArmed } := by
  unfold disarm
  split <;> rfl

/-- The state in which the channel has the message: the reply taken, the interlock disarmed. -/
def messaged (op : ChanOp) (chan : BitVec 7) (sub : Byte) (data : Option Addr) (rest : List (Option ChanReply))
    (s : State) : State :=
  (disarm op chan { s with chanReplies := rest }).send (.channel op chan sub data)

/-- The IOCLA that SIO and WCWCS send (R683, R700). -/
def listOf (op : ChanOp) (l : Level) (s : State) : Option Addr :=
  if op.sendsList then some (addrOf (s.peek (icbOf l s + 16).toNat .word)) else none

/-- The status address put in word 6 of the ICB where status was stored (R682, R690). -/
def statusPut (l : Level) (rep : ChanReply) (s t : State) : State :=
  if rep.answer = .statusStored then t.poke (icbOf l s + 20).toNat .word (rep.status.setWidth 32) else t

/-- A state in which a Class F instruction reaches the channel `d`, which answers `rep`. -/
structure Reached (op : ChanOp) (r : Reg) (k : Half) (d : DevEntry) (rep : ChanReply)
    (rest : List (Option ChanReply)) (s : State) : Prop where
  mode : s.mode = .psd
  priv : s.priv = true
  alone : s.between = []
  parity : s.operandParity = false
  device : s.devAt (channelOf r k s) = some d
  classF : d.cls = 0xF
  armed : op = .wcwcs → s.ecwcsArmed = some (channelOf r k s)
  reply : s.chanReplies = some rep :: rest
  vector : s.present (ivlOf d.level) .word = true
  list : op.sendsList = true → s.present (icbOf d.level s + 16) .word = true
  status : rep.answer = .statusStored → s.present (icbOf d.level s + 20) .word = true

section Answered

variable {op : ChanOp} {r : Reg} {k : Half} {d : DevEntry} {rep : ChanReply} {rest : List (Option ChanReply)}
  {s : State}

theorem nextReply_cons (h : s.chanReplies = some rep :: rest) :
    nextReply s = (some rep, { s with chanReplies := rest }) := by
  unfold nextReply
  rw [h]

/-- The exchange with the channel, where memory has the words of the ICB that it takes (R682, R683, R690). -/
theorem channelOp_ok {chan : BitVec 7} {sub : Byte} {l : Level} (hb : s.between = []) (ho : s.operandParity = false)
    (hv : s.present (ivlOf l) .word = true) (hl : op.sendsList = true → s.present (icbOf l s + 16) .word = true)
    (hs : rep.answer = .statusStored → s.present (icbOf l s + 20) .word = true) :
    channelOp op chan sub l rep s = .ok () ((if rep.answer.accepts
      then acceptedEffect op chan l
        (statusPut l rep s ((disarm op chan s).send (.channel op chan sub (listOf op l s))))
      else refusedEffect op
        (statusPut l rep s ((disarm op chan s).send (.channel op chan sub (listOf op l s))))).setCC
      (ccAnswer rep.answer)) := by
  have hread {pa : Addr} (hp : s.present pa .word = true) :
      physRead operandErr pa .word (disarm op chan s) = .ok (s.peek pa.toNat .word) (disarm op chan s) := by
    rw [disarm_eq]
    exact physRead_eq operandErr (s := { s with ecwcsArmed := (disarm op chan s).ecwcsArmed }) hb hp ho
  have hlist : (if op.sendsList then (physRead operandErr (icbOf l s + 16) .word (disarm op chan s)).bind
      fun w s => .ok (some (addrOf w)) s else .ok none (disarm op chan s)) =
        .ok (listOf op l s) (disarm op chan s) := by
    unfold listOf
    split
    · next hsend => rw [hread (hl hsend), Res.bind_ok]
    · rfl
  have hstore {data : Option Addr} : storeStatus (icbOf l s) rep ((disarm op chan s).send (.channel op chan sub data)) =
      .ok () (statusPut l rep s ((disarm op chan s).send (.channel op chan sub data))) := by
    unfold storeStatus statusPut
    split
    · next hst =>
      rw [disarm_eq]
      exact physWrite_eq operandErr _ hb (hs hst)
    · rfl
  rw [channelOp, hread hv, Res.bind_ok]
  change (Res.bind (if op.sendsList then _ else _) _) = _
  rw [show addrOf (s.peek (ivlOf l).toNat .word) = icbOf l s from rfl, hlist, Res.bind_ok, hstore, Res.bind_ok]

/-- The operation after the channel's answer (R682, R650, R683, R700). -/
theorem classF_reached (h : Reached op r k d rep rest s) : classF op r k s =
    .ok () ((if rep.answer.accepts
      then acceptedEffect op (channelOf r k s) d.level
        (statusPut d.level rep s (messaged op (channelOf r k s) (subOf r k s) (listOf op d.level s) rest s))
      else refusedEffect op
        (statusPut d.level rep s (messaged op (channelOf r k s) (subOf r k s) (listOf op d.level s) rest s))).setCC
      (ccAnswer rep.answer)) := by
  have hdev : s.devAt (bits (channelAddr r k s) 1 7) = some d := h.device
  have harmed : ¬(op = .wcwcs ∧ s.ecwcsArmed ≠ some (bits (channelAddr r k s) 1 7)) := fun hc => hc.2 (h.armed hc.1)
  rw [classF, requirePsdPriv_bind h.mode h.priv]
  simp only [hdev, inClassF_eq_true h.classF, Bool.not_true, Bool.false_eq_true, if_false, if_neg harmed,
    nextReply_cons h.reply]
  rw [channelOp_ok (s := { s with chanReplies := rest }) h.alone h.parity h.vector h.list h.status]
  rfl

/-- An answer that accepts the operation (R681): nothing is stored, CC1 tells a queued one. -/
theorem classF_accepted {a : ChanAnswer} {status : Addr} (h : Reached op r k d ⟨a, status⟩ rest s)
    (ha : a = .activated ∨ a = .queued) : classF op r k s =
      .ok () ((acceptedEffect op (channelOf r k s) d.level
        (messaged op (channelOf r k s) (subOf r k s) (listOf op d.level s) rest s)).setCC
          ⟨decide (a = .queued), false, false, false⟩) := by
  rw [classF_reached h]
  rcases ha with rfl | rfl <;> rfl

/-- What the message changes: the replies, the messages, the interlock. -/
theorem messaged_eq (chan : BitVec 7) (sub : Byte) (data : Option Addr) : messaged op chan sub data rest s =
    { s with
      chanReplies := rest, sent := .channel op chan sub data :: s.sent,
      ecwcsArmed := (disarm op chan s).ecwcsArmed } := by
  unfold messaged
  rw [disarm_eq]
  unfold disarm
  split <;> rfl

theorem messaged_of_ne (hne : op ≠ .ecwcs) (chan : BitVec 7) (sub : Byte) (data : Option Addr) :
    messaged op chan sub data rest s =
      { s with
        chanReplies := rest, sent := .channel op chan sub data :: s.sent,
        ecwcsArmed := if s.ecwcsArmed = some chan then none else s.ecwcsArmed } := by
  rw [messaged_eq, disarm_of_ne hne]

theorem messaged_ecwcs (chan : BitVec 7) (sub : Byte) (data : Option Addr) : messaged .ecwcs chan sub data rest s =
    { s with chanReplies := rest, sent := .channel .ecwcs chan sub data :: s.sent } := by
  rw [messaged_eq, disarm_ecwcs]

/-- What a Class F instruction may change: the levels and the pair of R660, the interlock, the answers and messages,
the word of the ICB, the condition codes. -/
def channelFrame (s u : State) : Prop :=
  u = { s with
    enabled := u.enabled, request := u.request, active := u.active, noIntNext := u.noIntNext,
    ecwcsArmed := u.ecwcsArmed, chanReplies := u.chanReplies, sent := u.sent, mem := u.mem, cc := u.cc }

theorem perform_classF {u : State} (hq : s.quiet) (h : classF op r k (s.start .word) = .ok () u)
    (hu : channelFrame (s.start .word) u) :
    ∃ t, perform .word (classF op r k) s = .next t ∧ Ended .word s t ∧ t = finish .word s u := by
  unfold channelFrame at hu
  obtain ⟨ht, hend⟩ := perform_done_ended (op := classF op r k) hq h (by rw [hu]; rfl) (by rw [hu]; rfl)
    (by rw [hu]; rfl) (by rw [hu]; rfl) (by rw [hu]; rfl) (by rw [hu]; rfl) (by rw [hu]; rfl)
  exact ⟨_, ht, hend, rfl⟩

theorem channelFrame_accepted (chan : BitVec 7) (sub : Byte) (data : Option Addr) (l : Level) (c : CC) :
    channelFrame s ((acceptedEffect op chan l (messaged op chan sub data rest s)).setCC c) := by
  unfold channelFrame
  rw [messaged_eq]
  cases op <;> rfl

/-- An accepted operation as an instruction. -/
theorem perform_accepted {a : ChanAnswer} {status : Addr} {chan : BitVec 7} {sub : Byte} (hq : s.quiet)
    (h : Reached op r k d ⟨a, status⟩ rest (s.start .word)) (ha : a = .activated ∨ a = .queued)
    (hchan : channelOf r k (s.start .word) = chan) (hsub : subOf r k (s.start .word) = sub) :
    ∃ t, perform .word (classF op r k) s = .next t ∧ Ended .word s t ∧
      t = finish .word s ((acceptedEffect op chan d.level
        (messaged op chan sub (listOf op d.level s) rest (s.start .word))).setCC
          ⟨decide (a = .queued), false, false, false⟩) := by
  have hop := classF_accepted h ha
  rw [hchan, hsub] at hop
  exact perform_classF hq hop (channelFrame_accepted _ _ _ _ _)

theorem perform_accepted_of_ne {a : ChanAnswer} {status : Addr} {chan : BitVec 7} {sub : Byte} (hq : s.quiet)
    (h : Reached op r k d ⟨a, status⟩ rest (s.start .word)) (ha : a = .activated ∨ a = .queued)
    (hchan : channelOf r k (s.start .word) = chan) (hsub : subOf r k (s.start .word) = sub) (hne : op ≠ .ecwcs) :
    ∃ t, perform .word (classF op r k) s = .next t ∧ Ended .word s t ∧
      t = finish .word s ((acceptedEffect op chan d.level
        { s.start .word with
          chanReplies := rest, sent := .channel op chan sub (listOf op d.level s) :: s.sent,
          ecwcsArmed := if s.ecwcsArmed = some chan then none else s.ecwcsArmed }).setCC
            ⟨decide (a = .queued), false, false, false⟩) := by
  obtain ⟨t, ht, hend, hval⟩ := perform_accepted hq h ha hchan hsub
  rw [messaged_of_ne hne] at hval
  exact ⟨t, ht, hend, hval⟩

/-- Memory is all that storing the status changes. -/
theorem statusPut_eq (l : Level) (rep : ChanReply) {t : State} (h : t.mem = s.mem) :
    statusPut l rep s t = { t with mem := (statusPut l rep s s).mem } := by
  unfold statusPut
  split
  · rw [poke_eq, mem_poke_congr _ _ _ h]
  · rw [← h]

/-- A refused operation leaves the message, the status address of a stored status, and ECWCS unarmed (R682, R699). -/
theorem refusedEffect_eq (chan : BitVec 7) (sub : Byte) (data : Option Addr) (l : Level) :
    refusedEffect op (statusPut l rep s (messaged op chan sub data rest s)) =
      { s with
        mem := (statusPut l rep s s).mem, chanReplies := rest, sent := .channel op chan sub data :: s.sent,
        ecwcsArmed := if op = .ecwcs then none else if s.ecwcsArmed = some chan then none else s.ecwcsArmed } := by
  have hmem : (messaged op chan sub data rest s).mem = s.mem := by rw [messaged_eq]
  rw [statusPut_eq l rep hmem]
  by_cases hop : op = .ecwcs
  · subst hop
    rw [messaged_ecwcs]
    rfl
  · rw [messaged_of_ne hop, if_neg hop, refusedEffect, if_neg hop]

/-- A refused operation as an instruction. -/
theorem perform_refused {chan : BitVec 7} {sub : Byte} (hq : s.quiet) (h : Reached op r k d rep rest (s.start .word))
    (ha : rep.answer.accepts = false) (hchan : channelOf r k (s.start .word) = chan)
    (hsub : subOf r k (s.start .word) = sub) :
    ∃ t, perform .word (classF op r k) s = .next t ∧ Ended .word s t ∧
      t = finish .word s { s.start .word with
        mem := (statusPut d.level rep (s.start .word) (s.start .word)).mem, chanReplies := rest, cc := ccAnswer rep.answer,
        sent := .channel op chan sub (listOf op d.level s) :: s.sent,
        ecwcsArmed := if op = .ecwcs then none else if s.ecwcsArmed = some chan then none else s.ecwcsArmed } := by
  have hop := classF_reached h
  rw [if_neg (by rw [ha]; exact nofun), refusedEffect_eq, hchan, hsub] at hop
  exact perform_classF hq hop rfl

theorem statusPut_ne (h : rep.answer ≠ .statusStored) (l : Level) (s t : State) : statusPut l rep s t = t := if_neg h

theorem statusPut_stored (h : rep.answer = .statusStored) (l : Level) (s t : State) :
    statusPut l rep s t = t.poke (icbOf l s + 20).toNat .word (rep.status.setWidth 32) := if_pos h

/-! ### An operation that reaches no channel (R681, R682, R690, R700) -/

theorem classF_noDevice (hm : s.mode = .psd) (hp : s.priv = true) (h : s.devAt (channelOf r k s) = none) :
    classF op r k s = .ok () (s.setCC (ccAnswer .inoperable)) := by
  have hdev : s.devAt (bits (channelAddr r k s) 1 7) = none := h
  rw [classF, requirePsdPriv_bind hm hp]
  simp only [hdev]

theorem classF_otherClass (hm : s.mode = .psd) (hp : s.priv = true) (h : s.devAt (channelOf r k s) = some d)
    (hc : d.cls ≠ 0xF) : classF op r k s = .stop (.trap (.ofDevice d (.undefined false))) s := by
  have hdev : s.devAt (bits (channelAddr r k s) 1 7) = some d := h
  rw [classF, requirePsdPriv_bind hm hp]
  simp only [hdev, inClassF_eq_false hc, Bool.not_false, if_true]
  rfl

theorem classF_unarmed (hm : s.mode = .psd) (hp : s.priv = true) (h : s.devAt (channelOf r k s) = some d)
    (hc : d.cls = 0xF) (ha : s.ecwcsArmed ≠ some (channelOf r k s)) :
    classF .wcwcs r k s = .stop (.trap (.ofDevice d (.systemCheck (statBit 15)))) s := by
  have hdev : s.devAt (bits (channelAddr r k s) 1 7) = some d := h
  rw [classF, requirePsdPriv_bind hm hp]
  simp only [hdev, inClassF_eq_true hc, Bool.not_true, Bool.false_eq_true, if_false]
  rw [if_pos ⟨trivial, ha⟩]
  rfl

theorem classF_noAnswer (hm : s.mode = .psd) (hp : s.priv = true) (h : s.devAt (channelOf r k s) = some d)
    (hc : d.cls = 0xF) (hr : s.chanReplies = none :: rest) (hop : op ≠ .wcwcs) :
    classF op r k s = .ok () ({ s with chanReplies := rest }.setCC (ccAnswer .inoperable)) := by
  have hdev : s.devAt (bits (channelAddr r k s) 1 7) = some d := h
  have hnext : nextReply s = (none, { s with chanReplies := rest }) := by
    unfold nextReply
    rw [hr]
  rw [classF, requirePsdPriv_bind hm hp]
  simp only [hdev, inClassF_eq_true hc, Bool.not_true, Bool.false_eq_true, if_false, hop, false_and, hnext]

end Answered

/-- Every Class F instruction is one operation (R680). -/
theorem exec_classF (s : State) {r : Reg} {k : Half} {p : Instr × ChanOp}
    (hp : p ∈ [(Instr.sio r k, ChanOp.sio), (.tio r k, .tio), (.stpio r k, .stpio), (.rschnl r k, .rschnl),
      (.hio r k, .hio), (.grio r k, .grio), (.rsctl r k, .rsctl), (.ecwcs r k, .ecwcs), (.eci r k, .eci),
      (.dci r k, .dci), (.aci r k, .aci), (.daci r k, .daci), (.wcwcs r k, .wcwcs)]) :
    exec p.1 s = perform .word (classF p.2 r k) s ∧ effectOf p.1 = classF p.2 r k := by
  simp only [List.mem_cons, List.not_mem_nil, or_false] at hp
  rcases hp with rfl | rfl | rfl | rfl | rfl | rfl | rfl | rfl | rfl | rfl | rfl | rfl | rfl <;> exact ⟨rfl, rfl⟩

end Sys2Proof.Machine

namespace Sys2Proof.Proofs

open Sys2Proof.Machine

/-- Settles O45: each operation by `perform_accepted` and its `acceptedEffect`. -/
theorem channelInstructions : Obligations.ChannelInstructions := by
  intro s r k d a status rest hq hm hp ho w chan sub hd hcls hrep ha hv icb l disarmed cc plain
  have hchan : channelOf r k (s.start .word) = chan := channelOf_eq r k s
  have hsub : subOf r k (s.start .word) = sub := subOf_eq r k s
  have hstatus : a ≠ .statusStored := by rcases ha with rfl | rfl <;> exact nofun
  have reached (op : ChanOp) (harmed : op = .wcwcs → s.ecwcsArmed = some chan)
      (hlist : op.sendsList = true → s.present (icb + 16) .word = true) :
      Reached op r k d ⟨a, status⟩ rest (s.start .word) :=
    ⟨hm, hp, hq.alone, ho, hchan ▸ hd, hcls, hchan ▸ harmed, hrep, hv, hlist, fun h => absurd h hstatus⟩
  have accepted (op : ChanOp) (hne : op ≠ .ecwcs) (h : Reached op r k d ⟨a, status⟩ rest (s.start .word)) :=
    perform_accepted_of_ne hq h ha hchan hsub hne
  refine ⟨fun p hop => ?plain, fun hlist => ?list, ?ecwcs, ?rschnl, ?eci, ?dci, ?aci, ?daci⟩
  case plain =>
    simp only [List.mem_cons, List.not_mem_nil, or_false] at hop
    rcases hop with rfl | rfl | rfl | rfl | rfl
    · obtain ⟨t, ht, hend, rfl⟩ := accepted .tio nofun (reached _ nofun nofun)
      exact ⟨_, ht, hend, rfl⟩
    · obtain ⟨t, ht, hend, rfl⟩ := accepted .stpio nofun (reached _ nofun nofun)
      exact ⟨_, ht, hend, rfl⟩
    · obtain ⟨t, ht, hend, rfl⟩ := accepted .hio nofun (reached _ nofun nofun)
      exact ⟨_, ht, hend, rfl⟩
    · obtain ⟨t, ht, hend, rfl⟩ := accepted .grio nofun (reached _ nofun nofun)
      exact ⟨_, ht, hend, rfl⟩
    · obtain ⟨t, ht, hend, rfl⟩ := accepted .rsctl nofun (reached _ nofun nofun)
      exact ⟨_, ht, hend, rfl⟩
  case list =>
    intro list p hop harmed
    simp only [List.mem_cons, List.not_mem_nil, or_false] at hop
    rcases hop with rfl | rfl
    · obtain ⟨t, ht, hend, rfl⟩ := accepted .sio nofun (reached _ nofun fun _ => hlist)
      exact ⟨_, ht, hend, rfl⟩
    · obtain ⟨t, ht, hend, rfl⟩ := accepted .wcwcs nofun (reached _ harmed fun _ => hlist)
      exact ⟨_, ht, hend, rfl⟩
  case ecwcs =>
    obtain ⟨t, ht, hend, rfl⟩ := perform_accepted hq (reached .ecwcs nofun nofun) ha hchan hsub
    refine ⟨_, ht, hend, ?_⟩
    rw [messaged_ecwcs]
    rfl
  case rschnl =>
    obtain ⟨t, ht, hend, rfl⟩ := accepted .rschnl nofun (reached _ nofun nofun)
    exact ⟨_, ht, hend, rfl, levelSet_putBit _ _ _, levelSet_putBit _ _ _⟩
  case eci =>
    obtain ⟨t, ht, hend, rfl⟩ := accepted .eci nofun (reached _ nofun nofun)
    exact ⟨_, ht, hend, rfl, levelSet_putBit _ _ _⟩
  case dci =>
    obtain ⟨t, ht, hend, rfl⟩ := accepted .dci nofun (reached _ nofun nofun)
    exact ⟨_, ht, hend, rfl, levelSet_putBit _ _ _⟩
  case aci =>
    obtain ⟨t, ht, hend, rfl⟩ := accepted .aci nofun (reached _ nofun nofun)
    exact ⟨_, ht, hend, rfl, levelSet_putBit _ _ _, levelSet_putBit _ _ _⟩
  case daci =>
    obtain ⟨t, ht, hend, rfl⟩ := accepted .daci nofun (reached _ nofun nofun)
    exact ⟨_, ht, hend, rfl, levelSet_putBit _ _ _⟩

/-- Settles O46: `perform_refused`, with the store of the status address as the one change of memory. -/
theorem channelRefusals : Obligations.ChannelRefusals := by
  intro s r k hq hm hp w chan sub all disarmed
  have hchan : channelOf r k (s.start .word) = chan := channelOf_eq r k s
  have hsub : subOf r k (s.start .word) = sub := subOf_eq r k s
  refine ⟨fun hd p hin => ?_, fun d hd hc p hin => ?_, fun d hd hc harmed => ?_, fun d rest hd hc hr p hin hne => ?_,
    fun d status rest hd hc ho hwf hv => ?_⟩
  · rw [(exec_classF s hin).1]
    obtain ⟨t, ht, hend, rfl⟩ := perform_classF hq (classF_noDevice (op := p.2) hm hp (hchan ▸ hd)) rfl
    exact ⟨_, ht, hend, rfl⟩
  · rw [(exec_classF s hin).2]
    exact classF_otherClass hm hp (hchan ▸ hd) hc
  · exact classF_unarmed (s := s.start .word) hm hp (hchan ▸ hd) hc (hchan ▸ harmed)
  · rw [(exec_classF s hin).1]
    obtain ⟨t, ht, hend, rfl⟩ :=
      perform_classF hq (classF_noAnswer (op := p.2) (s := s.start .word) hm hp (hchan ▸ hd) hc hr hne) rfl
    exact ⟨_, ht, hend, rfl⟩
  · intro icb hlist hstat a ha hrep p hin harmed
    have hcc : ccAnswer a.1 = a.2 ∧ a.1.accepts = false := by
      simp only [List.mem_cons, List.not_mem_nil, or_false] at ha
      rcases ha with rfl | rfl | rfl | rfl | rfl <;> exact ⟨rfl, rfl⟩
    have hreach : Reached p.2 r k d ⟨a.1, status⟩ rest (s.start .word) :=
      ⟨hm, hp, hq.alone, ho, hchan ▸ hd, hc, hchan ▸ harmed, hrep, hv, fun _ => hlist, fun _ => hstat⟩
    obtain ⟨t, ht, hend, rfl⟩ := perform_refused hq hreach hcc.2 hchan hsub
    refine ⟨_, (exec_classF s hin).1.trans ht, hend, ?_, fun hne => ?_, fun hst => ⟨?_, fun b hb => ?_⟩⟩
    · rw [hcc.1, listOf]
      simp only [ChanOp.sendsList, Bool.or_eq_true, decide_eq_true_eq]
      rfl
    · change (statusPut d.level ⟨a.1, status⟩ (s.start .word) (s.start .word)).mem = s.mem
      rw [statusPut_ne hne]
      rfl
    · rw [statusPut_stored hst]
      exact peek_poke_word s _ _ hwf
    · rw [statusPut_stored hst]
      exact byte_poke_ne s _ .word _ b hb

end Sys2Proof.Proofs
end

section
/-!
LPSD, LPSDCM and BRI (R602 to R605): what the load of a PSD puts in the registers, the MAP that it asks for, and the
level that BRI deactivates.
-/

namespace Sys2Proof.Machine

/-! ### The load of the MAP reads memory alone (R141, R142) -/

/-- What a load of the MAP looks at is the same in `s` and `t`, and nothing comes between. -/
structure MapAlike (s t : State) : Prop where
  mem : t.mem = s.mem
  cfg : t.cfg = s.cfg
  mapRegs : t.mapRegs = s.mapRegs
  parity : t.operandParity = s.operandParity
  base : t.mplBase = s.mplBase
  alone : s.between = []
  alone' : t.between = []

/-- An operation that answers in `s` answers the same in every state like it, and changes the MAP registers alone. -/
def MapOnly {α : Type} (f : State → Res α) : Prop :=
  ∀ ⦃s t u : State⦄ ⦃a : α⦄, MapAlike s t → f s = .ok a u →
    f t = .ok a { t with mapRegs := u.mapRegs } ∧ MapAlike u { t with mapRegs := u.mapRegs }

section MapOnly

variable {α β : Type} {s t : State} {err : MemErr → Trap}

theorem MapAlike.peek (h : MapAlike s t) (a : Nat) (n : Size) : t.peek a n = s.peek a n := by
  cases n <;> simp only [State.peek, State.byte, h.mem]

theorem MapAlike.present (h : MapAlike s t) (a : Addr) (n : Size) : t.present a n = s.present a n := by
  simp only [State.present, State.installed, h.cfg]

/-- Writing MAP registers keeps two states alike. -/
theorem MapAlike.withMap (h : MapAlike s t) (s' : State) (hs : s' = { s with mapRegs := s'.mapRegs }) :
    MapAlike s' { t with mapRegs := s'.mapRegs } := by
  rw [hs]
  exact ⟨h.mem, h.cfg, rfl, h.parity, h.base, h.alone, h.alone'⟩

theorem MapOnly.ok (a : α) : MapOnly fun s => .ok a s := by
  intro s t u b h hu
  cases hu
  rw [← h.mapRegs]
  exact ⟨rfl, h⟩

theorem MapOnly.stop (e : Stop) : MapOnly fun s => (.stop e s : Res α) := fun _ _ _ _ _ h => by cases h

theorem MapOnly.bind {f : State → Res α} {g : α → State → Res β} (hf : MapOnly f) (hg : ∀ a, MapOnly (g a)) :
    MapOnly fun s => (f s).bind g := by
  intro s t w b h hw
  obtain ⟨a, u, hfu, hgw⟩ := Res.bind_eq_ok hw
  obtain ⟨hft, hu⟩ := hf h hfu
  obtain ⟨hgt, hw⟩ := hg a hu hgw
  exact ⟨(congrArg (Res.bind · g) hft).trans hgt, hw⟩

/-- A read of memory, at an address that may depend on the Master Process List base. -/
theorem MapOnly.physRead (pa : Addr → Addr) (n : Size) : MapOnly fun s => physRead err (pa s.mplBase) n s := by
  intro s t u v h hu
  obtain ⟨hp, ho, -, -⟩ := physRead_ok hu
  obtain ⟨rfl, rfl⟩ := physRead_alone h.alone hu
  rw [← h.mapRegs]
  have hread := physRead_eq err h.alone' ((h.present _ n).trans hp) (h.parity.trans ?parity)
  · rw [h.peek, ← h.base] at hread
    exact ⟨hread.trans (by rw [h.base]), h⟩
  · exact ho

theorem mapOnly_setMapReg (i : BitVec 5) (v : Half) : MapOnly fun s => .ok () (s.setMapReg i v) := by
  intro s t u _ h hu
  cases hu
  refine ⟨?_, h.withMap _ rfl⟩
  simp only [State.setMapReg, h.mapRegs]

theorem mapOnly_loadEntries (n : Nat) (p : Addr) (cell : Nat) : MapOnly (loadEntries err n p cell) := by
  induction n generalizing p cell with
  | zero => exact .ok _
  | succ n ih =>
    by_cases hc : 31 < cell
    · intro s t u a _ h
      rw [loadEntries, if_pos hc] at h
      cases h
    · have hrest (v : Word) : MapOnly fun s =>
          loadEntries err n (p + 2) (cell + 1) (s.setMapReg (BitVec.ofNat 5 cell) (v.setWidth 16)) :=
        (mapOnly_setMapReg _ _).bind (g := fun _ => loadEntries err n (p + 2) (cell + 1)) fun _ => ih _ _
      have hstep := (MapOnly.physRead (err := err) (fun _ => p) .half).bind hrest
      intro s t u a h hu
      rw [loadEntries, if_neg hc] at hu ⊢
      exact hstep h hu

theorem mapOnly_loadSegments (n : Nat) (list : Addr) (cell : Nat) : MapOnly (loadSegments err n list cell) := by
  induction n generalizing list cell with
  | zero => exact .ok _
  | succ n ih =>
    exact (MapOnly.physRead (fun _ => list) .word).bind fun _ => (mapOnly_loadEntries _ _ _).bind fun _ => ih _ _

/-- A load of the MAP answers the same in states that are alike to it. -/
theorem mapOnly_loadMap (psd2 : Word) : MapOnly (loadMap err psd2) := by
  unfold loadMap
  refine (MapOnly.physRead (fun base => base + cpixOffset psd2) .word).bind fun mscd => ?_
  split
  · exact .ok _
  · split
    · exact (MapOnly.physRead (fun base => base + bpixOffset psd2) .word).bind fun bmscd =>
        (MapOnly.physRead (fun _ => addrOf bmscd) .word).bind fun _ =>
          (mapOnly_loadEntries _ _ _).bind fun _ => mapOnly_loadSegments _ _ _
    · exact mapOnly_loadSegments _ _ _

end MapOnly

/-! ### The registers of the new PSD (R602) -/

section Loaded

variable {s t u v : State} {w1 w2 : Word} {err : MemErr → Trap}

/-- LoadPSD in a state like the one for which the MAP is asked (R140, R602). -/
theorem loadPsd_mapFor (h : MapAlike s t) (hv : mapFor err w2 s v) :
    loadPsd err w1 w2 true t = .ok () ({ t with mapRegs := v.mapRegs }.withPsd w1 w2) := by
  have hload : (mapped w2 && true && !bitAt w2 15) = true ↔ ¬keepsMap w2 := by
    rw [mapped_eq, keepsMap]
    cases bitAt w2 0 <;> cases bitAt w2 1 <;> cases bitAt w2 15 <;> decide
  unfold loadPsd
  rcases hv with ⟨hk, rfl⟩ | ⟨hk, n, hn⟩
  · rw [if_neg fun hc => hload.mp hc hk, ← h.mapRegs]
  · rw [if_pos (hload.mpr hk), (mapOnly_loadMap w2 h hn).1]
    rfl

theorem loadPsd_keep : loadPsd err w1 w2 false s = .ok () (s.withPsd w1 w2) := by
  unfold loadPsd
  rw [Bool.and_false, Bool.false_and, if_neg Bool.false_ne_true]

/-- What the load of a PSD writes, from a state with the blocking and the scratchpad of `s`. -/
theorem loadedPsd_withPsd (hb : u.blocked = s.blocked) (hs : u.scratch = s.scratch) :
    LoadedPsd w1 w2 s (u.withPsd w1 w2) where
  priv := rfl
  cc := rfl
  ext := rfl
  aexp := rfl
  pc := rfl
  psd2 := rfl
  mapActive := mapped_eq w2
  blocked := by rw [← hb]; rfl
  stat := by
    have hu : u.stat = s.stat := congrArg (fun v : Vector Word 256 => v[cpuStatCell.toNat]) hs
    rw [← hu, State.withPsd, State.setBlocked, State.stat_setStatBit]
    change putBitAt (State.stat (State.setStatBit _ 24 _)) 26 _ = _
    rw [State.stat_setStatBit]
    rfl
  cells c hc := by
    have hu : u.cell c = s.cell c := by simp only [State.cell, hs]
    rw [← hu, State.withPsd, State.setBlocked, cell_setStatBit _ _ _ hc]
    exact cell_setStatBit _ _ _ hc

/-- The end of an instruction and the deactivation of a level write nothing of a PSD. -/
theorem LoadedPsd.of_eq {t' : State} (h : LoadedPsd w1 w2 s t)
    (ht : t' = { t with
      hist := t'.hist, blockCount := t'.blockCount, active := t'.active, request := t'.request, sent := t'.sent,
      run := t'.run, noIntNext := t'.noIntNext }) : LoadedPsd w1 w2 s t' := by
  rw [ht]
  exact ⟨h.priv, h.cc, h.ext, h.aexp, h.pc, h.psd2, h.mapActive, h.blocked, h.stat, h.cells⟩

/-- The count of a CPU that a PSD leaves blocked goes on (R756). -/
theorem withPsd_blockCount (h : u.blocked = true) (hb : (u.withPsd w1 w2).blocked = true) :
    (u.withPsd w1 w2).blockCount = u.blockCount :=
  if_pos (Bool.and_eq_true_iff.mpr ⟨hb, h⟩)

/-- The two words of a PSD are read in the order of their addresses (R604). -/
theorem readPsd {a pa : Addr} (hb : s.between = []) (ho : s.operandParity = false)
    (ht : s.translate .operand false (dwordAlign a) = .ok pa) (hp : s.installed pa.toNat 8 = true)
    (f : Word → Word → State → Res Unit) :
    ∃ v, ((memRead .operand (dwordAlign a) .word s).bind fun w1 s =>
      (memRead .operand (dwordAlign a + 4) .word s).bind fun w2 s => f w1 w2 s) =
        f (s.peek pa.toNat .word) (s.peek (pa.toNat + 4) .word) v ∧ onlyHalt s v := by
  obtain ⟨hhi, hlo⟩ := installed_words hp
  let u := s.askHalt (s.stops.read && s.stopHit pa .word)
  have hread : memRead .operand (dwordAlign a) .word s = .ok (s.peek pa.toNat .word) u := by
    rw [memRead_eq (n := .word) ht hhi ho, interleave_alone hb]
  obtain ⟨v, hv, huv⟩ := memRead_dword_low (s := u) hb ho ht hlo
  refine ⟨v, ?_, onlyHalt_trans (onlyHalt_askHalt s _) huv⟩
  rw [hread, Res.bind_ok, hv, Res.bind_ok]
  rfl

end Loaded

/-! ### LPSD and LPSDCM -/

section LoadStatus

variable {s u : State} {m : MemRef} {x : Target} {pa : Addr}

/-- LPSD and LPSDCM once the words are read (R604, R605). -/
theorem loadStatus_read (hb : s.between = []) (hm : s.mode = .psd) (hp : s.priv = true) (ho : s.operandParity = false)
    (hres : resolve .operand m s = .ok x u) (ht : u.translate .operand false (dwordAlign x.ea.addr) = .ok pa)
    (hpres : s.installed pa.toNat 8 = true) (mapload : Bool) :
    ∃ v, loadStatus m mapload s =
      loadPsd (switchErr false) (s.peek pa.toNat .word) (s.peek (pa.toNat + 4) .word) mapload v ∧ onlyHalt s v := by
  have hu := resolve_onlyHalt hb hres
  have hou : u.operandParity = false := by
    unfold onlyHalt at hu
    rw [hu]
    exact ho
  obtain ⟨v, hv, huv⟩ := readPsd (s := u) ((onlyHalt_between hu).trans hb) hou ht
    ((onlyHalt_installed hu _ _).trans hpres) (fun w1 w2 s => loadPsd (switchErr false) w1 w2 mapload s)
  refine ⟨v, ?_, onlyHalt_trans hu huv⟩
  rw [loadStatus, requirePsdPriv_bind hm hp, hres, Res.bind_ok, hv, onlyHalt_peek hu, onlyHalt_peek hu]

/-- An instruction that ends by loading a PSD. -/
theorem perform_withPsd {len : Len} {op : State → Res Unit} {w1 w2 : Word} {v : State} (hq : s.quiet)
    (h : op (s.start len) = .ok () (v.withPsd w1 w2))
    (hv : v = { s.start len with haltReq := v.haltReq, mapRegs := v.mapRegs }) :
    ∃ t, perform len op s = .next t ∧ LoadedPsd w1 w2 s t ∧ psdFrame { s with mapRegs := v.mapRegs } t := by
  have hblocked : v.blocked = s.blocked := by rw [hv]; rfl
  have hscratch : v.scratch = s.scratch := by rw [hv]; rfl
  refine ⟨_, perform_done_blocking h (fun hm he hu hs => ?_) (by rw [hv]; rfl),
    (loadedPsd_withPsd hblocked hscratch).of_eq rfl, ?_⟩
  · rw [withPsd_blockCount (hblocked.trans hs) hu]
    rw [hv] at hm he ⊢
    exact hq.noTimeout hm hs he
  · rw [hv]
    rfl

end LoadStatus

/-! ### BRI (R603, decision D48) -/

/-- The active level of highest priority is deactivated from `s` to `t`, a Class F channel told so. -/
def deactivated (s t : State) : Prop :=
  (s.active = 0 → t.active = 0 ∧ t.sent = s.sent) ∧
  (∀ l, s.highestActive l → levelSet l false s.active t.active ∧
    t.sent = if s.isClassF l then .deactivate l :: s.sent else s.sent)

theorem resetHighest_deactivates (s : State) :
    ∃ active sent, resetHighest s = { s with active := active, sent := sent } ∧
      deactivated s { s with active := active, sent := sent } := by
  by_cases h : s.active = 0
  · have hnone : lowest s.active = none := (lowest_eq_none_iff _).mpr ((levels_eq_zero_iff _).mp h)
    refine ⟨s.active, s.sent, by rw [resetHighest, hnone], fun _ => ⟨h, rfl⟩, fun l hl => ?_⟩
    exact absurd (hl.1.symm.trans ((levels_eq_zero_iff _).mp h l)) Bool.true_eq_false.mp
  · obtain ⟨l, hl⟩ := Option.ne_none_iff_exists'.mp fun hn =>
      h ((levels_eq_zero_iff _).mpr ((lowest_eq_none_iff _).mp hn))
    refine ⟨putBit s.active l.toNat false, if s.isClassF l then .deactivate l :: s.sent else s.sent, ?_,
      fun h0 => absurd h0 h, fun k hk => ?_⟩
    · rw [resetHighest, hl]
      dsimp only
      split <;> rfl
    · obtain rfl : l = k := Option.some.inj (hl.symm.trans ((lowest_eq_some_iff _ _).mpr hk))
      exact ⟨levelSet_putBit _ _ _, rfl⟩

section Bri

variable {s u : State} {m : MemRef}

/-- BRI once its branch or its load is made. -/
theorem perform_bri (hp : s.priv = true)
    (h : (if m.i then briLoad (s.combine m).addr (s.start .word)
      else .ok () ((s.start .word).setPc (branchPc (s.combine m)))) = .ok () u)
    (hdue : u.mode = .psd → u.bmtEn = true → u.blocked = true → s.blocked = true → u.blockCount < 128)
    (hr : u.run = s.run) :
    ∃ active sent, exec (.bri m) s = .next (finish .word s { u with active := active, sent := sent }) ∧
      deactivated u { u with active := active, sent := sent } := by
  obtain ⟨active, sent, hreset, hdone⟩ := resetHighest_deactivates u
  have hop : opBri m (s.start .word) = .ok () { u with active := active, sent := sent } := by
    rw [opBri, requirePriv_bind (s := s.start .word) hp, ← hreset]
    exact congrArg (Res.bind · fun _ s => .ok () (resetHighest s)) h
  exact ⟨active, sent, perform_done_blocking hop hdue hr, hdone⟩

theorem briLoad_psw {a pa : Addr} (hb : s.between = []) (hm : s.mode = .psw) (ho : s.operandParity = false)
    (ht : s.translate .operand false (wordAlign a) = .ok pa) (hp : s.present pa .word = true) :
    ∃ v, briLoad a s = .ok () (v.withPsw (s.peek pa.toNat .word)) ∧ onlyHalt s v := by
  refine ⟨_, ?_, onlyHalt_askHalt s (s.stops.read && s.stopHit pa .word)⟩
  rw [briLoad, hm]
  dsimp only
  rw [memRead_eq ht hp ho, interleave_alone hb]
  rfl

theorem briLoad_psd {a pa : Addr} (hb : s.between = []) (hm : s.mode = .psd) (ho : s.operandParity = false)
    (ht : s.translate .operand false (dwordAlign a) = .ok pa) (hp : s.installed pa.toNat 8 = true) :
    ∃ v, briLoad a s = loadPsd (switchErr false) (s.peek pa.toNat .word) (s.peek (pa.toNat + 4) .word) true v ∧
      onlyHalt s v := by
  obtain ⟨v, hv, hsv⟩ := readPsd hb ho ht hp fun w1 w2 s => loadPsd (switchErr false) w1 w2 true s
  refine ⟨v, ?_, hsv⟩
  rw [briLoad, hm]
  exact hv

end Bri

theorem MapAlike.of_onlyHalt {s v : State} (h : onlyHalt s v) (hb : s.between = []) : MapAlike s v := by
  unfold onlyHalt at h
  rw [h]
  exact ⟨rfl, rfl, rfl, rfl, rfl, hb, hb⟩

theorem MapAlike.of_start {len : Len} {s v : State} (h : MapAlike (s.start len) v) : MapAlike s v :=
  ⟨h.mem, h.cfg, h.mapRegs, h.parity, h.base, h.alone, h.alone'⟩

end Sys2Proof.Machine

namespace Sys2Proof.Proofs

open Sys2Proof.Machine

/-- Settles O40: `loadStatus_read` reads the two words, `perform_withPsd` loads them. -/
theorem loadsOfPsd : Obligations.LoadsOfPsd := by
  intro s m x u pa hq hm hp ho hres ht hpres w1 w2
  have read (mapload : Bool) := loadStatus_read (s := s.start .word) hq.alone hm hp ho hres ht hpres mapload
  refine ⟨?_, fun v hv => ?_⟩
  · obtain ⟨v, hload, hsv⟩ := read false
    rw [loadPsd_keep] at hload
    have hmap : v.mapRegs = s.mapRegs := by rw [hsv]; rfl
    obtain ⟨t, hnext, hloaded, hframe⟩ := perform_withPsd (op := opLpsd m) hq hload
      (hsv.trans (by rw [hmap]; rfl))
    rw [hmap] at hframe
    exact ⟨t, hnext, hloaded, hframe⟩
  · obtain ⟨v', hload, hsv⟩ := read true
    have hdone := hload.trans (loadPsd_mapFor (MapAlike.of_onlyHalt hsv hq.alone).of_start hv)
    exact perform_withPsd (op := opLpsdcm m) (v := { v' with mapRegs := v.mapRegs }) hq hdone (by rw [hsv])

/-- Settles O41: the branch or the load, then `resetHighest_deactivates`. -/
theorem branchAndResetInterrupt : Obligations.BranchAndResetInterrupt := by
  intro s m pa hq hp e deactivates
  refine ⟨fun hi => ?_, fun hi hm ho ht hpres => ?_, fun hi hm ho ht hpres v hv => ?_⟩
  · obtain ⟨active, sent, hnext, hdone⟩ := perform_bri (m := m) (u := (s.start .word).setPc (branchPc e)) hp
      (by rw [hi]; rfl) (fun hm he hb _ => hq.noTimeout hm hb he) rfl
    exact ⟨_, hnext, branchPc_eq e, rfl, hdone⟩
  · intro w
    obtain ⟨v, hload, hsv⟩ := briLoad_psw (s := s.start .word) hq.alone hm ho ht hpres
    obtain ⟨active, sent, hnext, hdone⟩ := perform_bri (m := m) hp ((if_pos hi).trans hload)
      (fun hm' => absurd (hm.symm.trans ((congrArg State.mode hsv).symm.trans hm')) nofun)
      (show v.run = s.run by rw [hsv]; rfl)
    rw [hsv] at hnext hdone
    exact ⟨_, hnext, rfl, rfl, hdone⟩
  · obtain ⟨v', hread, hsv⟩ := briLoad_psd (s := s.start .word) hq.alone hm ho ht hpres
    have hload := hread.trans (loadPsd_mapFor (MapAlike.of_onlyHalt hsv hq.alone).of_start hv)
    rw [hsv] at hload
    obtain ⟨active, sent, hnext, hdone⟩ := perform_bri (m := m) hp ((if_pos hi).trans hload)
      (fun hm' he hb hs =>
        (withPsd_blockCount (w1 := s.peek pa.toNat .word) hs hb).trans_lt (hq.noTimeout hm' hs he)) rfl
    have hloaded := loadedPsd_withPsd (s := s) (w1 := s.peek pa.toNat .word) (w2 := s.peek (pa.toNat + 4) .word)
      (u := { s.start .word with haltReq := v'.haltReq, mapRegs := v.mapRegs }) rfl rfl
    exact ⟨_, hnext, hloaded.of_eq rfl, rfl, hdone⟩

end Sys2Proof.Proofs
end

section
/-!
Execute (R607 to R610): the target's own effect runs in the address and the length of the Execute instruction.
-/

namespace Sys2Proof.Machine

/-! ### What may be a target (decisions D47, D53) -/

theorem targetOp_eq_none_iff (i : Instr) : targetOp i = none ↔ (needsPsd i || isExecute i) = true := by
  constructor
  · intro h
    cases i <;> cases h <;> rfl
  · intro h
    cases i <;> cases h <;> rfl

theorem targetOp_eq_some {i : Instr} (hp : needsPsd i = false) (he : isExecute i = false) :
    targetOp i = some (effectOf i) := by
  cases h : targetOp i with
  | none => exact absurd ((targetOp_eq_none_iff i).mp h) (by rw [hp, he]; decide)
  | some f => rw [(targetOp_some h).1]

theorem isExecute_eq_true {i : Instr} (h : ∃ q m, i = .exr q ∨ i = .exrr q ∨ i = .exm m) : isExecute i = true := by
  obtain ⟨q, m, rfl | rfl | rfl⟩ := h <;> rfl

theorem isExecute_eq_false {i : Instr} (h : ∀ q m, i ≠ .exr q ∧ i ≠ .exrr q ∧ i ≠ .exm m) : isExecute i = false := by
  cases i with
  | exr q => exact absurd rfl (h q ⟨0, false, 0⟩).1
  | exrr q => exact absurd rfl (h q ⟨0, false, 0⟩).2.1
  | exm m => exact absurd rfl (h 0 m).2.2
  | _ => rfl

/-- The right halfword alone, in the left half of a word. -/
theorem right_half_eq (w : Word) : bits w 16 16 ++ (0 : Half) = w <<< 16 := by
  apply BitVec.eq_of_toNat_eq
  rw [append_toNat, bits_toNat, BitVec.toNat_shiftLeft, Nat.shiftLeft_eq]
  simp only [BitVec.ofNat_eq_ofNat, BitVec.toNat_ofNat]
  omega

theorem fetchImage_eq (w : Word) (a : Addr) :
    fetchImage w (bitAt a 22) = if a.toNat / 2 % 2 = 1 then w <<< 16 else w := by
  rw [fetchImage, right_half_eq, bitAt_eq_decide]
  simp only [decide_eq_true_eq]
  rfl

/-! ### The outcome of a target -/

theorem executeTarget_plain {image : Word} {j : Instr} {s : State} (h : decode image = .ok j)
    (hp : needsPsd j = false) (he : isExecute j = false) : executeTarget image s = effectOf j s := by
  simp only [executeTarget, h, targetOp_eq_some hp he]

theorem executeTarget_refused {image : Word} {j : Instr} {s : State} (h : decode image = .ok j)
    (hj : (needsPsd j || isExecute j) = true) : executeTarget image s = .stop (.trap (.undefined false)) s := by
  simp only [executeTarget, h, (targetOp_eq_none_iff j).mpr hj]
  rfl

theorem executeTarget_undefined {image : Word} {e : DecodeError} {s : State} (h : decode image = .error e) :
    executeTarget image s = .stop (.trap (.undefined false)) s := by
  simp only [executeTarget, h]
  rfl

/-- The Execute instruction `i` has the effect of the target of the image, in the state `v`. -/
def doesTarget (s : State) (i : Instr) (image : Word) (v : State) : Prop :=
  (∀ j, decode image = .ok j → needsPsd j = false → (∀ q m', j ≠ .exr q ∧ j ≠ .exrr q ∧ j ≠ .exm m') →
    effectOf i (s.start .word) = effectOf j v ∧
    (∀ t, s.quiet → effectOf j v = .ok () t → effectRegs v t → exec i s = .next (finish .word s t))) ∧
  (∀ j, decode image = .ok j → (needsPsd j = true ∨ ∃ q m', j = .exr q ∨ j = .exrr q ∨ j = .exm m') →
    effectOf i (s.start .word) = .stop (.trap (.undefined false)) v) ∧
  (∀ e, decode image = .error e → effectOf i (s.start .word) = .stop (.trap (.undefined false)) v)

section Target

variable {s v : State} {i : Instr} {image : Word}

theorem doesTarget_of_effect (hi : i.len = .word) (h : effectOf i (s.start .word) = executeTarget image v)
    (hv : s.quiet → onlyHalt (s.start .word) v) : doesTarget s i image v := by
  refine ⟨fun j hj hpsd hex => ?_, fun j hj hbad => ?_, fun e he => h.trans (executeTarget_undefined he)⟩
  · have heff := h.trans (executeTarget_plain hj hpsd (isExecute_eq_false hex))
    refine ⟨heff, fun t hq ht hregs => ?_⟩
    rw [exec_eq, hi]
    exact (perform_regs hq (heff.trans ht) (effectRegs_trans (effectRegs_of_onlyHalt (hv hq)) hregs)).1
  · refine h.trans (executeTarget_refused hj ?_)
    rw [Bool.or_eq_true]
    exact hbad.imp_right isExecute_eq_true

/-- TRR as the target. -/
theorem runs_trr {rd rs : Reg} (hq : s.quiet) (h : doesTarget s i (encode (.trr rd rs)) v)
    (hi : i.len = .word) (hv : onlyHalt (s.start .word) v) :
    ∃ t, exec i s = .next t ∧ onlyRegs s t ∧ Ended .word s t ∧ wroteWord rd (s.reg rs) false s t := by
  have hdec : decode (encode (.trr rd rs)) = .ok (.trr rd rs) := Proofs.decodeEncode (.trr rd rs) rfl
  obtain ⟨heff, -⟩ := h.1 (.trr rd rs) hdec rfl fun _ _ => ⟨nofun, nofun, nofun⟩
  have hregs : effectRegs (s.start .word) (putWord rd (v.reg rs) v) :=
    effectRegs_trans (effectRegs_of_onlyHalt hv) rfl
  obtain ⟨ht, honly, hend⟩ := perform_regs_ended hq (u := putWord rd (v.reg rs) v) heff hregs (onlyHalt_pc hv)
    (onlyHalt_lastBix hv)
  rw [exec_eq, hi]
  rw [onlyHalt_reg hv] at ht honly hend
  exact ⟨_, ht, honly, hend, wroteWord_finish (s := s) fun q => onlyHalt_reg hv q⟩

variable {m : MemRef} {x : Target} {u : State} {w : Word}

theorem doesTarget_exr (r : Reg) : doesTarget s (.exr r) (s.reg r) (s.start .word) :=
  doesTarget_of_effect rfl rfl fun _ => onlyHalt_refl _

theorem doesTarget_exrr (r : Reg) : doesTarget s (.exrr r) (s.reg r <<< 16) (s.start .word) :=
  doesTarget_of_effect rfl (by rw [← right_half_eq]; rfl) fun _ => onlyHalt_refl _

/-- The word that EXM reads leaves at most a halt asked for. -/
theorem exm_onlyHalt (hq : s.quiet) (hres : resolve .operand m (s.start .word) = .ok x u)
    (hread : memRead .operand (wordAlign x.ea.addr) .word u = .ok w v) : onlyHalt (s.start .word) v :=
  have hu := resolve_onlyHalt (s := s.start .word) hq.alone hres
  onlyHalt_trans hu (memRead_onlyHalt ((onlyHalt_between hu).trans hq.alone) hread)

theorem doesTarget_exm (hres : resolve .operand m (s.start .word) = .ok x u)
    (hread : memRead .operand (wordAlign x.ea.addr) .word u = .ok w v) :
    doesTarget s (.exm m) (if x.ea.addr.toNat / 2 % 2 = 1 then w <<< 16 else w) v := by
  refine doesTarget_of_effect rfl ?_ fun hq => exm_onlyHalt hq hres hread
  change opExm m (s.start .word) = _
  rw [opExm, hres, Res.bind_ok, hread, Res.bind_ok, fetchImage_eq]

end Target

end Sys2Proof.Machine

namespace Sys2Proof.Proofs

open Sys2Proof.Machine

/-- Settles O42: each Execute instruction is `executeTarget` of its image (`doesTarget_of_effect`). -/
theorem executes : Obligations.Executes := by
  refine ⟨fun s r m => ⟨doesTarget_exr r, doesTarget_exrr r, fun x u w v hres hread => doesTarget_exm hres hread⟩,
    fun s r rd rs m hq => ⟨fun himage => ?_, fun himage => ?_, fun x u w v hres hread himage => ?_⟩⟩
  · exact runs_trr hq (himage ▸ doesTarget_exr r) rfl (onlyHalt_refl _)
  · exact runs_trr hq (himage ▸ doesTarget_exrr r) rfl (onlyHalt_refl _)
  · exact runs_trr hq (himage ▸ doesTarget_exm hres hread) rfl (exm_onlyHalt hq hres hread)

end Sys2Proof.Proofs
end

section
/-!
LF and STF (R243, R262): the words of one 32-byte block, counted modulo 8, on one page and neighbours in real memory.
-/

namespace Sys2Proof.Machine

/-! ### The words of a block -/

/-- Word `j`, modulo 8, of the block at `base` (decision D27). -/
def blockWord (base : Addr) (j : Nat) : Addr := base + BitVec.ofNat 24 (4 * (j % 8))

theorem blockWord_toNat {base : Addr} (h : base.toNat % 32 = 0) (j : Nat) :
    (blockWord base j).toNat = base.toNat + 4 * (j % 8) := by
  have := base.isLt
  rw [blockWord, BitVec.toNat_add, BitVec.toNat_ofNat]
  omega

theorem fileNext_toNat (a : Addr) : (fileNext a).toNat = a.toNat / 32 * 32 + (a.toNat / 4 + 1) % 8 * 4 + a.toNat % 4 := by
  have ha := a.isLt
  have hblock : (bits a 0 19).toNat = a.toNat / 2 ^ 5 % 2 ^ 19 := bits_toNat a 0 19
  have hword : (bits a 19 3 + 1).toNat = (a.toNat / 2 ^ 2 % 2 ^ 3 + 1) % 2 ^ 3 := by
    rw [BitVec.toNat_add, bits_toNat]
    rfl
  have hbyte : (bits a 22 2).toNat = a.toNat / 2 ^ 0 % 2 ^ 2 := bits_toNat a 22 2
  have hlow := append_toNat (bits a 0 19 ++ (bits a 19 3 + 1)) (bits a 22 2)
  have hhigh := append_toNat (bits a 0 19) (bits a 19 3 + 1)
  rw [fileNext]
  omega

theorem fileNext_blockWord {base : Addr} (h : base.toNat % 32 = 0) (j : Nat) :
    fileNext (blockWord base j) = blockWord base (j + 1) := by
  apply BitVec.eq_of_toNat_eq
  rw [fileNext_toNat, blockWord_toNat h, blockWord_toNat h]
  omega

theorem wordAlign_eq_blockWord (a : Addr) :
    wordAlign a = blockWord (BitVec.ofNat 24 (a.toNat / 32 * 32)) (a.toNat / 4 % 8) := by
  have ha := a.isLt
  apply BitVec.eq_of_toNat_eq
  rw [blockWord_toNat (by rw [BitVec.toNat_ofNat]; omega), wordAlign_toNat, BitVec.toNat_ofNat]
  omega

section Block

variable {s : State} {base pa : Addr}

/-- A field of an address above the block is that of every word of the block. -/
theorem bits_blockWord {i l : Nat} (h : base.toNat % 32 = 0) (hi : i + l ≤ 19) (j : Nat) :
    bits (blockWord base j) i l = bits base i l := by
  apply bits_of_toNat
  have hdiv (x : Nat) : x / 2 ^ (24 - i - l) = x / 32 / 2 ^ (19 - i - l) := by
    rw [Nat.div_div_eq_div_mul, show (32 : Nat) = 2 ^ 5 from rfl, ← pow_add]
    congr 2
    omega
  have hblock : (base.toNat + 4 * (j % 8)) / 32 = base.toNat / 32 := by omega
  rw [blockWord_toNat h, bits_toNat, hdiv, hdiv base.toNat, hblock]

theorem translate_blockWord {k : Access} {w : Bool} (h : base.toNat % 32 = 0)
    (ht : s.translate k w base = .ok pa) (j : Nat) : s.translate k w (blockWord base j) = .ok (blockWord pa j) := by
  have hpage : s.pageOf k (blockWord base j) = s.pageOf k base := by
    simp only [State.pageOf, bits_blockWord h (show 0 + 4 ≤ 19 by decide), bits_blockWord h (show 4 + 5 ≤ 19 by decide),
      bits_blockWord h (show 5 + 4 ≤ 19 by decide)]
  rcases translate_ok ht with ⟨hm, rfl⟩ | ⟨p, hm, hp, hv, hw, rfl⟩
  · exact translate_unmapped k w _ hm
  · have hreal : bits (s.mapReg p) 7 9 ++ bits (blockWord base j) 9 15 =
        blockWord (bits (s.mapReg p) 7 9 ++ bits base 9 15) j := by
      have hbase := base.isLt
      apply BitVec.eq_of_toNat_eq
      rw [blockWord_toNat (by rw [realAddr_eq, BitVec.toNat_ofNat]; omega), realAddr_eq, realAddr_eq,
        BitVec.toNat_ofNat, BitVec.toNat_ofNat, blockWord_toNat h]
      omega
    rw [translate_mapped w hm (hpage.trans hp), hv, hw, hreal]
    rfl

theorem block_mod {k : Access} {w : Bool} (h : base.toNat % 32 = 0) (ht : s.translate k w base = .ok pa) :
    pa.toNat % 32 = 0 := by
  have := translate_offset ht
  omega

theorem present_blockWord (h : pa.toNat % 32 = 0) (hi : s.installed pa.toNat 32 = true) (j : Nat) :
    s.present (blockWord pa j) .word = true := by
  simp only [State.present, blockWord_toNat h, Size.bytes, installed_iff] at hi ⊢
  obtain ⟨hmem, hholes⟩ := hi
  refine ⟨by omega, fun x hx => ?_⟩
  have := hholes x hx
  omega

theorem storesTo_blockWord (h : base.toNat % 32 = 0) (hst : storesTo s base .word pa)
    (hi : s.installed pa.toNat 32 = true) (j : Nat) : storesTo s (blockWord base j) .word (blockWord pa j) where
  real := translate_blockWord h hst.real j
  permitted := by
    have hmod := block_mod h hst.real
    have hpage : s.pageProtected (blockWord pa j) = s.pageProtected pa :=
      pageProtected_congr (by rw [blockWord_toNat hmod]; omega)
    rw [hpage]
    exact hst.permitted
  present := present_blockWord (block_mod h hst.real) hi j

/-! ### LF -/

/-- `n` words of the block at the real address `pa`, from word `j` on. -/
def blockWords (s : State) (pa : Addr) (j n : Nat) : List Word :=
  (List.range' j n).map fun i => s.peek (pa.toNat + 4 * (i % 8)) .word

theorem readFile_blockWords (h : base.toNat % 32 = 0) (hb : s.between = []) (ho : s.operandParity = false)
    (ht : s.translate .operand false base = .ok pa) (hi : s.installed pa.toNat 32 = true) (j n : Nat) :
    ∃ t, readFile n (blockWord base j) s = .ok (blockWords s pa j n) t ∧ onlyHalt s t := by
  induction n generalizing j s with
  | zero => exact ⟨s, rfl, rfl⟩
  | succ n ih =>
    have hmod := block_mod h ht
    have hread := memRead_eq (translate_blockWord h ht j) (present_blockWord hmod hi j) ho
    rw [interleave_alone hb, blockWord_toNat hmod] at hread
    obtain ⟨t, hrest, hst⟩ := @ih (s.askHalt (s.stops.read && s.stopHit (blockWord pa j) .word)) hb ho ht hi (j + 1)
    refine ⟨t, ?_, onlyHalt_trans (onlyHalt_askHalt s _) hst⟩
    rw [readFile, hread, Res.bind_ok, fileNext_blockWord h, hrest]
    rfl

theorem setFile_eq (r : Reg) (vs : List Word) (s : State) : setFile r vs s = { s with regs := (setFile r vs s).regs } := by
  induction vs generalizing r s with
  | nil => rfl
  | cons v vs ih =>
    rw [setFile, ih]
    rfl

/-- Registers before the first one are kept; those from it on hold the list, as far as it goes. -/
theorem reg_setFile (r : Reg) (vs : List Word) (s : State) (hn : r.toNat + vs.length ≤ 8) (q : Reg) :
    (setFile r vs s).reg q =
      if r.toNat ≤ q.toNat then (vs[q.toNat - r.toNat]?).getD (s.reg q) else s.reg q := by
  induction vs generalizing r s with
  | nil => simp [setFile]
  | cons v vs ih =>
    rw [List.length_cons] at hn
    cases vs with
    | nil =>
      simp only [setFile, State.reg_setReg]
      by_cases hq : q = r
      · simp [hq]
      · have hne : q.toNat ≠ r.toNat := fun h => hq (BitVec.eq_of_toNat_eq h)
        rw [if_neg hq]
        split
        · rw [List.getElem?_eq_none (by simp only [List.length_cons, List.length_nil]; omega)]
          rfl
        · rfl
    | cons w vs =>
      rw [List.length_cons] at hn
      have hr : (r + 1).toNat = r.toNat + 1 := by
        have h1 : (1 : BitVec 3).toNat = 1 := rfl
        rw [BitVec.toNat_add, h1]
        omega
      rw [setFile, ih (r + 1) (s.setReg r v) (by rw [hr, List.length_cons]; omega), hr, State.reg_setReg]
      by_cases hq : q = r
      · simp [hq]
      · have hne : q.toNat ≠ r.toNat := fun h => hq (BitVec.eq_of_toNat_eq h)
        rw [if_neg hq]
        by_cases hlt : r.toNat ≤ q.toNat
        · rw [if_pos hlt, if_pos (by omega), show q.toNat - r.toNat = q.toNat - (r.toNat + 1) + 1 by omega,
            List.getElem?_cons_succ]
        · rw [if_neg hlt, if_neg (by omega)]

theorem reg_setFile_lt (r : Reg) (vs : List Word) (s : State) {q : Reg} (hq : q.toNat < r.toNat)
    (hn : r.toNat + vs.length ≤ 8) : (setFile r vs s).reg q = s.reg q := by
  rw [reg_setFile r vs s hn, if_neg (by omega)]

theorem length_blockWords (s : State) (pa : Addr) (j n : Nat) : (blockWords s pa j n).length = n := by
  rw [blockWords, List.length_map, List.length_range']

/-- LF puts word `first + i` of the block in register `r + i`. -/
theorem reg_setFile_blockWords {u : State} (r q : Reg) (pa : Addr) (j : Nat) (h : r.toNat ≤ q.toNat) :
    (setFile r (blockWords s pa j (fileCount r)) u).reg q =
      s.peek (pa.toNat + 4 * ((j + (q.toNat - r.toNat)) % 8)) .word := by
  have hr := r.isLt
  have hq := q.isLt
  have hlen : (blockWords s pa j (fileCount r)).length = 8 - r.toNat := by
    rw [length_blockWords, fileCount]
  rw [reg_setFile _ _ _ (by rw [hlen]; omega), if_pos h, blockWords, List.getElem?_map,
    List.getElem?_range' (by rw [fileCount]; omega), one_mul]
  rfl

/-! ### STF -/

theorem onlyStored_installed {s t : State} (h : onlyStored s t) (a n : Nat) : t.installed a n = s.installed a n := by
  unfold onlyStored at h
  rw [h]
  rfl

theorem onlyStored_reg {s t : State} (h : onlyStored s t) (r : Reg) : t.reg r = s.reg r := by
  unfold onlyStored at h
  rw [h]
  rfl

/-- `n` registers from `r` on stand in the block at the real address `pa`, from word `j` on; no other byte has
changed. -/
structure WroteFile (pa : Nat) (r : Reg) (j n : Nat) (s t : State) : Prop where
  frame : onlyStored s t
  wf : Memory.wf t.mem = true
  words : ∀ i < n, t.peek (pa + 4 * ((j + i) % 8)) .word = s.reg (r + BitVec.ofNat 3 i)
  others : ∀ b, (∀ i < n, b < pa + 4 * ((j + i) % 8) ∨ pa + 4 * ((j + i) % 8) + 4 ≤ b) → t.byte b = s.byte b

theorem writeFile_wroteFile (h : base.toNat % 32 = 0) (hb : s.between = []) (hw : Memory.wf s.mem = true)
    (hst : storesTo s base .word pa) (hi : s.installed pa.toNat 32 = true) (r : Reg) (j : Nat) {n : Nat} (hn : n ≤ 8) :
    ∃ t, writeFile n r (blockWord base j) s = .ok () t ∧ WroteFile pa.toNat r j n s t := by
  induction n generalizing r j s with
  | zero => exact ⟨s, rfl, rfl, hw, fun i hi => absurd hi (Nat.not_lt_zero i), fun _ _ => rfl⟩
  | succ n ih =>
    have hmod := block_mod h hst.real
    obtain ⟨u, hwrite, hpoked⟩ := memWrite_poked (s.reg r) hb (storesTo_blockWord h hst hi j)
    rw [blockWord_toNat hmod] at hpoked
    obtain ⟨t, hrest, hfile⟩ := @ih u ((onlyStored_between hpoked.frame).trans hb) (hpoked.wf hw)
      (storesTo_of_onlyStored hpoked.frame hst) ((onlyStored_installed hpoked.frame _ _).trans hi) (r + 1) (j + 1)
      (by omega)
    refine ⟨t, ?_, onlyStored_trans hpoked.frame hfile.frame, hfile.wf, fun i hi => ?_, fun b hout => ?_⟩
    · rw [writeFile, hwrite, Res.bind_ok, fileNext_blockWord h, hrest]
    · cases i with
      | zero =>
        have hkept (b : Nat) (hin : b < pa.toNat + 4 * (j % 8) + 4) (hle : pa.toNat + 4 * (j % 8) ≤ b) :
            t.byte b = u.byte b := hfile.others b fun i hi => by omega
        have hpeek : t.peek (pa.toNat + 4 * (j % 8)) .word = u.peek (pa.toNat + 4 * (j % 8)) .word := by
          simp only [State.peek]
          rw [hkept _ (by omega) (by omega), hkept _ (by omega) (by omega), hkept _ (by omega) (by omega),
            hkept _ (by omega) (by omega)]
        exact hpeek.trans ((hpoked.peek_word hw).trans (congrArg s.reg (BitVec.add_zero r).symm))
      | succ i =>
        rw [show j + (i + 1) = j + 1 + i by omega, hfile.words i (by omega), onlyStored_reg hpoked.frame]
        congr 1
        rw [show i + 1 = 1 + i by omega, BitVec.ofNat_add, BitVec.add_assoc]
        rfl
    · refine (hfile.others b fun i hi => ?_).trans (hpoked.others b (hout 0 (by omega)))
      rw [show j + 1 + i = j + (i + 1) by omega]
      exact hout (i + 1) (by omega)

end Block

end Sys2Proof.Machine

namespace Sys2Proof.Proofs

open Sys2Proof.Machine

/-- Settles O16: `readFile_blockWords` and `writeFile_wroteFile`, one word after the other. -/
theorem files : Obligations.Files := by
  intro s r m x u hq _ hres block first
  have hu : onlyHalt (s.start .word) u := resolve_onlyHalt (s := s.start .word) hq.alone hres
  have hea := x.ea.addr.isLt
  have hblock : block.toNat % 32 = 0 := by
    simp only [block, BitVec.toNat_ofNat]
    omega
  have hbu : u.between = [] := (onlyHalt_between hu).trans hq.alone
  refine ⟨fun pa ht hi ho => ?_, fun pa hst hi hw => ?_⟩
  · have hou : u.operandParity = false := by rw [hu]; exact ho
    obtain ⟨v, hread, huv⟩ := readFile_blockWords (n := fileCount r) (j := first) hblock hbu hou ht
      ((onlyHalt_installed hu _ _).trans hi)
    have hv := onlyHalt_trans hu huv
    have hop : opLf r m (s.start .word) = .ok () (setFile r (blockWords u pa first (fileCount r)) v) := by
      rw [opLf, hres, Res.bind_ok, wordAlign_eq_blockWord, hread, Res.bind_ok]
    have hregs := effectRegs_of_onlyHalt hv
    obtain ⟨hnext, honly, hend⟩ := perform_regs_ended hq hop
      (by rw [setFile_eq]; exact effectRegs_trans hregs rfl) (by rw [setFile_eq]; exact onlyHalt_pc hv)
      (by rw [setFile_eq]; exact onlyHalt_lastBix hv)
    refine ⟨_, hnext, honly, hend, ?_, fun q hqr => ?_, fun q hqr => ?_⟩
    · rw [setFile_eq]
      exact (onlyHalt_cc hv).trans rfl
    · rw [finish_reg, reg_setFile_lt _ _ _ hqr (by rw [length_blockWords, fileCount]; omega)]
      exact onlyHalt_reg hv q
    · rw [finish_reg, reg_setFile_blockWords _ _ _ _ hqr]
      exact onlyHalt_peek hu _ _
  · have hsu := onlyStored_of_onlyHalt hu
    obtain ⟨v, hwrite, hfile⟩ := writeFile_wroteFile (n := fileCount r) hblock hbu (by rw [hu]; exact hw) hst
      ((onlyHalt_installed hu _ _).trans hi) r first (Nat.sub_le _ _)
    have hv := onlyStored_trans hsu hfile.frame
    have hop : opStf r m (s.start .word) = .ok () v := by
      rw [opStf, hres, Res.bind_ok, wordAlign_eq_blockWord, hwrite]
    obtain ⟨hnext, honly, hend⟩ := perform_mem_ended hq hop (effectMem_of_onlyStored hv) (onlyStored_pc hv)
      (onlyStored_lastBix hv)
    have hindex (q : Reg) (hqr : r.toNat ≤ q.toNat) :
        q.toNat - r.toNat < fileCount r ∧ r + BitVec.ofNat 3 (q.toNat - r.toNat) = q := by
      have hq := q.isLt
      refine ⟨by rw [fileCount]; omega, BitVec.eq_of_toNat_eq ?_⟩
      rw [BitVec.toNat_add, BitVec.toNat_ofNat]
      omega
    refine ⟨_, hnext, honly, hend, (onlyStored_cc hv).trans rfl, hfile.wf, fun q hqr => ?_, fun b hb => ?_⟩
    · obtain ⟨hlt, hreg⟩ := hindex q hqr
      have hword := hfile.words _ hlt
      rw [hreg] at hword
      exact hword.trans (onlyHalt_reg hu q)
    · refine (hfile.others b fun i hi => ?_).trans (onlyHalt_byte hu b)
      have hr := r.isLt
      have hi' : i < 8 - r.toNat := hi
      have hq : (r + BitVec.ofNat 3 i).toNat = r.toNat + i := by
        rw [BitVec.toNat_add, BitVec.toNat_ofNat]
        omega
      have hout := hb (r + BitVec.ofNat 3 i) (by omega)
      rw [hq, Nat.add_sub_cancel_left] at hout
      exact hout

end Sys2Proof.Proofs
end

section
/-!
The Arithmetic Exception (R749). An arithmetic instruction looks at the enables at its end alone: `Blind` is the rule for
the pieces that do not look at them, `ArithLast` for what ends with the check.
-/

namespace Sys2Proof.Machine

/-- `s` with the two enables of the Arithmetic Exception as given. -/
def State.withArith (s : State) (a : Bool) (e : BitVec 128) : State := { s with aexp := a, enabled := e }

/-- An operation that answers the same whatever the enables of the exception are, and leaves them. -/
def Blind {α : Type} (f : State → Res α) : Prop :=
  ∀ ⦃s t : State⦄ ⦃x : α⦄ (a : Bool) (e : BitVec 128), f s = .ok x t →
    f (s.withArith a e) = .ok x (t.withArith a e) ∧ t.mode = s.mode ∧ t.cfg = s.cfg

/-- An operation whose last act, where it completes, is the check of the exception. -/
def ArithLast (f : State → Res Unit) : Prop :=
  ∀ ⦃s u : State⦄ (a : Bool) (e : BitVec 128), f s = .ok () u →
    f (s.withArith a e) = arithCheck (u.withArith a e) ∧ u.mode = s.mode ∧ u.cfg = s.cfg

section Rules

variable {α β : Type}

theorem Blind.ok (x : α) : Blind fun s => .ok x s := by
  intro s t y a e h
  cases h
  exact ⟨rfl, rfl, rfl⟩

theorem Blind.bind {f : State → Res α} {g : α → State → Res β} (hf : Blind f) (hg : ∀ x, Blind (g x)) :
    Blind fun s => (f s).bind g := by
  intro s w y a e h
  obtain ⟨x, t, hft, hgw⟩ := Res.bind_eq_ok h
  obtain ⟨hf', hm, hc⟩ := hf a e hft
  obtain ⟨hg', hm', hc'⟩ := hg x a e hgw
  exact ⟨(congrArg (Res.bind · g) hf').trans hg', hm'.trans hm, hc'.trans hc⟩

/-- The rest is needed for the answers alone that the first part can give. -/
theorem ArithLast.bind_of {f : State → Res α} {g : α → State → Res Unit} (hf : Blind f)
    (hg : ∀ x s t, f s = .ok x t → ArithLast (g x)) : ArithLast fun s => (f s).bind g := by
  intro s w a e h
  obtain ⟨x, t, hft, hgw⟩ := Res.bind_eq_ok h
  obtain ⟨hf', hm, hc⟩ := hf a e hft
  obtain ⟨hg', hm', hc'⟩ := hg x s t hft a e hgw
  exact ⟨(congrArg (Res.bind · g) hf').trans hg', hm'.trans hm, hc'.trans hc⟩

theorem ArithLast.bind {f : State → Res α} {g : α → State → Res Unit} (hf : Blind f) (hg : ∀ x, ArithLast (g x)) :
    ArithLast fun s => (f s).bind g :=
  .bind_of hf fun x _ _ _ => hg x

theorem arithCheck_eq_ok {s u : State} (h : arithCheck s = .ok () u) : u = s := by
  unfold arithCheck at h
  split at h
  · cases h
  · cases h
    rfl

theorem ArithLast.check {h : State → State} (hh : ∀ s a e, h (s.withArith a e) = (h s).withArith a e)
    (hm : ∀ s, (h s).mode = s.mode) (hc : ∀ s, (h s).cfg = s.cfg) : ArithLast fun s => arithCheck (h s) := by
  intro s u a e hu
  obtain rfl := arithCheck_eq_ok hu
  exact ⟨congrArg arithCheck (hh s a e), hm s, hc s⟩

theorem arithCheck_passes {s : State} (h : s.cc.cc1 = false ∨ s.arithEnabled = false) : arithCheck s = .ok () s := by
  have hno : (s.cc.cc1 && s.arithEnabled) = false := Bool.and_eq_false_iff.mpr h
  rw [arithCheck, hno]
  rfl

end Rules

/-! ### Memory -/

theorem storeAll_withArith (l : List (Addr × Byte)) (s : State) (a : Bool) (e : BitVec 128) :
    storeAll l (s.withArith a e) = (storeAll l s).withArith a e := by
  induction l generalizing s with
  | nil => rfl
  | cons p l ih =>
    rw [storeAll, storeAll, ← ih]
    congr 1
    change (if s.present p.1 .byte = true then (s.withArith a e).setByte p.1.toNat p.2 else s.withArith a e) = _
    split <;> rfl

theorem interleave_withArith (s : State) (a : Bool) (e : BitVec 128) :
    (s.withArith a e).interleave = s.interleave.withArith a e := by
  unfold State.interleave
  rw [show (s.withArith a e).between = s.between from rfl]
  split
  · rfl
  · next l rest _ => exact storeAll_withArith l { s with between := rest } a e

theorem interleave_mode (s : State) : s.interleave.mode = s.mode := by rw [(interleave_spec s).1]

theorem interleave_cfg (s : State) : s.interleave.cfg = s.cfg := by rw [(interleave_spec s).1]

theorem poke_withArith (s : State) (p : Nat) (n : Size) (v : Word) (a : Bool) (e : BitVec 128) :
    (s.withArith a e).poke p n v = (s.poke p n v).withArith a e := by
  cases n <;> rfl

section Memory

variable {k : Access} {n : Size}

theorem blind_memRead (p : Addr) : Blind (memRead k p n) := by
  intro s t v a e h
  obtain ⟨pa, ht, hp, ho, rfl, rfl⟩ := memRead_ok h
  refine ⟨?_, interleave_mode s, interleave_cfg s⟩
  rw [memRead_eq (s := s.withArith a e) ht hp ho, interleave_withArith]
  rfl

theorem blind_memWrite (p : Addr) (v : Word) : Blind (memWrite p n v) := by
  intro s t x a e h
  obtain ⟨pa, ht, hw, hp, rfl⟩ := memWrite_ok h
  refine ⟨?_, ?_, ?_⟩
  · rw [memWrite_eq (s := s.withArith a e) v ⟨ht, hw, hp⟩, interleave_withArith, poke_withArith]
    rfl
  · rw [poke_eq]
    exact interleave_mode s
  · rw [poke_eq]
    exact interleave_cfg s

theorem blind_locked {α : Type} {f : State → Res α} (hf : Blind f) : Blind (locked f) := by
  intro s t x a e h
  unfold locked at h ⊢
  cases hx : f { s with between := [] } with
  | stop err u =>
    rw [hx] at h
    cases h
  | ok y u =>
    rw [hx] at h
    cases h
    obtain ⟨hu, hm, hc⟩ := hf a e hx
    exact ⟨by rw [show { s.withArith a e with between := [] } = State.withArith { s with between := [] } a e from rfl, hu]; rfl,
      hm, hc⟩

theorem blind_chase (fuel : Nat) (m : MemRef) (w : Option Word) : Blind (chase k fuel m w) := by
  induction fuel generalizing m w with
  | zero => intro s t x a e h; cases h
  | succ fuel ih =>
    intro s t x a e h
    unfold chase at h ⊢
    rw [show (s.withArith a e).combine m = s.combine m from rfl]
    split at h
    · next hi =>
      rw [if_pos hi]
      exact ((blind_memRead _).bind fun w => ih (memRefOf w) (some w)) a e h
    · next hi =>
      rw [if_neg hi]
      cases h
      exact ⟨rfl, rfl, rfl⟩

theorem blind_resolve (m : MemRef) : Blind (resolve k m) := fun _ _ _ a e h => blind_chase _ _ _ a e h

theorem blind_readAt (w : Width) (p : Addr) : Blind (readAt w p) := by
  cases w with
  | byte | half | word => exact (blind_memRead _).bind fun _ => .ok _
  | dword => exact ((blind_memRead _).bind fun _ => (blind_memRead _).bind fun _ => .ok _).bind fun _ => .ok _

theorem blind_writeAt (p : Addr) (o : Operand) : Blind (writeAt p o) := by
  cases o with
  | byte v | half v | word v => exact blind_memWrite _ _
  | dword v => exact (blind_memWrite _ _).bind fun _ => blind_memWrite _ _

theorem blind_operand (m : MemRef) : Blind (operand m) := (blind_resolve m).bind fun _ => blind_readAt _ _

theorem blind_floatOperand (m : MemRef) : Blind (floatOperand m) := (blind_resolve _).bind fun _ => blind_readAt _ _

theorem blind_operandNoDword (m : MemRef) : Blind (operandNoDword m) := by
  refine (blind_resolve m).bind fun x => ?_
  cases x.ea.width with
  | byte | half => exact (blind_memRead _).bind fun _ => .ok _
  | word | dword => exact blind_memRead _

end Memory

/-! ### The instructions -/

section Instructions

variable {m : MemRef} {r : Reg}

/-- A word or a doubleword put in registers, checked. -/
theorem arithLast_putWordOv (r : Reg) (x : State → Word × Bool) (hx : ∀ s a e, x (s.withArith a e) = x s) :
    ArithLast fun s => putWordOv r (x s) s :=
  .check (h := fun s => (s.setReg r (x s).1).setCC (ccArith (x s).2 (x s).1)) (fun s a e => by rw [hx]; rfl)
    (fun _ => rfl) fun _ => rfl

theorem arithLast_putDwordOv (r : Reg) (x : State → Dword × Bool) (hx : ∀ s a e, x (s.withArith a e) = x s) :
    ArithLast fun s => putDwordOv r (x s) s :=
  .check (h := fun s => (s.setPair r (x s).1).setCC (ccArith (x s).2 (x s).1)) (fun s a e => by rw [hx]; rfl)
    (fun _ => rfl) fun _ => rfl

theorem arithLast_loadNegative : ArithLast (loadNegative r m) := by
  refine .bind (blind_operand m) fun o => ?_
  cases o with
  | byte v | half v | word v => exact arithLast_putWordOv r (fun _ => _) fun _ _ _ => rfl
  | dword v => exact arithLast_putDwordOv r (fun _ => _) fun _ _ _ => rfl

theorem arithLast_addMemory : ArithLast (addMemory r m) := by
  refine .bind (blind_operand m) fun o => ?_
  cases o with
  | byte v | half v | word v => exact arithLast_putWordOv r (fun s => addOv (s.reg r) _) fun _ _ _ => rfl
  | dword v => exact arithLast_putDwordOv r (fun s => addOv (s.pair r) v) fun _ _ _ => rfl

theorem arithLast_subMemory : ArithLast (subMemory r m) := by
  refine .bind (blind_operand m) fun o => ?_
  cases o with
  | byte v | half v | word v => exact arithLast_putWordOv r (fun s => subOv (s.reg r) _) fun _ _ _ => rfl
  | dword v => exact arithLast_putDwordOv r (fun s => subOv (s.pair r) v) fun _ _ _ => rfl

theorem arithLast_divide (v : State → Word) (hv : ∀ s a e, v (s.withArith a e) = v s) :
    ArithLast fun s => divide r (v s) s := by
  intro s u a e h
  have hpair : (s.withArith a e).pair r = s.pair r := rfl
  simp only [divide, hv, hpair] at h ⊢
  cases hd : divFull (s.pair r) (v s) with
  | none =>
    rw [hd] at h
    obtain rfl := arithCheck_eq_ok h
    exact ⟨rfl, rfl, rfl⟩
  | some p =>
    rw [hd] at h
    cases h
    exact ⟨(arithCheck_passes (.inl rfl)).symm, rfl, rfl⟩

theorem arithLast_divMemory : ArithLast (divMemory r m) :=
  .bind (blind_operandNoDword m) fun v => arithLast_divide (fun _ => v) fun _ _ _ => rfl

theorem arithLast_floatOp (f : {n : Nat} → FNum → FNum → FResult n) : ArithLast (floatOp r m f) := by
  have hword (w : Word) : ArithLast fun s => putFloat r (f (fDecode (s.reg r)) (fDecode w)) s := by
    intro s u a e h
    have hreg : (s.withArith a e).reg r = s.reg r := rfl
    simp only [putFloat, hreg] at h ⊢
    split at h <;> obtain rfl := arithCheck_eq_ok h <;> exact ⟨rfl, rfl, rfl⟩
  have hdword (v : Dword) : ArithLast fun s => putFloatPair r (f (fDecode (s.pair r)) (fDecode v)) s := by
    intro s u a e h
    have hpair : (s.withArith a e).pair r = s.pair r := rfl
    simp only [putFloatPair, hpair] at h ⊢
    split at h <;> obtain rfl := arithCheck_eq_ok h <;> exact ⟨rfl, rfl, rfl⟩
  refine .bind (blind_floatOperand m) fun o => ?_
  cases o with
  | byte v | half v | word v => exact hword _
  | dword v => exact hdword v

theorem arithLast_opRnd : ArithLast (opRnd r) := by
  intro s u a e h
  have hreg (q : Reg) : (s.withArith a e).reg q = s.reg q := rfl
  unfold opRnd at h ⊢
  rw [hreg, hreg]
  split at h
  · next hb =>
    rw [if_pos hb]
    exact arithLast_putWordOv r (fun s => addOv (s.reg r) 1) (fun _ _ _ => rfl) a e h
  · next hb =>
    rw [if_neg hb]
    cases h
    exact ⟨(arithCheck_passes (.inl rfl)).symm, rfl, rfl⟩

theorem arithLast_opAbm (b : BitVec 3) : ArithLast (opAbm b m) :=
  .bind ((blind_resolve m).bind fun _ => .ok _) fun _ => .bind (blind_memRead _) fun _ =>
    .bind (blind_locked (blind_memWrite _ _)) fun _ => .check (fun _ _ _ => rfl) (fun _ => rfl) fun _ => rfl

/-- ARMB to ARMD on a word or a doubleword. -/
theorem addToMemory_withArith {s u v : State} {x : Target} (hres : resolve .operand m s = .ok x v)
    (hx : x.ea.width = .word ∨ x.ea.width = .dword) (h : addToMemory r m s = .ok () u) (a : Bool) (e : BitVec 128) :
    addToMemory r m (s.withArith a e) = arithCheck (u.withArith a e) ∧ u.mode = s.mode ∧ u.cfg = s.cfg := by
  obtain ⟨y, w, hres', hrest⟩ := Res.bind_eq_ok h
  cases hres.symm.trans hres'
  obtain ⟨o, w, hread, hlast⟩ := Res.bind_eq_ok hrest
  obtain ⟨hres'', hm, hc⟩ := blind_resolve m a e hres
  obtain ⟨hread', hm', hc'⟩ := blind_readAt _ _ a e hread
  have hwidth := readAt_width hread
  rw [addToMemory, hres'', Res.bind_ok, hread', Res.bind_ok, ← hm, ← hm', ← hc, ← hc']
  have hsum (o : Operand) (c : CC) :
      ArithLast fun s => (writeAt x.ea.addr o s).bind fun _ s => arithCheck (s.setCC c) :=
    .bind (blind_writeAt _ _) fun _ => .check (fun _ _ _ => rfl) (fun _ => rfl) fun _ => rfl
  cases o with
  | byte b | half b => rcases hx with hx | hx <;> cases hwidth.trans hx
  | word b | dword b => exact hsum _ _ a e hlast

/-- The instructions that report signed overflow, a division without a result or a range error in CC1; ARMB to ARMD
apart. -/
def isArith : Instr → Bool
  | .lnb _ _ | .lnh _ _ | .lnw _ _ | .lnd _ _ | .trn _ _ | .trnm _ _ | .adr _ _ | .adrm _ _ | .adi _ _ | .sur _ _
  | .surm _ _ | .sui _ _ | .admb _ _ | .admh _ _ | .admw _ _ | .admd _ _ | .sumb _ _ | .sumh _ _ | .sumw _ _
  | .sumd _ _ | .abr _ _ _ | .abm _ _ | .rnd _ | .sla _ _ | .slad _ _ | .dvmb _ _ | .dvmh _ _ | .dvmw _ _
  | .dvr _ _ | .dvi _ _ | .adfw _ _ | .adfd _ _ | .sufw _ _ | .sufd _ _ | .mpfw _ _ | .mpfd _ _ | .dvfw _ _
  | .dvfd _ _ => true
  | _ => false

theorem arithLast_effectOf {i : Instr} (hi : isArith i = true) : ArithLast (effectOf i) := by
  cases i with
  | lnb | lnh | lnw | lnd => exact arithLast_loadNegative
  | admb | admh | admw | admd => exact arithLast_addMemory
  | sumb | sumh | sumw | sumd => exact arithLast_subMemory
  | dvmb | dvmh | dvmw => exact arithLast_divMemory
  | dvr rd rs => exact arithLast_divide (fun s => s.reg rs) fun _ _ _ => rfl
  | dvi r v => exact arithLast_divide (fun _ => v.signExtend 32) fun _ _ _ => rfl
  | adfw | adfd => exact arithLast_floatOp fAdd
  | sufw | sufd => exact arithLast_floatOp fSub
  | mpfw | mpfd => exact arithLast_floatOp fMul
  | dvfw | dvfd => exact arithLast_floatOp fDiv
  | rnd => exact arithLast_opRnd
  | abm => exact arithLast_opAbm _
  | trn | trnm | adr | adrm | adi | sur | surm | sui | abr | sla | slad =>
    exact .check (fun _ _ _ => rfl) (fun _ => rfl) fun _ => rfl
  | _ => cases hi

end Instructions

/-! ### The exception as the end of an instruction -/

section Ends

variable {s u v : State} {i : Instr}

theorem withArith_arithEnabled (hm : u.mode = s.mode) (hc : u.cfg = s.cfg) :
    (u.withArith s.aexp s.enabled).arithEnabled = s.arithEnabled := by
  simp only [State.arithEnabled, State.enabledEff, State.withArith, hm, hc]

theorem arithCheck_raises (hc : s.cc.cc1 = true) (h : s.arithEnabled = true) :
    arithCheck s = .stop (.trap .arithmetic) s := by
  rw [arithCheck, hc, h]
  rfl

/-- An instruction that ends with the check raises the exception exactly where CC1 is set and the exception enabled. -/
theorem arithmetic_of_check (h : effectOf i (s.start i.len) = arithCheck (u.withArith s.aexp s.enabled))
    (hm : u.mode = s.mode) (hc : u.cfg = s.cfg) :
    (u.cc.cc1 = true → s.arithEnabled = true → exec i s =
      .next (raiseSync .arithmetic ((u.withArith s.aexp s.enabled).setHist (histOf i.len s.pc)))) ∧
    (u.cc.cc1 = false ∨ s.arithEnabled = false →
      effectOf i (s.start i.len) = .ok () (u.withArith s.aexp s.enabled)) := by
  have hen := withArith_arithEnabled hm hc
  exact ⟨fun h1 h2 => exec_trap (h.trans (arithCheck_raises h1 (hen.trans h2))),
    fun h1 => h.trans (arithCheck_passes (h1.imp_right hen.trans))⟩

end Ends

end Sys2Proof.Machine

namespace Sys2Proof.Proofs

open Sys2Proof.Machine

/-- Settles O53: `effectOf_sound` for what a raised exception says of the state; `ArithLast` for when it is raised. -/
theorem arithmeticException : Obligations.ArithmeticException := by
  refine ⟨fun i s u h => ?_, fun s u r rs m h b y n i hi harm hu => ?_, fun s rd rs hen => ?_,
    fun s r rs hen hzero => ?_⟩
  · obtain ⟨hcc, harith⟩ := (effectOf_sound i).arith u h
    refine ⟨hcc, ?_⟩
    unfold State.arithEnabled at harith
    cases hm : u.mode with
    | psd => rw [hm] at harith; exact .inl ⟨rfl, harith⟩
    | psw => rw [hm] at harith; exact .inr ⟨rfl, harith⟩
  · have hcheck : effectOf i (s.start i.len) = arithCheck (u.withArith s.aexp s.enabled) ∧
        u.mode = s.mode ∧ u.cfg = s.cfg := by
      rcases List.mem_append.mp hi with hi | hi
      · have hform : isArith i = true := List.all_eq_true.mp (by rfl) i hi
        exact arithLast_effectOf hform s.aexp s.enabled hu
      · obtain ⟨x, v, hres, hx⟩ := harm hi
        have heff : effectOf i = Machine.addToMemory r m ∧ i.len = .word := by
          simp only [List.mem_cons, List.not_mem_nil, or_false] at hi
          rcases hi with rfl | rfl | rfl | rfl <;> exact ⟨rfl, rfl⟩
        rw [heff.1, heff.2] at hu ⊢
        obtain ⟨hoff, -, -⟩ := blind_resolve m s.arithOff.aexp s.arithOff.enabled hres
        exact addToMemory_withArith (s := s.arithOff.start .word) hoff hx hu s.aexp s.enabled
    obtain ⟨hcheck, hm, hc⟩ := hcheck
    exact arithmetic_of_check hcheck hm hc
  · intro x hx
    have hov : overflows 32 x = true := by
      rw [overflows_eq, decide_eq_true_eq]
      exact hx
    have hadd : addOv (s.reg rd) (s.reg rs) = (BitVec.ofInt 32 x, true) := by rw [addOv_eq, ← hov]
    have hstop : effectOf (.adr rd rs) (s.start .half) = .stop (.trap .arithmetic)
        (((s.start .half).setReg rd (BitVec.ofInt 32 x)).setCC (ccArith true (BitVec.ofInt 32 x))) := by
      change putWordOv rd (addOv (s.reg rd) (s.reg rs)) (s.start .half) = _
      rw [hadd]
      exact arithCheck_raises rfl hen
    have hwrote : wroteWord rd (BitVec.ofInt 32 x) true s (finish .half s _) :=
      wroteWord_finish (u := s.start .half) fun _ => rfl
    exact ⟨_, exec_trap hstop, rfl, rfl, rfl, hwrote.value, hwrote.others, hwrote.cc⟩
  · have hstop : effectOf (.dvr r rs) (s.start .half) =
        .stop (.trap .arithmetic) ((s.start .half).setCC (ccArith true (s.reg (r + 1)))) := by
      have hnone : divFull ((s.start .half).pair r) (s.reg rs) = none := divFull_eq_none (.inl (by rw [hzero]; rfl))
      change divide r (s.reg rs) (s.start .half) = _
      rw [divide, hnone]
      exact arithCheck_raises rfl hen
    exact ⟨_, exec_trap hstop, rfl, rfl, rfl, rfl⟩

end Sys2Proof.Proofs
end

section
/-!
Trap halts, and the entries of traps and interrupts (R616, R765 to R767, R770, R780, R790): the words that are stored one
after the other, and the PSW or PSD that is loaded.
-/

namespace Sys2Proof.Machine

/-! ### Words stored one after the other -/

theorem poked_poke (s : State) (a : Nat) (n : Size) (x : Word) : Poked a n x s (s.poke a n x) where
  frame := by
    unfold onlyStored
    rw [poke_eq]
  mem := rfl

/-- The words of a list stored from `a` on. -/
def State.pokeWords (s : State) (a : Nat) : List Word → State
  | [] => s
  | v :: vs => (s.poke a .word v).pokeWords (a + 4) vs

section PokeWords

variable {s : State} {a : Nat} {vs : List Word}

theorem pokeWords_eq (s : State) (a : Nat) (vs : List Word) :
    s.pokeWords a vs = { s with mem := (s.pokeWords a vs).mem } := by
  induction vs generalizing s a with
  | nil => rfl
  | cons v vs ih =>
    rw [State.pokeWords, ih, poke_eq]

theorem byte_pokeWords_ne {b : Nat} (h : b < a ∨ a + 4 * vs.length ≤ b) : (s.pokeWords a vs).byte b = s.byte b := by
  induction vs generalizing s a with
  | nil => rfl
  | cons v vs ih =>
    rw [List.length_cons] at h
    rw [State.pokeWords, ih (by omega)]
    exact byte_poke_ne s a .word v b (by simp only [Size.bytes]; omega)

theorem peek_pokeWords_ne {b : Nat} (h : b + 4 ≤ a ∨ a + 4 * vs.length ≤ b) :
    (s.pokeWords a vs).peek b .word = s.peek b .word := by
  simp only [State.peek]
  rw [byte_pokeWords_ne (by omega), byte_pokeWords_ne (by omega), byte_pokeWords_ne (by omega),
    byte_pokeWords_ne (by omega)]

theorem wf_pokeWords (hw : Memory.wf s.mem = true) : Memory.wf (s.pokeWords a vs).mem = true := by
  induction vs generalizing s a with
  | nil => exact hw
  | cons v vs ih => exact ih (wf_poke s a .word v hw)

theorem peek_pokeWords (hw : Memory.wf s.mem = true) {i : Nat} {v : Word} (h : vs[i]? = some v) :
    (s.pokeWords a vs).peek (a + 4 * i) .word = v := by
  induction vs generalizing s a i with
  | nil => cases h
  | cons w vs ih =>
    rw [State.pokeWords]
    cases i with
    | zero =>
      obtain rfl : w = v := Option.some.inj h
      refine (peek_pokeWords_ne (b := a) (.inl (Nat.le_refl _))).trans ?_
      exact peek_poke_word s a w hw
    | succ i =>
      rw [show a + 4 * (i + 1) = a + 4 + 4 * i by omega]
      exact ih (wf_poke s a .word w hw) h

end PokeWords

theorem installed_sub {s : State} {a n b k : Nat} (h : s.installed a n = true) (hb : a ≤ b) (hk : b + k ≤ a + n) :
    s.installed b k = true := by
  simp only [installed_iff] at h ⊢
  obtain ⟨hmem, hholes⟩ := h
  refine ⟨by omega, fun x hx => ?_⟩
  have := hholes x hx
  omega

/-! ### The trap halt (R790, decision D72) -/

section TrapHalt

variable {t : Trap} {s : State}

/-- Memory is all that differs. -/
def memOnly (s u : State) : Prop := u = { s with mem := u.mem }

theorem memOnly.poke {u : State} (h : memOnly s u) (a : Nat) (n : Size) (v : Word) : memOnly s (u.poke a n v) := by
  unfold memOnly at *
  rw [poke_eq, h]

/-- A word of the save area, where memory is installed and nothing comes between. -/
theorem memOnly.saveWord {u : State} (h : memOnly s u) (hb : s.between = []) (hi : s.installed 0x530 20 = true)
    {pa : Addr} (hlo : 0x530 ≤ pa.toNat) (hhi : pa.toNat ≤ 0x540) (v : Word) :
    u.saveWord pa v = u.poke pa.toNat .word v := by
  have hbu : u.between = [] := by rw [h]; exact hb
  have hp : u.present pa .word = true := by
    rw [h]
    exact installed_sub hi hlo (by simp only [Size.bytes]; omega)
  rw [State.saveWord, interleave_alone hbu, State.pokeIfPresent, if_pos hp]

/-- The words of the save area in PSD mode. -/
def saveWords (t : Trap) (s : State) : List Word :=
  [s.storedPsd1, s.storedPsd2, s.stat, (t.device.map Config.deviceWord).getD 0,
    (t.device.map Config.interruptWord).getD 0]

theorem saveArea_eq (hm : s.mode = .psd) (hb : s.between = []) (hi : s.installed 0x530 20 = true) :
    saveArea t s = s.pokeWords 0x530 (saveWords t s) := by
  have h0 : memOnly s s := rfl
  have h1 := h0.poke (0x530 : Addr).toNat .word s.storedPsd1
  have h2 := h1.poke (0x534 : Addr).toNat .word s.storedPsd2
  have h3 := h2.poke (0x538 : Addr).toNat .word s.stat
  have h4 := h3.poke (0x53C : Addr).toNat .word ((t.device.map Config.deviceWord).getD 0)
  rw [saveArea, hm]
  dsimp only
  rw [h0.saveWord hb hi (by decide) (by decide), h1.saveWord hb hi (by decide) (by decide),
    h2.saveWord hb hi (by decide) (by decide), h3.saveWord hb hi (by decide) (by decide),
    h4.saveWord hb hi (by decide) (by decide)]
  rfl

theorem mem_trapHalt (hm : s.mode = .psd) (hb : s.between = []) (hi : s.installed 0x530 20 = true) :
    (trapHalt t s).mem = (s.pokeWords 0x530 (saveWords t s)).mem := by
  rw [← saveArea_eq hm hb hi]
  rfl

/-- What a trap halt leaves (R790). -/
theorem trapHalt_eq (hm : s.mode = .psd) (hb : s.between = []) (hi : s.installed 0x530 20 = true) :
    trapHalt t s = { s with
      mem := (trapHalt t s).mem, pc := bits t.ivl 5 18, run := .halt, panel := (trapHalt t s).panel,
      hist := (trapHalt t s).hist, freeCount := (trapHalt t s).freeCount } := by
  unfold trapHalt
  rw [saveArea_eq hm hb hi, pokeWords_eq]
  generalize (s.pokeWords 0x530 (saveWords t s)).mem = mem
  rfl

theorem showsHalt_trapHalt (hm : s.mode = .psd) (hb : s.between = []) (hi : s.installed 0x530 20 = true) :
    ShowsHalt { s with panel := { s.panel with intLight := true } } (trapHalt t s) := by
  refine showsHalt_showHalt ?_
  rw [saveArea_eq hm hb hi, pokeWords_eq]

/-- `ShowsHalt` looks at the panel alone of the state before. -/
theorem ShowsHalt.of_panel {s' u : State} (h : ShowsHalt s u) (hp : s'.panel = s.panel) : ShowsHalt s' u :=
  ⟨by rw [hp]; exact h.panel, h.word⟩

theorem intLight_trapHalt (t : Trap) (s : State) : (trapHalt t s).panel.intLight = true := rfl

theorem raise_psd (hm : s.mode = .psd) : raise t s =
    if t.arms && !s.psdTrapEn then trapHalt t (s.setStat (s.stat ||| t.statBits .psd))
    else trapEntry 3 t (s.setStat (s.stat ||| t.statBits .psd)) := by
  have hm' : (s.setStat (s.stat ||| t.statBits .psd)).mode = .psd := hm
  simp only [raise, hm, hm']
  rfl

theorem ivlPc_eq (a : Addr) : bits a 5 18 = BitVec.ofNat 18 (a.toNat / 2) := by
  have hfield : (bits a 5 18).toNat = a.toNat / 2 ^ 1 % 2 ^ 18 := bits_toNat a 5 18
  apply BitVec.eq_of_toNat_eq
  rw [hfield, BitVec.toNat_ofNat, pow_one]

end TrapHalt

end Sys2Proof.Machine

namespace Sys2Proof.Proofs

open Sys2Proof.Machine

/-- Settles O50: the five words of the save area are one list (`saveArea_eq`). -/
theorem trapHalts : Obligations.TrapHalts := by
  intro t s hm harm hen hb hi hw stat r
  let s0 := s.setStat stat
  have hr : r = trapHalt t s0 := by
    change raise t s = _
    rw [raise_psd hm, harm, hen]
    rfl
  have hframe : r = { s0 with
      mem := r.mem, pc := bits t.ivl 5 18, run := .halt, panel := r.panel, hist := r.hist,
      freeCount := r.freeCount } := by
    rw [hr]
    exact trapHalt_eq (s := s0) hm hb hi
  have hmem : r.mem = (s0.pokeWords 0x530 (saveWords t s0)).mem := by
    rw [hr]
    exact mem_trapHalt (s := s0) hm hb hi
  clear_value r
  have hcell (c : BitVec 8) : r.cell c = s0.cell c := by
    have hscratch : r.scratch = s0.scratch := by rw [hframe]
    simp only [State.cell, hscratch]
  have hword {i : Nat} {v : Word} (h : (saveWords t s0)[i]? = some v) : r.peek (0x530 + 4 * i) .word = v := by
    exact (peek_congr hmem _ _).trans (peek_pokeWords (s := s0) hw h)
  refine ⟨by rw [hframe], by rw [hframe]; exact ivlPc_eq _, ?_, ?_, hword (i := 0) rfl, hword (i := 1) rfl, hword (i := 2) ?_,
    (hword (i := 3) rfl).trans ?_, (hword (i := 4) rfl).trans ?_, fun b hb => ?_, ?_, fun c hc => ?_, ?_⟩
  · rw [State.interruptLight, hr, intLight_trapHalt, Bool.or_true]
  · rw [hr]
    exact (showsHalt_trapHalt (s := s0) hm hb hi).of_panel rfl
  · exact congrArg some (State.stat_setStat s stat)
  · cases t.device <;> rfl
  · cases t.device <;> rfl
  · exact (byte_congr hmem b).trans (byte_pokeWords_ne (s := s0) hb)
  · exact (hcell cpuStatCell).trans (State.stat_setStat s stat)
  · exact ((hcell c).trans (State.cell_setStat s stat c)).trans (if_neg hc)
  · rw [hframe]
    rfl

end Sys2Proof.Proofs
end

section
/-!
Traps and interrupts in PSW mode (R767, R780, R781).
-/

namespace Sys2Proof.Machine

/-! ### Scheduling a trap (R780) -/

/-- No bit below bit `l` is set. -/
theorem low_bits_eq_zero_iff (v : BitVec 128) (l : Level) :
    v.toNat % 2 ^ l.toNat = 0 ↔ ∀ k : Level, k.toNat < l.toNat → v.getLsbD k.toNat = false := by
  constructor
  · intro h k hk
    have hbit := Nat.testBit_mod_two_pow v.toNat l.toNat k.toNat
    rw [h, Nat.zero_testBit, decide_eq_true hk, Bool.true_and] at hbit
    exact hbit.symm
  · intro h
    apply Nat.eq_of_testBit_eq
    intro i
    rw [Nat.testBit_mod_two_pow, Nat.zero_testBit]
    by_cases hi : i < l.toNat
    · have hbit := h (BitVec.ofNat 7 i) (by rw [ofNat_toNat_level i (by omega)]; exact hi)
      rw [ofNat_toNat_level i (by omega)] at hbit
      rw [← BitVec.getLsbD, hbit, Bool.and_false]
    · rw [decide_eq_false hi, Bool.false_and]

section Psw

variable {s : State} {l : Level}

/-- The level of a trap is clear to be taken in PSW mode (R780). -/
def pswClear (s : State) (l : Level) : Prop :=
  s.enabledEff.getLsbD l.toNat = true ∧ s.active.getLsbD l.toNat = false ∧
    ∀ k : Level, k.toNat < l.toNat → s.active.getLsbD k.toNat = false ∧ s.request.getLsbD k.toNat = false

theorem pswClear_iff (s : State) (l : Level) : pswClear s l ↔
    (s.enabledEff.getLsbD l.toNat && !s.active.getLsbD l.toNat &&
      decide ((s.active ||| s.request).toNat % 2 ^ l.toNat = 0)) = true := by
  simp only [pswClear, Bool.and_eq_true, Bool.not_eq_true', decide_eq_true_eq, low_bits_eq_zero_iff,
    BitVec.getLsbD_or, Bool.or_eq_false_iff, and_assoc]

theorem raisePsw_clear {t : Trap} (ht : t.pswLevel = some l) (h : pswClear s l) :
    raisePsw t s = takeIntPsw l (s.setRequest l true) := by
  unfold raisePsw
  rw [ht]
  exact if_pos ((pswClear_iff s l).mp h)

theorem raisePsw_dropped {t : Trap} (ht : t.pswLevel = some l) (h : ¬pswClear s l) : raisePsw t s = s := by
  unfold raisePsw
  rw [ht]
  exact if_neg fun hc => h ((pswClear_iff s l).mpr hc)

theorem raise_psw {t : Trap} (hm : s.mode = .psw) :
    raise t s = raisePsw t (s.setStat (s.stat ||| t.statBits .psw)) := by
  have hm' : (s.setStat (s.stat ||| t.statBits .psw)).mode = .psw := hm
  simp only [raise, hm, hm']

theorem takeInterrupt_psw (hm : s.mode = .psw) : takeInterrupt l s = takeIntPsw l s := by
  unfold takeInterrupt
  rw [hm]

/-! ### The entry of an interrupt (R767, decision D57) -/

theorem leaveWait_eq (s : State) : s.leaveWait = { s with run := if s.run = .wait then .run else s.run } := by
  unfold State.leaveWait
  cases hr : s.run with
  | wait => rfl
  | run =>
    change s = { s with run := .run }
    rw [← hr]
  | halt =>
    change s = { s with run := .halt }
    rw [← hr]

/-- The address of the saved PSW, in the word at the vector. -/
def pswAddr (v : Word) : Addr := (bits v 13 17 ++ (0 : BitVec 2)).setWidth 24

theorem pswAddr_toNat (v : Word) : (pswAddr v).toNat = v.toNat % 2 ^ 19 / 4 * 4 := by
  have hfield : (bits v 13 17).toNat = v.toNat / 2 ^ 2 % 2 ^ 17 := bits_toNat v 13 17
  have hcat := append_toNat (bits v 13 17) (0 : BitVec 2)
  have h0 : (0 : BitVec 2).toNat = 0 := rfl
  rw [pswAddr, BitVec.toNat_setWidth]
  omega

/-- The state of the entry when the PSW is stored: the level active, its request cleared. -/
def pswStored (l : Level) (s : State) : State :=
  ((s.setRequest l false).setActive l true).poke (pswAddr (s.peek (ivlOf l).toNat .word)).toNat .word s.storedPsw

theorem pswStored_poked (l : Level) (s : State) :
    Poked (pswAddr (s.peek (ivlOf l).toNat .word)).toNat .word s.storedPsw ((s.setRequest l false).setActive l true)
      (pswStored l s) :=
  poked_poke _ _ _ _

theorem pswStored_eq (l : Level) (s : State) : pswStored l s = { s with
    mem := (pswStored l s).mem, request := putBit s.request l.toNat false, active := putBit s.active l.toNat true } := by
  unfold pswStored
  rw [poke_eq]
  rfl

/-- The entry, where memory has the vector and the two words it points to (R767). -/
theorem enterIntPsw_ok (hb : s.between = []) (ho : s.operandParity = false) (hv : s.present (ivlOf l) .word = true)
    (ha : s.installed (pswAddr (s.peek (ivlOf l).toNat .word)).toNat 8 = true) :
    enterIntPsw l s = .ok () ({ (pswStored l s).withPsw
      (s.peek ((pswAddr (s.peek (ivlOf l).toNat .word)).toNat + 4) .word) with noIntNext := true }.leaveWait) := by
  have hnext : (pswAddr (s.peek (ivlOf l).toNat .word) + 4).toNat = (pswAddr (s.peek (ivlOf l).toNat .word)).toNat + 4 := by
    have hlt := pswAddr_toNat (s.peek (ivlOf l).toNat .word)
    have h4 : (4 : Addr).toNat = 4 := rfl
    rw [BitVec.toNat_add, h4]
    omega
  obtain ⟨hhi, hlo⟩ := installed_words ha
  have hkept : (pswStored l s).peek ((pswAddr (s.peek (ivlOf l).toNat .word)).toNat + 4) .word =
      s.peek ((pswAddr (s.peek (ivlOf l).toNat .word)).toNat + 4) .word :=
    (pswStored_poked l s).peek_word_ne (.inr (Nat.le_refl _))
  have hread : physRead operandErr (pswAddr (s.peek (ivlOf l).toNat .word) + 4) .word (pswStored l s) =
      .ok (s.peek ((pswAddr (s.peek (ivlOf l).toNat .word)).toNat + 4) .word) (pswStored l s) := by
    rw [physRead_eq operandErr (by rw [pswStored_eq]; exact hb)
      (by rw [pswStored_eq, State.present, hnext]; exact hlo) (by rw [pswStored_eq]; exact ho), hnext, hkept]
  have hwrite : physWrite operandErr (pswAddr (s.peek (ivlOf l).toNat .word)) .word s.storedPsw
      ((s.setRequest l false).setActive l true) = .ok () (pswStored l s) :=
    physWrite_eq (n := .word) operandErr s.storedPsw hb hhi
  rw [enterIntPsw, physRead_eq operandErr hb hv ho, Res.bind_ok]
  change (Res.bind (physWrite operandErr (pswAddr _) _ _ _) _) = _
  rw [hwrite, Res.bind_ok]
  change (Res.bind (physRead operandErr (pswAddr _ + 4) .word (pswStored l s)) _) = _
  rw [hread, Res.bind_ok]

theorem takeIntPsw_ok {t : State} (h : enterIntPsw l s = .ok () t) : takeIntPsw l s = t := by
  rw [takeIntPsw, h]

end Psw

end Sys2Proof.Machine

namespace Sys2Proof.Proofs

open Sys2Proof.Machine

/-- Settles O51: the scheduling by `pswClear_iff`, the entry by `enterIntPsw_ok`. -/
theorem pswInterrupts : Obligations.PswInterrupts := by
  refine ⟨fun t l s hm ht => ?_, fun l s hm hb hw ho hv => ?_⟩
  · intro s1 clear
    refine ⟨fun h => (raise_psw hm).trans (raisePsw_dropped ht h), fun h => ?_⟩
    exact ((raise_psw hm).trans (raisePsw_clear ht h)).trans (takeInterrupt_psw (s := s1.setRequest l true) hm).symm
  · intro a ha w r
    have hpsw : (pswAddr (s.peek (ivlOf l).toNat .word)).toNat = a := pswAddr_toNat _
    have henter := enterIntPsw_ok hb ho hv (by rw [hpsw]; exact ha)
    rw [hpsw, leaveWait_eq, pswStored_eq] at henter
    have hr : r = _ := (takeInterrupt_psw hm).trans (takeIntPsw_ok henter)
    clear_value r
    have hmem : (pswStored l s).mem = (s.poke a .word s.storedPsw).mem := by
      rw [pswStored, hpsw]
      exact mem_poke_congr _ _ _ rfl
    have hpoked := poked_poke s a .word s.storedPsw
    have hrmem : r.mem = (s.poke a .word s.storedPsw).mem := by rw [hr]; exact hmem
    refine ⟨(peek_congr hrmem _ _).trans (hpoked.peek_word hw), fun b hb => (byte_congr hrmem b).trans (hpoked.others b hb),
      ?_, ?_, ?_⟩
    · rw [hr]
      exact levelSet_putBit _ _ _
    · rw [hr]
      exact levelSet_putBit _ _ _
    · rw [hr]
      rfl

end Sys2Proof.Proofs
end

section
/-!
Traps and interrupts in PSD mode (R765, R766, R770): the ICB that the vector points to, the old PSD stored in it, the new
one loaded with the MAP that it asks for.
-/

namespace Sys2Proof.Machine

theorem MapAlike.refl {s : State} (hb : s.between = []) : MapAlike s s := ⟨rfl, rfl, rfl, rfl, rfl, hb, hb⟩

/-- A word inside an installed block has the address that its offset says. -/
theorem installed_add {s : State} {a : Addr} {n k : Nat} (hc : s.cfg.wf = true) (hi : s.installed a.toNat n = true)
    (hk : k < n) : (a + BitVec.ofNat 24 k).toNat = a.toNat + k := by
  have hmem : s.cfg.memBytes ≤ 16777216 := by
    simp only [Config.wf, Bool.and_eq_true, decide_eq_true_eq] at hc
    exact hc.1.2
  have hle := ((installed_iff _ _ _).mp hi).1
  rw [BitVec.toNat_add, BitVec.toNat_ofNat]
  omega

theorem present_add {s : State} {a : Addr} {n k : Nat} (hc : s.cfg.wf = true) (hi : s.installed a.toNat n = true)
    (hk : k + 4 ≤ n) : s.present (a + BitVec.ofNat 24 k) .word = true := by
  rw [State.present, installed_add hc hi (by omega)]
  exact installed_sub hi (by omega) (by simp only [Size.bytes]; omega)

/-! ### Accesses to the words of an ICB -/

section Icb

variable {s u : State} {err : MemErr → Trap} {icb : Addr} {n : Nat}

theorem memOnly.physWrite (h : memOnly s u) (hc : s.cfg.wf = true) (hb : s.between = [])
    (hi : s.installed icb.toNat n = true) (k : Nat) (hk : k + 4 ≤ n) (x : Word) :
    physWrite err (icb + BitVec.ofNat 24 k) .word x u = .ok () (u.poke (icb.toNat + k) .word x) := by
  have hp : u.present (icb + BitVec.ofNat 24 k) .word = true := by
    rw [h]
    exact present_add hc hi hk
  rw [physWrite_eq err x (by rw [h]; exact hb) hp, installed_add hc hi (by omega)]

theorem memOnly.physRead (h : memOnly s u) (hc : s.cfg.wf = true) (hb : s.between = []) (ho : s.operandParity = false)
    (hi : s.installed icb.toNat n = true) (k : Nat) (hk : k + 4 ≤ n) :
    physRead err (icb + BitVec.ofNat 24 k) .word u = .ok (u.peek (icb.toNat + k) .word) u := by
  have hp : u.present (icb + BitVec.ofNat 24 k) .word = true := by
    rw [h]
    exact present_add hc hi hk
  rw [physRead_eq err (by rw [h]; exact hb) hp (by rw [h]; exact ho), installed_add hc hi (by omega)]

end Icb

/-! ### Trap entry (R616, R770) -/

section Trap

variable {s v : State} {t : Trap} {icb : Addr} {word5 : Word} {err : MemErr → Trap}

/-- The old PSD and word 5 stored in the ICB. -/
def exchanged (icb : Addr) (word5 : Word) (s : State) : State :=
  ((s.poke icb.toNat .word s.storedPsd1).poke (icb.toNat + 4) .word s.storedPsd2).poke (icb.toNat + 16) .word word5

theorem exchanged_eq_pokeWords (icb : Addr) (word5 : Word) (s : State) : exchanged icb word5 s =
    (s.pokeWords icb.toNat [s.storedPsd1, s.storedPsd2]).pokeWords (icb.toNat + 16) [word5] := rfl

theorem memOnly_exchanged (icb : Addr) (word5 : Word) (s : State) : memOnly s (exchanged icb word5 s) := by
  have h0 : memOnly s s := rfl
  exact ((h0.poke _ _ _).poke _ _ _).poke _ _ _

/-- Words 3 and 4 of the ICB are as before. -/
theorem peek_exchanged_new {k : Nat} (hk : k = 8 ∨ k = 12) :
    (exchanged icb word5 s).peek (icb.toNat + k) .word = s.peek (icb.toNat + k) .word := by
  rw [exchanged_eq_pokeWords, peek_pokeWords_ne (.inl (by omega)),
    peek_pokeWords_ne (.inr (by simp only [List.length_cons, List.length_nil]; omega))]

/-- The entry from the ICB's address on. -/
theorem exchangePsd_ok (hc : s.cfg.wf = true) (hb : s.between = []) (ho : s.operandParity = false)
    (hi : s.installed icb.toNat 20 = true)
    (hv : mapFor err (s.peek (icb.toNat + 12) .word) (exchanged icb word5 s) v) :
    exchangePsd err icb word5 s = .ok () ({ exchanged icb word5 s with mapRegs := v.mapRegs }.withPsd
      (s.peek (icb.toNat + 8) .word) (s.peek (icb.toNat + 12) .word)).leaveWait := by
  have h0 : memOnly s s := rfl
  have h1 := h0.poke icb.toNat .word s.storedPsd1
  have h2 := h1.poke (icb.toNat + 4) .word s.storedPsd2
  have h3 := memOnly_exchanged icb word5 s
  have hw1 : physWrite err icb .word s.storedPsd1 s = .ok () (s.poke icb.toNat .word s.storedPsd1) :=
    physWrite_eq (n := .word) err _ hb (installed_sub hi (Nat.le_refl _) (by simp only [Size.bytes]; omega))
  have hw2 := h1.physWrite (err := err) hc hb hi 4 (by decide) s.storedPsd2
  have hw3 : physWrite err (icb + 16) .word word5 _ = .ok () (exchanged icb word5 s) :=
    h2.physWrite (err := err) hc hb hi 16 (by decide) word5
  have hr1 := h3.physRead (err := err) hc hb ho hi 8 (by decide)
  have hr2 := h3.physRead (err := err) hc hb ho hi 12 (by decide)
  rw [peek_exchanged_new (.inl rfl)] at hr1
  rw [peek_exchanged_new (.inr rfl)] at hr2
  have halike : MapAlike (exchanged icb word5 s) (exchanged icb word5 s) := .refl (by rw [h3]; exact hb)
  rw [exchangePsd, hw1, Res.bind_ok]
  change (Res.bind (physWrite err (icb + BitVec.ofNat 24 4) _ _ _) _) = _
  rw [hw2, Res.bind_ok, hw3, Res.bind_ok]
  change (Res.bind (physRead err (icb + BitVec.ofNat 24 8) _ _) _) = _
  rw [hr1, Res.bind_ok]
  change (Res.bind (physRead err (icb + BitVec.ofNat 24 12) _ _) _) = _
  rw [hr2, Res.bind_ok, loadPsd_mapFor halike hv, Res.bind_ok]

/-- The secondary vector of an SVC (R616). -/
theorem second_eq (a : Addr) (ind : BitVec 4) : a + 4 * ind.setWidth 24 = a + BitVec.ofNat 24 (4 * ind.toNat) :=
  rfl

/-- The ICB of an SVC goes by its secondary vector (R616). -/
theorem trapIcb_svc {ind : BitVec 4} {call : BitVec 12} (hb : s.between = []) (ho : s.operandParity = false)
    (hp : s.present (Trap.svc ind call).ivl .word = true)
    (hsecond : s.present (addrOf (s.peek (Trap.svc ind call).ivl.toNat .word) + BitVec.ofNat 24 (4 * ind.toNat)) .word =
      true) :
    trapIcb (.svc ind call) s = .ok (addrOf (s.peek
      (addrOf (s.peek (Trap.svc ind call).ivl.toNat .word) + BitVec.ofNat 24 (4 * ind.toNat)).toNat .word)) s := by
  rw [trapIcb, physRead_eq _ hb hp ho, Res.bind_ok]
  dsimp only
  rw [second_eq, physRead_eq _ hb hsecond ho, Res.bind_ok]

/-- The ICB of any other trap is where its vector points (R770). -/
theorem trapIcb_other (ht : ∀ ind call, t ≠ .svc ind call) (hb : s.between = []) (ho : s.operandParity = false)
    (hp : s.present t.ivl .word = true) : trapIcb t s = .ok (addrOf (s.peek t.ivl.toNat .word)) s := by
  rw [trapIcb, physRead_eq _ hb hp ho, Res.bind_ok]
  cases t with
  | svc ind call => exact absurd rfl (ht ind call)
  | _ => rfl

theorem enterTrap_ok {u : State} (hicb : trapIcb t s = .ok icb s) (h5 : trapWord5 t s = word5)
    (h : exchangePsd (switchErr false) icb word5 s = .ok () u) : enterTrap t s = .ok () u := by
  rw [enterTrap, hicb, Res.bind_ok, h5, h]

theorem trapEntry_ok {n : Nat} {u : State} (h : enterTrap t s = .ok () u) : trapEntry (n + 1) t s = u := by
  rw [trapEntry, h]

/-- A trap that does not halt the CPU is entered (R790). -/
theorem raise_enters {u : State} (hm : s.mode = .psd) (harm : t.arms = true → s.psdTrapEn = true)
    (h : enterTrap t (s.setStat (s.stat ||| t.statBits .psd)) = .ok () u) : raise t s = u := by
  refine ((raise_psd hm).trans (if_neg ?_)).trans (trapEntry_ok h)
  rw [Bool.and_eq_true, Bool.not_eq_true']
  exact fun ⟨h1, h2⟩ => Bool.false_ne_true (h2.symm.trans (harm h1))

end Trap

end Sys2Proof.Machine

namespace Sys2Proof.Proofs

open Sys2Proof.Machine

/-- Settles O49: the ICB by `trapIcb_ok`, the exchange of the PSDs by `exchangePsd_ok`. -/
theorem trapEntry : Obligations.TrapEntry := by
  intro t s hm harm hc hb hw ho hp v second hsvc stat icb word5 hi n1 n2 stored u hu r
  let s0 := s.setStat stat
  have hicb : trapIcb t s0 = .ok icb s0 := by
    cases t with
    | svc ind call => exact trapIcb_svc (s := s0) hb ho hp (hsvc ind call rfl)
    | _ => exact trapIcb_other (s := s0) nofun hb ho hp
  have hword5 : trapWord5 t s0 = word5 := by
    have hstat : s0.stat = stat := State.stat_setStat s stat
    cases t with
    | svc ind call => rfl
    | _ => exact hstat
  have henter := enterTrap_ok hicb hword5 (exchangePsd_ok (s := s0) hc hb ho hi hu)
  have hr : r = _ := raise_enters hm harm henter
  obtain ⟨mem, hstored⟩ : ∃ mem, exchanged icb word5 s0 = { s0 with mem := mem } := ⟨_, memOnly_exchanged icb word5 s0⟩
  rw [leaveWait_eq, hstored] at hr
  have hmem : r.mem = ((s0.pokeWords icb.toNat [s.storedPsd1, s.storedPsd2]).pokeWords (icb.toNat + 16) [word5]).mem := by
    rw [hr]
    exact (congrArg State.mem hstored).symm
  clear_value r
  have hfirst {i : Nat} {x : Word} (h : [s.storedPsd1, s.storedPsd2][i]? = some x) (hlt : i < 2) :
      r.peek (icb.toNat + 4 * i) .word = x :=
    ((peek_congr hmem _ _).trans (peek_pokeWords_ne (.inl (by omega)))).trans (peek_pokeWords (s := s0) hw h)
  have hlast : r.peek (icb.toNat + 16 + 4 * 0) .word = word5 :=
    (peek_congr hmem _ _).trans (peek_pokeWords (wf_pokeWords (s := s0) hw) rfl)
  refine ⟨hfirst (i := 0) rfl (by decide), hfirst (i := 1) rfl (by decide), hlast, fun b hb => ?_, ?_, ?_, ?_⟩
  · refine (byte_congr hmem b).trans ((byte_pokeWords_ne ?_).trans (byte_pokeWords_ne (s := s0) ?_))
    · simp only [List.length_cons, List.length_nil]
      omega
    · simp only [List.length_cons, List.length_nil]
      omega
  · have hloaded : LoadedPsd n1 n2 s0 ({ s0 with mem := mem, mapRegs := u.mapRegs }.withPsd n1 n2) :=
      loadedPsd_withPsd rfl rfl
    rw [hr]
    exact hloaded.of_eq rfl
  · rw [hr]
    rfl
  · rw [hr]
    rfl

end Sys2Proof.Proofs
end

section
/-!
The entry of an interrupt in PSD mode (R765, R766, R745): the acknowledge of a Class F channel, the exchange of the PSDs,
the level active unless the new PSD blocks without activating.
-/

namespace Sys2Proof.Machine

section Interrupt

variable {s u v : State} {l : Level} {icb : Addr} {err : MemErr → Trap}

/-! ### The acknowledge of a Class F channel (R766) -/

/-- The status address that the channel answers, a free value where the environment gives none (log 8). -/
def ackAddr (s : State) : Addr := s.ackReplies.headD (Config.freeAddr s.freeCount)

theorem acknowledgeF_ok (hb : s.between = []) (hp : s.present (icb + 20) .word = true) :
    ∃ free, acknowledgeF err l icb s = .ok () ({ s with
      ackReplies := s.ackReplies.tail, freeCount := free, sent := .acknowledge l :: s.sent }.poke (icb + 20).toNat .word
        ((ackAddr s).setWidth 32)) := by
  unfold acknowledgeF ackAddr
  cases h : s.ackReplies with
  | nil => exact ⟨s.freeCount + 1, physWrite_eq (n := .word) err _ hb hp⟩
  | cons a rest => exact ⟨s.freeCount, physWrite_eq (n := .word) err _ hb hp⟩

/-- Memory after the acknowledge of a Class F channel. -/
def ackStored (l : Level) (icb : Addr) (s : State) : State :=
  if s.isClassF l then s.poke (icb.toNat + 20) .word ((ackAddr s).setWidth 32) else s

/-- What the acknowledge changes besides memory: the replies, the free values, the messages. -/
structure Acknowledged (l : Level) (s : State) (replies : List Addr) (free : Nat) (sent : List BusMessage) : Prop where
  other : s.isClassF l = false → replies = s.ackReplies ∧ free = s.freeCount ∧ sent = s.sent
  classF : s.isClassF l = true → replies = s.ackReplies.tail ∧ sent = .acknowledge l :: s.sent

theorem acknowledge_step (hc : s.cfg.wf = true) (hb : s.between = []) (hi : s.installed icb.toNat 24 = true) :
    ∃ replies free sent, Acknowledged l s replies free sent ∧
      (if s.isClassF l then acknowledgeF err l icb (s.setRequest l false) else .ok () (s.setRequest l false)) =
        .ok () { s with
          request := putBit s.request l.toNat false, mem := (ackStored l icb s).mem, ackReplies := replies,
          freeCount := free, sent := sent } := by
  cases hf : s.isClassF l with
  | false =>
    refine ⟨s.ackReplies, s.freeCount, s.sent, ⟨fun _ => ⟨rfl, rfl, rfl⟩, fun h => absurd (hf.symm.trans h) nofun⟩, ?_⟩
    rw [ackStored, hf]
    rfl
  | true =>
    obtain ⟨free, hack⟩ := acknowledgeF_ok (err := err) (l := l) (icb := icb) (s := s.setRequest l false) hb
      (present_add hc hi (k := 20) (by decide))
    refine ⟨s.ackReplies.tail, free, .acknowledge l :: s.sent,
      ⟨fun h => absurd (hf.symm.trans h) nofun, fun _ => ⟨rfl, rfl⟩⟩, ?_⟩
    have hmem : ∀ t : State, t.mem = s.mem →
        t.poke (icb.toNat + 20) .word ((ackAddr s).setWidth 32) = { t with mem := (ackStored l icb s).mem } := by
      intro t ht
      rw [ackStored, hf, poke_eq, mem_poke_congr _ _ _ ht]
      rfl
    have haddr : (icb + 20).toNat = icb.toNat + 20 := installed_add hc hi (k := 20) (by decide)
    refine hack.trans ?_
    rw [haddr]
    exact congrArg (Res.ok ()) (hmem _ rfl)

/-! ### Activation (R765, R766, D65) -/

/-- The new PSD blocks without activating. -/
def withoutActivate (n2 : Word) : Prop := bitAt n2 16 = false ∧ bitAt n2 17 = true

theorem activateBy_without {n2 : Word} (h : withoutActivate n2) : s.activateBy l n2 =
    { s with sent := if s.isClassF l then .deactivate l :: s.sent else s.sent } := by
  unfold State.activateBy
  rw [h.1, h.2]
  change (if s.isClassF l then s.send (.deactivate l) else s) = _
  split <;> rfl

theorem activateBy_activates {n2 : Word} (h : ¬withoutActivate n2) :
    s.activateBy l n2 = { s with active := putBit s.active l.toNat true } := by
  refine if_neg fun hc => h ?_
  rw [Bool.and_eq_true, Bool.not_eq_true'] at hc
  exact hc

/-- What the activation changes: the level, or the message that it is not active. -/
theorem activateBy_eq (s : State) (l : Level) (n2 : Word) :
    ∃ active sent, s.activateBy l n2 = { s with active := active, sent := sent } ∧
      (withoutActivate n2 → active = s.active ∧
        sent = if s.isClassF l then .deactivate l :: s.sent else s.sent) ∧
      (¬withoutActivate n2 → active = putBit s.active l.toNat true ∧ sent = s.sent) := by
  by_cases h : withoutActivate n2
  · exact ⟨_, _, activateBy_without h, fun _ => ⟨rfl, rfl⟩, fun hc => absurd h hc⟩
  · exact ⟨_, _, activateBy_activates h, fun hc => absurd hc h, fun _ => ⟨rfl, rfl⟩⟩

/-! ### The entry -/

/-- Memory after the entry: the acknowledge, then the old PSD in words 1 and 2 of the ICB. -/
def entryStored (l : Level) (icb : Addr) (s : State) : State :=
  ((ackStored l icb s).poke icb.toNat .word s.storedPsd1).poke (icb.toNat + 4) .word s.storedPsd2

theorem memOnly_ackStored (l : Level) (icb : Addr) (s : State) : memOnly s (ackStored l icb s) := by
  have h0 : memOnly s s := rfl
  unfold ackStored
  split
  · exact h0.poke _ _ _
  · exact h0

theorem memOnly_entryStored (l : Level) (icb : Addr) (s : State) : memOnly s (entryStored l icb s) :=
  (memOnly_ackStored l icb s |>.poke _ _ _).poke _ _ _

theorem entryStored_eq_pokeWords (l : Level) (icb : Addr) (s : State) :
    entryStored l icb s = (ackStored l icb s).pokeWords icb.toNat [s.storedPsd1, s.storedPsd2] := rfl

theorem byte_ackStored_ne {b : Nat} (h : b < icb.toNat + 20 ∨ icb.toNat + 24 ≤ b) :
    (ackStored l icb s).byte b = s.byte b := by
  unfold ackStored
  split
  · exact byte_poke_ne s _ .word _ b (by simp only [Size.bytes]; omega)
  · rfl

theorem byte_entryStored_ne {b : Nat} (h : b < icb.toNat ∨ icb.toNat + 8 ≤ b ∧ b < icb.toNat + 20 ∨ icb.toNat + 24 ≤ b) :
    (entryStored l icb s).byte b = s.byte b := by
  rw [entryStored_eq_pokeWords, byte_pokeWords_ne (by simp only [List.length_cons, List.length_nil]; omega),
    byte_ackStored_ne (by omega)]

/-- Without an acknowledge only words 1 and 2 of the ICB change. -/
theorem byte_entryStored_other (hf : s.isClassF l = false) {b : Nat} (h : b < icb.toNat ∨ icb.toNat + 8 ≤ b) :
    (entryStored l icb s).byte b = s.byte b := by
  rw [entryStored_eq_pokeWords, byte_pokeWords_ne (by simp only [List.length_cons, List.length_nil]; omega), ackStored,
    hf]
  rfl

/-- Words 3 and 4 of the ICB are as before. -/
theorem peek_entryStored_new {k : Nat} (hk : k = 8 ∨ k = 12) :
    (entryStored l icb s).peek (icb.toNat + k) .word = s.peek (icb.toNat + k) .word := by
  simp only [State.peek]
  rw [byte_entryStored_ne (by omega), byte_entryStored_ne (by omega), byte_entryStored_ne (by omega),
    byte_entryStored_ne (by omega)]

theorem peek_entryStored_status (hw : Memory.wf s.mem = true) (hf : s.isClassF l = true) :
    (entryStored l icb s).peek (icb.toNat + 20) .word = (ackAddr s).setWidth 32 := by
  rw [entryStored_eq_pokeWords,
    peek_pokeWords_ne (.inr (by simp only [List.length_cons, List.length_nil]; omega)), ackStored, hf]
  exact peek_poke_word s _ _ hw

theorem peek_entryStored_old (hw : Memory.wf s.mem = true) {i : Nat} {x : Word}
    (h : [s.storedPsd1, s.storedPsd2][i]? = some x) : (entryStored l icb s).peek (icb.toNat + 4 * i) .word = x := by
  have hwf : Memory.wf (ackStored l icb s).mem = true := by
    unfold ackStored
    split
    · exact wf_poke s _ .word _ hw
    · exact hw
  rw [entryStored_eq_pokeWords]
  exact peek_pokeWords hwf h

/-- What the entry leaves (R765, R766): the new PSD, the level, the message and the replies of a Class F channel. -/
def entered (l : Level) (icb : Addr) (n1 n2 : Word) (mapRegs : Vector Half 32) (active : BitVec 128)
    (sent : List BusMessage) (replies : List Addr) (free : Nat) (s : State) : State :=
  let u := { s with
    request := putBit s.request l.toNat false, mem := (entryStored l icb s).mem, ackReplies := replies,
    freeCount := free, active := active, sent := sent, mapRegs := mapRegs }.withPsd n1 n2
  { u with noIntNext := true, run := if s.run = .wait then .run else s.run }

theorem enterIntPsd_ok (hc : s.cfg.wf = true) (hb : s.between = []) (ho : s.operandParity = false)
    (hp : s.present (ivlOf l) .word = true) (hicb : addrOf (s.peek (ivlOf l).toNat .word) = icb)
    (hi : s.installed icb.toNat 24 = true) {n1 n2 : Word} (h1 : s.peek (icb.toNat + 8) .word = n1)
    (h2 : s.peek (icb.toNat + 12) .word = n2) (hv : mapFor (intErr s l) n2 (entryStored l icb s) v) :
    ∃ active sent sent' replies free, Acknowledged l s replies free sent' ∧
      (withoutActivate n2 → active = s.active ∧ sent = if s.isClassF l then .deactivate l :: sent' else sent') ∧
      (¬withoutActivate n2 → active = putBit s.active l.toNat true ∧ sent = sent') ∧
      enterIntPsd l s = .ok () (entered l icb n1 n2 v.mapRegs active sent replies free s) := by
  obtain ⟨replies, free, sent', hack, hstep⟩ := acknowledge_step (err := intErr s l) (l := l) hc hb hi
  let w : State := { s with
    request := putBit s.request l.toNat false, mem := (ackStored l icb s).mem, ackReplies := replies,
    freeCount := free, sent := sent' }
  let w2 : State := { w with mem := (entryStored l icb s).mem }
  have hmem : ((w.poke icb.toNat .word s.storedPsd1).poke (icb.toNat + 4) .word s.storedPsd2).mem =
      (entryStored l icb s).mem := mem_poke_congr _ _ _ (mem_poke_congr _ _ _ rfl)
  have hw0 : memOnly w w := rfl
  have hw1 := hw0.poke icb.toNat .word s.storedPsd1
  have hstored : (w.poke icb.toNat .word s.storedPsd1).poke (icb.toNat + 4) .word s.storedPsd2 = w2 :=
    (hw1.poke _ _ _).trans (by rw [hmem])
  have hfirst : physWrite (intErr s l) icb .word s.storedPsd1 w = .ok () (w.poke icb.toNat .word s.storedPsd1) :=
    physWrite_eq (n := .word) _ _ hb (installed_sub hi (Nat.le_refl _) (by simp only [Size.bytes]; omega))
  have hsecond : physWrite (intErr s l) (icb + 4) .word s.storedPsd2 (w.poke icb.toNat .word s.storedPsd1) = .ok () w2 :=
    (hw1.physWrite hc hb hi 4 (by decide) _).trans (congrArg _ hstored)
  have hread (k : Nat) (hk : k = 8 ∨ k = 12) : physRead (intErr s l) (icb + BitVec.ofNat 24 k) .word w2 =
      .ok (s.peek (icb.toNat + k) .word) w2 := by
    have hw2 : memOnly w2 w2 := rfl
    rw [hw2.physRead hc hb ho hi k (by omega), peek_congr (s := entryStored l icb s) (t := w2) rfl, peek_entryStored_new hk]
  have hread1 : physRead (intErr s l) (icb + 8) .word w2 = .ok n1 w2 := (hread 8 (.inl rfl)).trans (by rw [h1])
  have hread2 : physRead (intErr s l) (icb + 12) .word w2 = .ok n2 w2 := (hread 12 (.inr rfl)).trans (by rw [h2])
  obtain ⟨active, sent, hactive, hwithout, hactivates⟩ := activateBy_eq w2 l n2
  have halike : MapAlike (entryStored l icb s) { w2 with active := active, sent := sent } := by
    rw [memOnly_entryStored l icb s]
    exact ⟨rfl, rfl, rfl, rfl, rfl, hb, hb⟩
  refine ⟨active, sent, sent', replies, free, hack, hwithout, hactivates, ?_⟩
  rw [enterIntPsd, physRead_eq _ hb hp ho, Res.bind_ok, hicb]
  change (Res.bind (if s.isClassF l then acknowledgeF (intErr s l) l icb (s.setRequest l false)
    else .ok () (s.setRequest l false)) _) = _
  rw [hstep, Res.bind_ok]
  change (Res.bind (physWrite (intErr s l) icb .word s.storedPsd1 w) _) = _
  rw [hfirst, Res.bind_ok]
  change (Res.bind (physWrite (intErr s l) (icb + 4) .word s.storedPsd2 _) _) = _
  rw [hsecond, Res.bind_ok, hread1, Res.bind_ok, hread2, Res.bind_ok, hactive, loadPsd_mapFor halike hv, Res.bind_ok,
    leaveWait_eq]
  rfl

theorem takeInterrupt_ok (hm : s.mode = .psd) (h : enterIntPsd l s = .ok () u) : takeInterrupt l s = u := by
  unfold takeInterrupt
  rw [hm]
  dsimp only
  rw [h]

theorem entered_loadedPsd {n1 n2 : Word} {mapRegs : Vector Half 32} {active : BitVec 128} {sent : List BusMessage}
    {replies : List Addr} {free : Nat} : LoadedPsd n1 n2 s (entered l icb n1 n2 mapRegs active sent replies free s) :=
  have h : LoadedPsd n1 n2 s ({ s with
      request := putBit s.request l.toNat false, mem := (entryStored l icb s).mem, ackReplies := replies,
      freeCount := free, active := active, sent := sent, mapRegs := mapRegs }.withPsd n1 n2) :=
    loadedPsd_withPsd rfl rfl
  h.of_eq rfl

/-! ### A vector in memory that is not installed (R745) -/

theorem physRead_absent (hb : s.between = []) {pa : Addr} {n : Size} (hp : s.present pa n = false) :
    physRead err pa n s = .stop (.trap (err .nonpresent)) s := by
  rw [physRead, interleave_alone hb, readNow, hp]
  rfl

theorem takeInterrupt_absent (hm : s.mode = .psd) (hb : s.between = []) (hp : s.present (ivlOf l) .word = false) :
    takeInterrupt l s = raiseSync (intErr s l .nonpresent) s := by
  have hstop : enterIntPsd l s = .stop (.trap (intErr s l .nonpresent)) s := by
    rw [enterIntPsd, physRead_absent hb hp]
    rfl
  unfold takeInterrupt
  rw [hm]
  dsimp only
  rw [hstop]

end Interrupt

end Sys2Proof.Machine

namespace Sys2Proof.Proofs

open Sys2Proof.Machine

/-- Settles O52: `enterIntPsd_ok` and the bytes of `entryStored`; `takeInterrupt_absent` for an absent vector. -/
theorem interruptEntryPsd : Obligations.InterruptEntryPsd := by
  refine ⟨fun l s hm hc hb hw ho hp => ?_, fun l s hm hb hp => ?_⟩
  · intro icb hi n1 n2 a base v hv without r
    obtain ⟨active, sent, sent', replies, free, hack, hwithout, hactivates, henter⟩ :=
      enterIntPsd_ok (v := v) hc hb ho hp rfl hi rfl rfl hv
    have hr : r = entered l _ n1 n2 v.mapRegs active sent replies free s := takeInterrupt_ok hm henter
    have hmem : r.mem = (entryStored l (addrOf (s.peek (ivlOf l).toNat .word)) s).mem := by
      rw [hr]
      rfl
    have hactive : r.active = active := by rw [hr]; rfl
    have hsent : r.sent = sent := by rw [hr]; rfl
    have hreplies : r.ackReplies = replies := by rw [hr]; rfl
    have hfree : r.freeCount = free := by rw [hr]; rfl
    have hbyte {b : Nat} (h : b < icb ∨ icb + 8 ≤ b ∧ b < icb + 20 ∨ icb + 24 ≤ b) : r.byte b = s.byte b :=
      (byte_congr hmem b).trans (byte_entryStored_ne h)
    have hold {i : Nat} {x : Word} (h : [s.storedPsd1, s.storedPsd2][i]? = some x) : r.peek (icb + 4 * i) .word = x :=
      (peek_congr hmem _ _).trans (peek_entryStored_old hw h)
    refine ⟨hold (i := 0) rfl, hold (i := 1) rfl, hr ▸ entered_loadedPsd, ?_, fun h => hactive.trans (hwithout h).1,
      fun h => ?_, ?_, fun hf => ?_, fun hf => ?_⟩
    · rw [hr]
      exact levelSet_putBit _ _ _
    · rw [hactive, (hactivates h).1]
      exact levelSet_putBit _ _ _
    · clear_value r
      rw [hr]
      rfl
    · obtain ⟨hr1, hf1, hs1⟩ := hack.other hf
      have hplain : sent = sent' := by
        by_cases hwo : withoutActivate n2
        · rw [(hwithout hwo).2, hf]
          rfl
        · exact (hactivates hwo).2
      exact ⟨hsent.trans (hplain.trans hs1), hreplies.trans hr1, hfree.trans hf1,
        fun b hb => (byte_congr hmem b).trans (byte_entryStored_other hf hb)⟩
    · obtain ⟨hr1, hs1⟩ := hack.classF hf
      refine ⟨hreplies.trans hr1, (peek_congr hmem _ _).trans (peek_entryStored_status hw hf), fun b hb => hbyte hb,
        fun h => ?_, fun h => ?_⟩
      · rw [hsent, (hactivates h).2, hs1]
      · rw [hsent, (hwithout h).2, hf, hs1]
        rfl
  · refine ⟨_, takeInterrupt_absent hm hb hp, ?_⟩
    unfold intErr Trap.of
    cases s.deviceOf l <;> exact ⟨rfl, rfl, rfl⟩

end Sys2Proof.Proofs
end

section
/-!
The floating-point operations (R561 to R577, D44, D45): the round trip of the format, the normalization of FFinish as one
shift by a number of digits, and each operation's magnitude before it.
-/

namespace Sys2Proof.Machine

/-! ### The format (R561, R564) -/

/-- The digits kept before rounding: six and the guard digit of a word, fourteen of a doubleword (R565). -/
def keptDigits (n : Nat) : Nat := if n = 32 then 7 else 14

section Format

variable {n : Nat} {x : FNum}

/-- The magnitude of a pattern, as a number. -/
theorem fMagnitude_toNat (hn : n = 32 ∨ n = 64) (hlo : -64 ≤ x.exp) (hhi : x.exp ≤ 63) (hf : x.frac < 2 ^ (n - 8)) :
    (BitVec.ofNat n ((x.exp + 64).toNat * 2 ^ fracBits n + x.frac)).toNat =
      (x.exp + 64).toNat * 2 ^ (n - 8) + x.frac ∧
    (x.exp + 64).toNat * 2 ^ (n - 8) + x.frac < 2 ^ (n - 1) := by
  have hbound : (x.exp + 64).toNat * 2 ^ (n - 8) + x.frac < 2 ^ (n - 1) := by
    have he : (x.exp + 64).toNat ≤ 127 := by omega
    rcases hn with rfl | rfl <;> simp only [Nat.reduceSub, Nat.reducePow] at hf ⊢ <;> omega
  refine ⟨?_, hbound⟩
  rw [BitVec.toNat_ofNat, fracBits]
  exact Nat.mod_eq_of_lt (hbound.trans (Nat.pow_lt_pow_right (by decide) (by omega)))

/-- The two fields of a magnitude. -/
theorem fields_of_magnitude {m : BitVec n} {e f : Nat} (hn : n = 32 ∨ n = 64) (he : e < 128) (hf : f < 2 ^ (n - 8))
    (hm : m.toNat = e * 2 ^ (n - 8) + f) : (bits m 1 7).toNat = e ∧ (bits m 8 (n - 8)).toNat = f := by
  rcases hn with rfl | rfl <;> simp only [Nat.reduceSub, Nat.reducePow] at hf hm ⊢
  · have h1 : (bits m 1 7).toNat = m.toNat / 2 ^ 24 % 2 ^ 7 := bits_toNat m 1 7
    have h2 : (bits m 8 24).toNat = m.toNat / 2 ^ 0 % 2 ^ 24 := bits_toNat m 8 24
    omega
  · have h1 : (bits m 1 7).toNat = m.toNat / 2 ^ 56 % 2 ^ 7 := bits_toNat m 1 7
    have h2 : (bits m 8 56).toNat = m.toNat / 2 ^ 0 % 2 ^ 56 := bits_toNat m 8 56
    omega

/-- A magnitude other than zero and its two's complement differ in the sign bit. -/
theorem sign_of_magnitude {m : BitVec n} (hn : 0 < n) (h0 : 0 < m.toNat) (hm : m.toNat < 2 ^ (n - 1)) (neg : Bool) :
    bitAt (if neg then -m else m) 0 = neg := by
  have hpow : 2 ^ n = 2 * 2 ^ (n - 1) := by
    rw [← pow_succ']
    congr 1
    omega
  have hshift : n - 1 - 0 = n - 1 := Nat.sub_zero _
  cases neg with
  | false =>
    rw [bitAt_eq_decide, hshift, decide_eq_false_iff_not, if_neg Bool.false_ne_true, Nat.div_eq_of_lt hm]
    decide
  | true =>
    have hdiv : (2 ^ n - m.toNat) / 2 ^ (n - 1) = 1 :=
      Nat.div_eq_of_lt_le (by omega) (by omega)
    rw [bitAt_eq_decide, hshift, decide_eq_true_eq, if_pos rfl, BitVec.toNat_neg,
      Nat.mod_eq_of_lt (show 2 ^ n - m.toNat < 2 ^ n by omega), hdiv]

/-- Encoding a number of the format with a fraction that is not zero decodes to it. -/
theorem fDecode_fEncode (hn : n = 32 ∨ n = 64) (hlo : -64 ≤ x.exp) (hhi : x.exp ≤ 63) (h0 : 0 < x.frac)
    (hf : x.frac < 2 ^ (n - 8)) : fDecode (fEncode n x) = x := by
  obtain ⟨hm, hbound⟩ := fMagnitude_toNat hn hlo hhi hf
  unfold fEncode
  generalize BitVec.ofNat n ((x.exp + 64).toNat * 2 ^ fracBits n + x.frac) = m at hm
  have hm0 : 0 < m.toNat := by omega
  have hsign := sign_of_magnitude (m := m) (by omega) hm0 (by omega) x.neg
  have hback : (if x.neg then -(if x.neg then -m else m) else (if x.neg then -m else m)) = m := by
    cases x.neg with
    | false => rfl
    | true => exact BitVec.neg_neg
  have hne : (if x.neg then -m else m) ≠ 0 := by
    intro hz
    have hz' : m = 0 := by
      rw [hz] at hback
      rw [← hback]
      split
      · exact neg_zero
      · rfl
    rw [hz'] at hm0
    exact absurd hm0 (by simp)
  obtain ⟨hexp, hfrac⟩ := fields_of_magnitude hn (by omega) hf hm
  simp only [fDecode, if_neg hne, hsign, hback, hexp, hfrac]
  rw [Int.toNat_of_nonneg (by omega), Int.add_sub_cancel]

end Format

/-! ### Normalization (R566) -/

section Normal

variable {t fuel k g : Nat} {e : Int}

theorem shrink_of_lt (h : g < 2 ^ t) : shrink t fuel e g = (e, g) := by
  cases fuel with
  | zero => rfl
  | succ fuel => exact if_neg (by omega)

/-- A magnitude with `k` digits too many is shifted right by them. -/
theorem shrink_eq (hk : k ≤ fuel) (hlo : 2 ^ t ≤ 16 * (g / 16 ^ k)) (hhi : g / 16 ^ k < 2 ^ t) :
    shrink t fuel e g = (e + k, g / 16 ^ k) := by
  induction k generalizing fuel e g with
  | zero =>
    rw [pow_zero, Nat.div_one] at hhi ⊢
    rw [shrink_of_lt hhi, Nat.cast_zero, add_zero]
  | succ k ih =>
    cases fuel with
    | zero => omega
    | succ fuel =>
      have hdiv : g / 16 ^ (k + 1) = g / 16 / 16 ^ k := by rw [Nat.div_div_eq_div_mul, ← pow_succ']
      have hge : 2 ^ t ≤ g := by
        have h1 : 16 * (g / 16 ^ (k + 1)) ≤ 16 * (g / 16) := by
          rw [hdiv]
          exact Nat.mul_le_mul_left _ (Nat.div_le_self _ _)
        omega
      rw [hdiv] at hlo hhi ⊢
      rw [shrink, if_pos hge, ih (by omega) hlo hhi, Nat.cast_succ, add_assoc, add_comm (1 : Int)]

theorem grow_of_ge (h : 2 ^ (t - 4) ≤ g) : grow t fuel e g = (e, g) := by
  cases fuel with
  | zero => rfl
  | succ fuel => exact if_neg (by omega)

/-- A magnitude with `k` digits too few is shifted left by them. -/
theorem grow_eq (hk : k ≤ fuel) (hlo : 2 ^ (t - 4) ≤ g * 16 ^ k) (hhi : g * 16 ^ k < 16 * 2 ^ (t - 4)) :
    grow t fuel e g = (e - k, g * 16 ^ k) := by
  induction k generalizing fuel e g with
  | zero =>
    rw [pow_zero, Nat.mul_one] at hlo ⊢
    rw [grow_of_ge hlo, Nat.cast_zero, sub_zero]
  | succ k ih =>
    cases fuel with
    | zero => omega
    | succ fuel =>
      have hmul : g * 16 ^ (k + 1) = g * 16 * 16 ^ k := by rw [pow_succ']; ring
      have hlt : g < 2 ^ (t - 4) := by
        have h1 : g * 16 * 1 ≤ g * 16 * 16 ^ k := Nat.mul_le_mul_left _ (Nat.one_le_pow _ _ (by decide))
        omega
      rw [hmul] at hlo hhi ⊢
      rw [grow, if_pos hlt, ih (by omega) hlo hhi, Nat.cast_succ, sub_sub, add_comm (1 : Int)]

end Normal

section Finish

variable {n g k : Nat} {e : Int} {neg : Bool}

/-- The guard digit counted, the bits of FFinish are the kept digits. -/
theorem finish_bits (hn : n = 32 ∨ n = 64) : 2 ^ (fracBits n + 4 * guards n) = 16 ^ keptDigits n ∧
    2 ^ (fracBits n + 4 * guards n - 4) = 16 ^ (keptDigits n - 1) ∧ 16 ^ keptDigits n = 16 * 16 ^ (keptDigits n - 1) := by
  rcases hn with rfl | rfl <;> decide

/-- A magnitude of `k` digits more than are kept. -/
theorem fFinish_shift (hn : n = 32 ∨ n = 64) (hk : k ≤ 20) (hlo : 16 ^ (keptDigits n - 1) ≤ g / 16 ^ k)
    (hhi : g / 16 ^ k < 16 ^ keptDigits n) :
    fFinish n neg e g = fPack n neg (roundGuard n (e + k) (g / 16 ^ k)) := by
  obtain ⟨htop, hlow, hmul⟩ := finish_bits hn
  have hpos : 0 < 16 ^ (keptDigits n - 1) := by positivity
  have hg : g ≠ 0 := by
    rintro rfl
    rw [Nat.zero_div] at hlo
    omega
  have hshrink : shrink (fracBits n + 4 * guards n) 20 e g = (e + k, g / 16 ^ k) :=
    shrink_eq hk (by rw [htop]; omega) (by rw [htop]; exact hhi)
  rw [fFinish, if_neg hg]
  simp only [hshrink]
  rw [grow_of_ge (by rw [hlow]; exact hlo)]

/-- A magnitude of the digits that are kept. -/
theorem fFinish_kept (hn : n = 32 ∨ n = 64) (hlo : 16 ^ (keptDigits n - 1) ≤ g) (hhi : g < 16 ^ keptDigits n) :
    fFinish n neg e g = fPack n neg (roundGuard n e g) := by
  have hshift := fFinish_shift (k := 0) (e := e) (neg := neg) (g := g) hn (by decide)
    (by rwa [pow_zero, Nat.div_one]) (by rwa [pow_zero, Nat.div_one])
  rwa [pow_zero, Nat.div_one, Nat.cast_zero, add_zero] at hshift

/-- A magnitude of `k` digits fewer than are kept. -/
theorem fFinish_grow (hn : n = 32 ∨ n = 64) (hk : k ≤ 20) (hlo : 16 ^ (keptDigits n - 1) ≤ g * 16 ^ k)
    (hhi : g * 16 ^ k < 16 ^ keptDigits n) :
    fFinish n neg e g = fPack n neg (roundGuard n (e - k) (g * 16 ^ k)) := by
  obtain ⟨htop, hlow, hmul⟩ := finish_bits hn
  have hpos : 0 < 16 ^ (keptDigits n - 1) := by positivity
  have hg : g ≠ 0 := by
    rintro rfl
    rw [Nat.zero_mul] at hlo
    omega
  have hle : g ≤ g * 16 ^ k := Nat.le_mul_of_pos_right g (by positivity)
  have hshrink : shrink (fracBits n + 4 * guards n) 20 e g = (e, g) := shrink_of_lt (by rw [htop]; omega)
  rw [fFinish, if_neg hg]
  simp only [hshrink]
  rw [grow_eq hk (by rw [hlow]; exact hlo) (by rw [hlow, ← hmul]; exact hhi)]

/-- Every magnitude that an operation can give FFinish is shifted by a number of digits to those kept (R566). -/
theorem fFinish_eq (hn : n = 32 ∨ n = 64) (hg : 0 < g) (hlt : g < 2 ^ (n + 40)) (e : Int) (neg : Bool) :
    ∃ (k : Int) (h : Nat), h = g * 16 ^ (-k).toNat / 16 ^ k.toNat ∧ 16 ^ (keptDigits n - 1) ≤ h ∧
      h < 16 ^ keptDigits n ∧ fFinish n neg e g = fPack n neg (roundGuard n (e + k) h) := by
  have hd : 0 < keptDigits n ∧ keptDigits n ≤ 14 := by rcases hn with rfl | rfl <;> decide
  have hlow : 16 ^ Nat.log 16 g ≤ g := Nat.pow_log_le_self 16 (by omega)
  have hhigh : g < 16 ^ (Nat.log 16 g + 1) := Nat.lt_pow_succ_log_self (by decide) g
  have hlog : Nat.log 16 g < keptDigits n + 13 := by
    refine Nat.log_lt_of_lt_pow (by omega) (hlt.trans_le ?_)
    rcases hn with rfl | rfl <;> decide
  by_cases hle : keptDigits n - 1 ≤ Nat.log 16 g
  · obtain ⟨k, hk⟩ := Nat.exists_eq_add_of_le hle
    rw [hk] at hlow hhigh
    have hlo : 16 ^ (keptDigits n - 1) ≤ g / 16 ^ k :=
      (Nat.le_div_iff_mul_le (by positivity)).mpr (by rw [← pow_add]; exact hlow)
    have hhi : g / 16 ^ k < 16 ^ keptDigits n := by
      refine Nat.div_lt_of_lt_mul ?_
      rwa [← pow_add, show k + keptDigits n = keptDigits n - 1 + k + 1 by omega]
    exact ⟨k, _, by simp, hlo, hhi, fFinish_shift hn (by omega) hlo hhi⟩
  · obtain ⟨k, hk⟩ := Nat.exists_eq_add_of_lt (not_le.mp hle)
    have hlo : 16 ^ (keptDigits n - 1) ≤ g * 16 ^ (k + 1) := by
      rw [hk, add_assoc, pow_add]
      exact Nat.mul_le_mul_right _ hlow
    have hhi : g * 16 ^ (k + 1) < 16 ^ keptDigits n := by
      have hsum : keptDigits n = Nat.log 16 g + 1 + (k + 1) := by omega
      rw [hsum, pow_add 16 (Nat.log 16 g + 1)]
      exact (Nat.mul_lt_mul_right (by positivity)).mpr hhigh
    refine ⟨-((k + 1 : Nat) : Int), g * 16 ^ (k + 1), ?_, hlo, hhi, fFinish_grow hn (by omega) hlo hhi⟩
    rw [neg_neg, Int.toNat_natCast, Int.toNat_of_nonpos (by omega), pow_zero, Nat.div_one]

/-! ### Rounding, the carry and the range (R565 to R567) -/

/-- The rounded fraction of kept digits `h`. -/
def rounded (n h : Nat) : Nat := if n = 32 then (h + 8) / 16 else h

/-- The pattern, or the range error, of kept digits. -/
theorem fPack_roundGuard (hn : n = 32 ∨ n = 64) {h : Nat} (hh : h < 16 ^ keptDigits n) (e : Int) (neg : Bool) :
    fPack n neg (roundGuard n e h) =
      let carry := decide (rounded n h = 2 ^ (n - 8))
      let e' := e + (if carry then 1 else 0)
      if 63 < e' then (none, ⟨true, !neg, neg, true⟩)
      else if e' < -64 then (none, ⟨true, !neg, neg, false⟩)
      else (some (fEncode n ⟨neg, e', if carry then 2 ^ (n - 12) else rounded n h⟩), ⟨false, !neg, neg, false⟩) := by
  have hround : roundGuard n e h = (e + (if rounded n h = 2 ^ (n - 8) then 1 else 0),
      if rounded n h = 2 ^ (n - 8) then 2 ^ (n - 12) else rounded n h) := by
    rcases hn with rfl | rfl
    · change h < 16 ^ 7 at hh
      change (if 2 ^ 28 ≤ h + 8 then (e + 1, (h + 8) / 16 / 16) else (e, (h + 8) / 16)) =
        (e + (if (h + 8) / 16 = 2 ^ 24 then 1 else 0), if (h + 8) / 16 = 2 ^ 24 then 2 ^ 20 else (h + 8) / 16)
      by_cases hc : 2 ^ 28 ≤ h + 8
      · have hf : (h + 8) / 16 = 2 ^ 24 := by omega
        rw [if_pos hc, hf]
        rfl
      · have hf : (h + 8) / 16 ≠ 2 ^ 24 := by omega
        rw [if_neg hc, if_neg hf, if_neg hf, add_zero]
    · change h < 16 ^ 14 at hh
      change (e, h) = (e + (if h = 2 ^ 56 then 1 else 0), if h = 2 ^ 56 then 2 ^ 52 else h)
      have hf : h ≠ 2 ^ 56 := by omega
      rw [if_neg hf, if_neg hf, add_zero]
  rw [hround, fPack]
  simp only [decide_eq_true_eq]

/-- The rounded fraction is normalized, the carry taken. -/
theorem rounded_normal (hn : n = 32 ∨ n = 64) {h : Nat} (hlo : 16 ^ (keptDigits n - 1) ≤ h)
    (hhi : h < 16 ^ keptDigits n) :
    2 ^ (n - 12) ≤ (if rounded n h = 2 ^ (n - 8) then 2 ^ (n - 12) else rounded n h) ∧
      (if rounded n h = 2 ^ (n - 8) then 2 ^ (n - 12) else rounded n h) < 2 ^ (n - 8) := by
  rcases hn with rfl | rfl
  · change 16 ^ 6 ≤ h at hlo
    change h < 16 ^ 7 at hhi
    change 2 ^ 20 ≤ (if (h + 8) / 16 = 2 ^ 24 then 2 ^ 20 else (h + 8) / 16) ∧
      (if (h + 8) / 16 = 2 ^ 24 then 2 ^ 20 else (h + 8) / 16) < 2 ^ 24
    split <;> omega
  · change 16 ^ 13 ≤ h at hlo
    change h < 16 ^ 14 at hhi
    change 2 ^ 52 ≤ (if h = 2 ^ 56 then 2 ^ 52 else h) ∧ (if h = 2 ^ 56 then 2 ^ 52 else h) < 2 ^ 56
    split <;> omega

/-- Kept digits, found as the exact magnitude shifted, are the result that R565 to R567 ask for. -/
theorem floatRounded_of_digits (hn : n = 32 ∨ n = 64) {num den h : Nat} (k : Int) {x : FResult n}
    (hh : h = num * 16 ^ guards n * 16 ^ (-k).toNat / (den * 16 ^ k.toNat)) (hlo : 16 ^ (keptDigits n - 1) ≤ h)
    (hhi : h < 16 ^ keptDigits n) (hx : x = fPack n neg (roundGuard n (e + k) h)) : FloatRounded n neg e num den x := by
  rw [fPack_roundGuard hn hhi] at hx
  refine ⟨k, h, ?_⟩
  rcases hn with rfl | rfl <;> exact ⟨hh, hlo, hhi, hx⟩

/-- A normalized fraction with a zero guard digit is left as it is. -/
theorem fPack_normal (hn : n = 32 ∨ n = 64) {f : Nat} (hlo : 2 ^ (n - 12) ≤ f) (hhi : f < 2 ^ (n - 8))
    (he1 : -64 ≤ e) (he2 : e ≤ 63) : fPack n neg (roundGuard n e (f * 16 ^ guards n)) =
      (some (fEncode n ⟨neg, e, f⟩), ⟨false, !neg, neg, false⟩) := by
  have hround : roundGuard n e (f * 16 ^ guards n) = (e, f) := by
    rcases hn with rfl | rfl
    · change f < 2 ^ 24 at hhi
      change (if 2 ^ 28 ≤ f * 16 ^ 1 + 8 then (e + 1, (f * 16 ^ 1 + 8) / 16 / 16) else (e, (f * 16 ^ 1 + 8) / 16)) = _
      have hno : ¬2 ^ 28 ≤ f * 16 ^ 1 + 8 := by omega
      have hfrac : (f * 16 ^ 1 + 8) / 16 = f := by omega
      exact (if_neg hno).trans (by rw [hfrac])
    · change (e, f * 16 ^ 0) = _
      rw [pow_zero, Nat.mul_one]
  rw [hround, fPack, if_neg (by omega), if_neg (by omega)]

/-- The kept digits of a normalized fraction. -/
theorem normal_digits (hn : n = 32 ∨ n = 64) {f : Nat} (hlo : 2 ^ (n - 12) ≤ f) (hhi : f < 2 ^ (n - 8)) :
    16 ^ (keptDigits n - 1) ≤ f * 16 ^ guards n ∧ f * 16 ^ guards n < 16 ^ keptDigits n := by
  rcases hn with rfl | rfl
  · change 2 ^ 20 ≤ f at hlo
    change f < 2 ^ 24 at hhi
    change 16 ^ 6 ≤ f * 16 ^ 1 ∧ f * 16 ^ 1 < 16 ^ 7
    omega
  · change 2 ^ 52 ≤ f at hlo
    change f < 2 ^ 56 at hhi
    change 16 ^ 13 ≤ f * 16 ^ 0 ∧ f * 16 ^ 0 < 16 ^ 14
    omega

/-- A normalized fraction, its guard digit zero, is packed as it is. -/
theorem fFinish_normal (hn : n = 32 ∨ n = 64) {f : Nat} (hlo : 2 ^ (n - 12) ≤ f) (hhi : f < 2 ^ (n - 8))
    (he1 : -64 ≤ e) (he2 : e ≤ 63) : fFinish n neg e (f * 16 ^ guards n) =
      (some (fEncode n ⟨neg, e, f⟩), ⟨false, !neg, neg, false⟩) := by
  obtain ⟨h1, h2⟩ := normal_digits hn hlo hhi
  rw [fFinish_kept hn h1 h2, fPack_normal hn hlo hhi he1 he2]

/-- The same one digit to the left, the exponent one lower. -/
theorem fFinish_normal_left (hn : n = 32 ∨ n = 64) {f : Nat} (hlo : 2 ^ (n - 12) ≤ f) (hhi : f < 2 ^ (n - 8))
    (he1 : -64 ≤ e) (he2 : e ≤ 63) : fFinish n neg (e - 1) (f * 16 ^ guards n * 16) =
      (some (fEncode n ⟨neg, e, f⟩), ⟨false, !neg, neg, false⟩) := by
  obtain ⟨h1, h2⟩ := normal_digits hn hlo hhi
  have hdiv : f * 16 ^ guards n * 16 / 16 ^ 1 = f * 16 ^ guards n := by omega
  have h := fFinish_shift (k := 1) (e := e - 1) (neg := neg) (g := f * 16 ^ guards n * 16) hn (by decide)
    (by rwa [hdiv]) (by rwa [hdiv])
  rw [h, hdiv, Nat.cast_one, sub_add_cancel, fPack_normal hn hlo hhi he1 he2]

/-- What a pattern of FFinish is, and what it means that there is none (R566, R567). -/
theorem fFinish_result (hn : n = 32 ∨ n = 64) (hg : 0 < g) (hlt : g < 2 ^ (n + 40)) :
    (∃ f e', fFinish n neg e g = (some (fEncode n ⟨neg, e', f⟩), ⟨false, !neg, neg, false⟩) ∧ -64 ≤ e' ∧ e' ≤ 63 ∧
      2 ^ (n - 12) ≤ f ∧ f < 2 ^ (n - 8)) ∨
    ∃ c4, fFinish n neg e g = (none, ⟨true, !neg, neg, c4⟩) := by
  obtain ⟨k, h, -, hlo, hhi, hfin⟩ := fFinish_eq hn hg hlt e neg
  obtain ⟨hf1, hf2⟩ := rounded_normal hn hlo hhi
  rw [fPack_roundGuard hn hhi] at hfin
  simp only [decide_eq_true_eq] at hfin
  generalize e + k + (if rounded n h = 2 ^ (n - 8) then 1 else 0) = e' at hfin
  generalize (if rounded n h = 2 ^ (n - 8) then 2 ^ (n - 12) else rounded n h) = f at hfin hf1 hf2
  split at hfin
  · exact .inr ⟨_, hfin⟩
  · split at hfin
    · exact .inr ⟨_, hfin⟩
    · exact .inl ⟨_, _, hfin, by omega, by omega, hf1, hf2⟩

end Finish

/-! ### The operations (R570 to R577) -/

section Operations

variable {n : Nat} {x y : FNum}

theorem fAdd_comm (x y : FNum) : (fAdd x y : FResult n) = fAdd y x := by
  unfold fAdd
  dsimp only
  rw [max_comm, add_comm (if x.neg = true then _ else _)]

theorem fDecode_zero : fDecode (0 : BitVec n) = ⟨false, -64, 0⟩ := if_pos rfl

theorem alignFrac_of_nonpos (limit g : Nat) {d : Int} (h : d ≤ 0) : alignFrac limit g d = g := by
  rw [alignFrac, if_neg (by omega), if_neg (by omega)]

theorem alignFrac_eq (limit g : Nat) {d : Int} (h : 0 ≤ d) :
    alignFrac limit g d = if limit < d.toNat then 0 else g / 16 ^ d.toNat := by
  unfold alignFrac
  by_cases hlim : limit < d.toNat
  · rw [if_pos hlim, if_pos (by omega)]
  · rw [if_neg hlim, if_neg (by omega)]
    split
    · rfl
    · next hpos => rw [show d.toNat = 0 by omega, pow_zero, Nat.div_one]

theorem alignFrac_le (limit g : Nat) (d : Int) : alignFrac limit g d ≤ g := by
  unfold alignFrac
  split
  · exact Nat.zero_le g
  · split
    · exact Nat.div_le_self g _
    · exact le_rfl

/-- A magnitude with its sign. -/
def signed (neg : Bool) (g : Nat) : Int := if neg then -(g : Int) else g

theorem signed_eq (neg : Bool) (g : Nat) : signed neg g = (if neg then -1 else 1) * (g : Int) := by
  cases neg
  · exact (one_mul _).symm
  · exact (neg_one_mul _).symm

theorem signed_natAbs (neg : Bool) (g : Nat) : (signed neg g).natAbs = g := by
  cases neg
  · exact Int.natAbs_natCast g
  · exact (Int.natAbs_neg _).trans (Int.natAbs_natCast g)

theorem signed_neg_iff {neg : Bool} {g : Nat} (hg : 0 < g) : decide (signed neg g < 0) = neg := by
  cases neg <;> simp only [signed, Bool.false_eq_true, if_false, if_true, decide_eq_true_eq, decide_eq_false_iff_not] <;>
    omega

/-- The digits to which the smaller number of a sum may be shifted (R570, R571). -/
def shiftLimit (n : Nat) : Nat := if n = 32 then 6 else 13

/-- The sum of the two numbers shifted to the larger of the exponents `ea` and `eb` (R570, R571). -/
def alignedSum (n : Nat) (x y : FNum) (ea eb : Int) : Int :=
  signed x.neg (alignFrac (shiftLimit n) (x.frac * 16 ^ guards n) (eb - ea)) +
    signed y.neg (alignFrac (shiftLimit n) (y.frac * 16 ^ guards n) (ea - eb))

theorem fAdd_of_exps {ea eb : Int} (ha : expOr x y = ea) (hb : expOr y x = eb) : (fAdd x y : FResult n) =
    fFinish n (decide (alignedSum n x y ea eb < 0)) (max ea eb) (alignedSum n x y ea eb).natAbs := by
  subst ha hb
  rfl

/-- Numbers other than zero, the first of the larger exponent. -/
theorem fAdd_eq (hx : x.frac ≠ 0) (hy : y.frac ≠ 0) (hle : y.exp ≤ x.exp) : (fAdd x y : FResult n) =
    fFinish n (decide (alignedSum n x y x.exp y.exp < 0)) x.exp (alignedSum n x y x.exp y.exp).natAbs := by
  rw [fAdd_of_exps (if_neg hx) (if_neg hy), max_eq_left hle]

theorem frac_ne_zero {f : Nat} (h : 2 ^ (n - 12) ≤ f) : f ≠ 0 := by
  have hpos : 0 < 2 ^ (n - 12) := by positivity
  omega

section One

variable (hn : n = 32 ∨ n = 64) (he1 : -64 ≤ x.exp) (he2 : x.exp ≤ 63) (hlo : 2 ^ (n - 12) ≤ x.frac)
  (hhi : x.frac < 2 ^ (n - 8))
include hn hlo he1 he2 hhi

/-- A zero fraction takes the other number's exponent and adds nothing (R570). -/
theorem fAdd_zero : (fAdd x (fDecode (0 : BitVec n)) : FResult n) =
    (some (fEncode n x), ⟨false, !x.neg, x.neg, false⟩) := by
  have hx := frac_ne_zero hlo
  have hpos : 0 < x.frac * 16 ^ guards n := Nat.mul_pos (Nat.pos_of_ne_zero hx) (by positivity)
  have hsum : alignedSum n x ⟨false, -64, 0⟩ x.exp x.exp = signed x.neg (x.frac * 16 ^ guards n) := by
    rw [alignedSum, alignFrac_of_nonpos _ _ (sub_self x.exp).le, alignFrac_of_nonpos _ _ (sub_self x.exp).le, zero_mul]
    exact add_zero _
  rw [fDecode_zero, fAdd_of_exps (y := ⟨false, -64, 0⟩) (if_neg hx) (if_pos rfl), max_self, hsum,
    signed_neg_iff hpos, signed_natAbs, fFinish_normal hn hlo hhi he1 he2]

theorem fMul_one : (fMul x ⟨false, 1, 2 ^ (n - 12)⟩ : FResult n) =
    (some (fEncode n x), ⟨false, !x.neg, x.neg, false⟩) := by
  have hx := frac_ne_zero hlo
  have hone : ¬(x.frac = 0 ∨ 2 ^ (n - 12) = 0) := by
    have : 0 < 2 ^ (n - 12) := by positivity
    omega
  have hlow : x.frac * 2 ^ (n - 12) < 2 ^ (2 * fracBits n - 4) := by
    rcases hn with rfl | rfl
    · change x.frac < 2 ^ 24 at hhi
      change x.frac * 2 ^ 20 < 2 ^ 44
      omega
    · change x.frac < 2 ^ 56 at hhi
      change x.frac * 2 ^ 52 < 2 ^ 108
      omega
  have hdrop : x.frac * 2 ^ (n - 12) * 16 / 2 ^ (fracBits n - 4 * guards n) = x.frac * 16 ^ guards n := by
    rcases hn with rfl | rfl
    · change x.frac * 2 ^ 20 * 16 / 2 ^ 20 = x.frac * 16 ^ 1
      omega
    · change x.frac * 2 ^ 52 * 16 / 2 ^ 56 = x.frac * 16 ^ 0
      omega
  rw [fMul, if_neg hone]
  simp only [decide_eq_true hlow, if_true, hdrop, add_sub_cancel_right, Bool.bne_false]
  exact fFinish_normal hn hlo hhi he1 he2

theorem fDiv_one : (fDiv x ⟨false, 1, 2 ^ (n - 12)⟩ : FResult n) =
    (some (fEncode n x), ⟨false, !x.neg, x.neg, false⟩) := by
  have hx := frac_ne_zero hlo
  have hone : 2 ^ (n - 12) ≠ 0 := by positivity
  have hquo : x.frac * 2 ^ (fracBits n + 4 * guards n) / 2 ^ (n - 12) = x.frac * 16 ^ guards n * 16 := by
    rcases hn with rfl | rfl
    · change x.frac * 2 ^ 28 / 2 ^ 20 = x.frac * 16 ^ 1 * 16
      omega
    · change x.frac * 2 ^ 56 / 2 ^ 52 = x.frac * 16 ^ 0 * 16
      omega
  rw [fDiv, if_neg hone, if_neg hx, hquo, Bool.bne_false]
  exact fFinish_normal_left hn hlo hhi he1 he2

end One

/-- A number less itself is zero (R572). -/
theorem fSub_self (hx : x.frac ≠ 0) : (fSub x x : FResult n) = (some 0, ⟨false, false, false, true⟩) := by
  have hcancel (g : Nat) : signed x.neg g + signed (!x.neg) g = 0 := by
    cases x.neg <;> simp [signed]
  have hsum : alignedSum n x x.negate x.exp x.exp = 0 := by
    rw [alignedSum, alignFrac_of_nonpos _ _ (sub_self x.exp).le, alignFrac_of_nonpos _ _ (sub_self x.exp).le]
    exact hcancel _
  rw [fSub, fAdd_of_exps (y := x.negate) (ea := x.exp) (eb := x.exp) (if_neg hx) (if_neg hx), hsum]
  rfl

/-! ### The exact results, cut and rounded (D44) -/

section Exact

variable (hn : n = 32 ∨ n = 64) (hx1 : 2 ^ (n - 12) ≤ x.frac) (hx2 : x.frac < 2 ^ (n - 8))
  (hy1 : 2 ^ (n - 12) ≤ y.frac) (hy2 : y.frac < 2 ^ (n - 8))
include hn hx1 hx2 hy1 hy2

/-- The digits that a product keeps, normalized before any is dropped (R574). -/
theorem product_digits : let p := x.frac * y.frac
    let low := p < 2 ^ (2 * fracBits n - 4)
    let h := (if low then p * 16 else p) / 2 ^ (fracBits n - 4 * guards n)
    16 ^ (keptDigits n - 1) ≤ h ∧ h < 16 ^ keptDigits n ∧
      h = p * 16 ^ guards n * (if low then 16 else 1) / 2 ^ (n - 8) := by
  intro p low h
  have hp1 : 2 ^ (n - 12) * 2 ^ (n - 12) ≤ p := Nat.mul_le_mul hx1 hy1
  have hp2 : p < 2 ^ (n - 8) * 2 ^ (n - 8) := Nat.mul_lt_mul'' hx2 hy2
  clear_value p
  rcases hn with rfl | rfl
  · change 2 ^ 20 * 2 ^ 20 ≤ p at hp1
    change p < 2 ^ 24 * 2 ^ 24 at hp2
    change 16 ^ 6 ≤ (if p < 2 ^ 44 then p * 16 else p) / 2 ^ 20 ∧
      (if p < 2 ^ 44 then p * 16 else p) / 2 ^ 20 < 16 ^ 7 ∧
      (if p < 2 ^ 44 then p * 16 else p) / 2 ^ 20 = p * 16 ^ 1 * (if p < 2 ^ 44 then 16 else 1) / 2 ^ 24
    split <;> omega
  · change 2 ^ 52 * 2 ^ 52 ≤ p at hp1
    change p < 2 ^ 56 * 2 ^ 56 at hp2
    change 16 ^ 13 ≤ (if p < 2 ^ 108 then p * 16 else p) / 2 ^ 56 ∧
      (if p < 2 ^ 108 then p * 16 else p) / 2 ^ 56 < 16 ^ 14 ∧
      (if p < 2 ^ 108 then p * 16 else p) / 2 ^ 56 = p * 16 ^ 0 * (if p < 2 ^ 108 then 16 else 1) / 2 ^ 56
    split <;> omega

theorem fMul_floatRounded :
    FloatRounded n (x.neg != y.neg) (x.exp + y.exp) (x.frac * y.frac) (2 ^ (n - 8)) (fMul x y) := by
  obtain ⟨hlo, hhi, hexact⟩ := product_digits hn hx1 hx2 hy1 hy2
  have hzero : ¬(x.frac = 0 ∨ y.frac = 0) := fun h => h.elim (frac_ne_zero hx1) (frac_ne_zero hy1)
  by_cases hlow : x.frac * y.frac < 2 ^ (2 * fracBits n - 4)
  · simp only [if_pos hlow] at hlo hhi hexact
    refine floatRounded_of_digits hn (-1) (hexact.trans ?_) hlo hhi ?_
    · simp
    · rw [fMul, if_neg hzero]
      simp only [decide_eq_true hlow, if_true]
      exact fFinish_kept hn hlo hhi
  · simp only [if_neg hlow] at hlo hhi hexact
    refine floatRounded_of_digits hn 0 (hexact.trans ?_) hlo hhi ?_
    · simp
    · rw [fMul, if_neg hzero, add_zero]
      simp only [decide_eq_false hlow, Bool.false_eq_true, if_false]
      exact fFinish_kept hn hlo hhi

theorem fDiv_floatRounded :
    FloatRounded n (x.neg != y.neg) (x.exp - y.exp) (x.frac * 2 ^ (n - 8)) y.frac (fDiv x y) := by
  have hy := frac_ne_zero hy1
  have hypos : 0 < y.frac := Nat.pos_of_ne_zero hy
  have hquo : x.frac * 2 ^ (fracBits n + 4 * guards n) = x.frac * 2 ^ (n - 8) * 16 ^ guards n := by
    rcases hn with rfl | rfl
    · change x.frac * 2 ^ 28 = x.frac * 2 ^ 24 * 16 ^ 1
      omega
    · change x.frac * 2 ^ 56 = x.frac * 2 ^ 56 * 16 ^ 0
      omega
  have hbound : 16 ^ (keptDigits n - 1) * y.frac ≤ x.frac * 2 ^ (n - 8) * 16 ^ guards n ∧
      x.frac * 2 ^ (n - 8) * 16 ^ guards n < 16 * 16 ^ keptDigits n * y.frac := by
    rcases hn with rfl | rfl
    · change 2 ^ 20 ≤ x.frac at hx1
      change x.frac < 2 ^ 24 at hx2
      change 2 ^ 20 ≤ y.frac at hy1
      change y.frac < 2 ^ 24 at hy2
      change 16 ^ 6 * y.frac ≤ x.frac * 2 ^ 24 * 16 ^ 1 ∧ x.frac * 2 ^ 24 * 16 ^ 1 < 16 * 16 ^ 7 * y.frac
      omega
    · change 2 ^ 52 ≤ x.frac at hx1
      change x.frac < 2 ^ 56 at hx2
      change 2 ^ 52 ≤ y.frac at hy1
      change y.frac < 2 ^ 56 at hy2
      change 16 ^ 13 * y.frac ≤ x.frac * 2 ^ 56 * 16 ^ 0 ∧ x.frac * 2 ^ 56 * 16 ^ 0 < 16 * 16 ^ 14 * y.frac
      omega
  have hdiv : (fDiv x y : FResult n) = fFinish n (x.neg != y.neg) (x.exp - y.exp)
      (x.frac * 2 ^ (n - 8) * 16 ^ guards n / y.frac) := by
    rw [fDiv, if_neg hy, if_neg (frac_ne_zero hx1), hquo]
  have hlo := (Nat.le_div_iff_mul_le hypos).mpr hbound.1
  have hhi := (Nat.div_lt_iff_lt_mul hypos).mpr hbound.2
  by_cases hfit : x.frac * 2 ^ (n - 8) * 16 ^ guards n / y.frac < 16 ^ keptDigits n
  · exact floatRounded_of_digits hn 0 (by simp) hlo hfit
      (by rw [hdiv, fFinish_kept hn hlo hfit, add_zero])
  · obtain ⟨-, -, htop⟩ := finish_bits hn
    have hone : x.frac * 2 ^ (n - 8) * 16 ^ guards n / y.frac / 16 ^ 1 =
        x.frac * 2 ^ (n - 8) * 16 ^ guards n / (y.frac * 16 ^ 1) := Nat.div_div_eq_div_mul _ _ _
    have hlo' : 16 ^ (keptDigits n - 1) ≤ x.frac * 2 ^ (n - 8) * 16 ^ guards n / y.frac / 16 ^ 1 := by omega
    have hhi' : x.frac * 2 ^ (n - 8) * 16 ^ guards n / y.frac / 16 ^ 1 < 16 ^ keptDigits n := by omega
    refine floatRounded_of_digits hn 1 (hone.trans ?_) hlo' hhi' ?_
    · simp
    · rw [hdiv, fFinish_shift hn (by decide) hlo' hhi', Nat.cast_one]

end Exact

/-! ### The sum (R570, R571) -/

/-- The larger number is not shifted, the other one by the difference of the exponents. -/
theorem alignedSum_eq (hle : y.exp ≤ x.exp) : alignedSum n x y x.exp y.exp =
    (if x.neg then -1 else 1) * ((x.frac * 16 ^ guards n : Nat) : Int) +
      (if y.neg then -1 else 1) * ((if shiftLimit n < (x.exp - y.exp).toNat then 0
        else y.frac * 16 ^ guards n / 16 ^ (x.exp - y.exp).toNat : Nat) : Int) := by
  rw [alignedSum, alignFrac_of_nonpos _ _ (by omega), alignFrac_eq _ _ (by omega), signed_eq, signed_eq]

/-- A sum of two normalized numbers has at most one digit more than they. -/
theorem alignedSum_lt (hn : n = 32 ∨ n = 64) (hx : x.frac < 2 ^ (n - 8)) (hy : y.frac < 2 ^ (n - 8)) (ea eb : Int) :
    (alignedSum n x y ea eb).natAbs < 2 ^ (n + 40) := by
  have hsum : (alignedSum n x y ea eb).natAbs ≤ x.frac * 16 ^ guards n + y.frac * 16 ^ guards n := by
    refine (Int.natAbs_add_le _ _).trans ?_
    rw [signed_natAbs, signed_natAbs]
    exact Nat.add_le_add (alignFrac_le _ _ _) (alignFrac_le _ _ _)
  refine hsum.trans_lt ?_
  rcases hn with rfl | rfl
  · change x.frac < 2 ^ 24 at hx
    change y.frac < 2 ^ 24 at hy
    change x.frac * 16 ^ 1 + y.frac * 16 ^ 1 < 2 ^ 72
    omega
  · change x.frac < 2 ^ 56 at hx
    change y.frac < 2 ^ 56 at hy
    change x.frac * 16 ^ 0 + y.frac * 16 ^ 0 < 2 ^ 104
    omega

theorem fAdd_floatRounded (hn : n = 32 ∨ n = 64) (hx1 : 2 ^ (n - 12) ≤ x.frac) (hx2 : x.frac < 2 ^ (n - 8))
    (hy1 : 2 ^ (n - 12) ≤ y.frac) (hy2 : y.frac < 2 ^ (n - 8)) (hle : y.exp ≤ x.exp)
    (hsum : alignedSum n x y x.exp y.exp ≠ 0) :
    FloatRounded n (decide (alignedSum n x y x.exp y.exp < 0)) x.exp (alignedSum n x y x.exp y.exp).natAbs
      (16 ^ guards n) (fAdd x y) := by
  obtain ⟨k, h, hh, hlo, hhi, hfin⟩ := fFinish_eq hn (Int.natAbs_pos.mpr hsum) (alignedSum_lt hn hx2 hy2 x.exp y.exp)
    x.exp (decide (alignedSum n x y x.exp y.exp < 0))
  refine floatRounded_of_digits hn k (hh.trans ?_) hlo hhi
    ((fAdd_eq (frac_ne_zero hx1) (frac_ne_zero hy1) hle).trans hfin)
  rw [mul_right_comm, mul_comm (_ * _) (16 ^ guards n), Nat.mul_div_mul_left _ _ (by positivity)]

theorem fAdd_cancel (hx : x.frac ≠ 0) (hy : y.frac ≠ 0) (hle : y.exp ≤ x.exp)
    (hsum : alignedSum n x y x.exp y.exp = 0) : (fAdd x y : FResult n) = (some 0, ⟨false, false, false, true⟩) := by
  rw [fAdd_eq hx hy hle, hsum]
  rfl

end Operations

/-! ### The results (O31) -/

/-- A pattern of FFinish, decoded; and the codes where there is none (R566, R567). -/
theorem fFinish_reports {n : Nat} {neg : Bool} {e : Int} {g : Nat} (hn : n = 32 ∨ n = 64) (hg : 0 < g)
    (hlt : g < 2 ^ (n + 40)) :
    (∀ w c, fFinish n neg e g = (some w, c) →
       c = ⟨false, !neg, neg, false⟩ ∧ (fDecode w).neg = neg ∧ -64 ≤ (fDecode w).exp ∧ (fDecode w).exp ≤ 63 ∧
       2 ^ (n - 12) ≤ (fDecode w).frac ∧ (fDecode w).frac < 2 ^ (n - 8)) ∧
    (∀ c, fFinish n neg e g = (none, c) → c.cc1 = true ∧ c.cc2 = !neg ∧ c.cc3 = neg) := by
  obtain ⟨f, e', hfin, he1, he2, hf1, hf2⟩ | ⟨c4, hfin⟩ := fFinish_result (neg := neg) (e := e) hn hg hlt
  · have hback := fDecode_fEncode (x := ⟨neg, e', f⟩) hn he1 he2 (Nat.pos_of_ne_zero (frac_ne_zero hf1)) hf2
    refine ⟨fun w c hw => ?_, fun c hc => ?_⟩
    · obtain ⟨rfl, rfl⟩ : fEncode n ⟨neg, e', f⟩ = w ∧ (⟨false, !neg, neg, false⟩ : CC) = c := by
        simpa only [Prod.mk.injEq, Option.some.injEq] using hfin.symm.trans hw
      rw [hback]
      exact ⟨rfl, rfl, he1, he2, hf1, hf2⟩
    · exact absurd (congrArg Prod.fst (hfin.symm.trans hc)) (Option.some_ne_none _)
  · refine ⟨fun w c hw => ?_, fun c hc => ?_⟩
    · exact absurd (congrArg Prod.fst (hw.symm.trans hfin)) (Option.some_ne_none _)
    · obtain rfl : (⟨true, !neg, neg, c4⟩ : CC) = c := congrArg Prod.snd (hfin.symm.trans hc)
      exact ⟨rfl, rfl, rfl⟩

/-- A zero divisor leaves no result (R577, D45). -/
theorem fDiv_zero {n : Nat} (x : FNum) :
    (fDiv x (fDecode (0 : BitVec n)) : FResult n) = (none, ⟨true, false, false, false⟩) := by
  rw [fDecode_zero]
  exact if_pos rfl

/-- The statement's unit and limit are the model's guard digit and shift limit. -/
theorem sixteen_pow_guards (n : Nat) : (if n = 32 then 16 else 1) = 16 ^ guards n := by
  unfold guards
  split <;> rfl

/-- Settles O31: each operation's magnitude is the exact one with its digits cut, which FFinish shifts by one number of
digits (`fFinish_eq`) and rounds. -/
theorem floatResults : Obligations.FloatResults := by
  refine ⟨?finish, ?unchanged, ?exact⟩
  case finish =>
    intro n neg e g hn hg hlt
    exact fFinish_reports hn hg hlt
  case unchanged =>
    intro n x hn he1 he2 hf1 hf2 one same
    have hzero := fAdd_zero hn he1 he2 hf1 hf2
    exact ⟨fDecode_fEncode hn he1 he2 (Nat.pos_of_ne_zero (frac_ne_zero hf1)) hf2, hzero,
      (fAdd_comm _ _).trans hzero, fMul_one hn he1 he2 hf1 hf2, fDiv_one hn he1 he2 hf1 hf2,
      fSub_self (frac_ne_zero hf1), fDiv_zero x⟩
  case exact =>
    intro n x y hn _ _ _ _ hx1 hx2 hy1 hy2 unit limit d shifted sum
    have hunit : unit = 16 ^ guards n := sixteen_pow_guards n
    have hsum (hle : y.exp ≤ x.exp) : sum = alignedSum n x y x.exp y.exp := by
      rw [alignedSum_eq hle, ← hunit]
      rfl
    refine ⟨fMul_floatRounded hn hx1 hx2 hy1 hy2, fDiv_floatRounded hn hx1 hx2 hy1 hy2, fun hle hne => ?_,
      fun hle hzero => ?_, fAdd_comm x y⟩
    · rw [hsum hle] at hne ⊢
      rw [hunit]
      exact fAdd_floatRounded hn hx1 hx2 hy1 hy2 hle hne
    · exact fAdd_cancel (frac_ne_zero hx1) (frac_ne_zero hy1) hle ((hsum hle).symm.trans hzero)

end Sys2Proof.Machine
end
